-- ==== Sys2Proof/Word.lean ====
section
/-! DEFINITION. The byte type of the CS48's frames, replies and notices, and the size of its numbers. -/

namespace Sys2Proof

/-- One byte of a frame, a command, a reply or a notice. -/
abbrev Byte := BitVec 8

/-- A station address on the peer link, 0 to 31 (00_scope 1.2). -/
abbrev Addr := Fin 32

/-- The largest 32-bit number, 2^32 - 1. -/
abbrev max32 : Nat := 4294967295

end Sys2Proof
end

