-- ==== Sys2Proof/Syntax.lean ====
section
/-! DEFINITION. The commands of the block: one constructor for each row of spec/opcode_table.json, with the
data each carries from outside. -/

namespace Sys2Proof

/-- The role strap (R1), in the order its table lists the values. -/
inductive Role where
  | line | supervisor | fan | supply
  deriving DecidableEq, Repr

/-- The chassis redundancy strap (R1). -/
inductive Redundancy where
  | n | nPlusOne
  deriving DecidableEq, Repr

/-- The straps of R1. -/
structure Straps where
  slot : Addr
  role : Role
  redund : Redundancy
  cls : Fin 4
  /-- ROTORS reads 8 (otherwise 4). -/
  eightRotors : Bool
  deriving DecidableEq, Repr

/-- Which reset was asserted (R17). -/
inductive ResetKind where
  | powerOn | moduleReset
  deriving DecidableEq, Repr

/-- What the station samples at reset release: the straps (R1) and the levels that R14, R55, R97 and R108
read then. -/
structure ReleasePins where
  straps : Straps
  ejectOpen : Bool
  faultLow : Bool
  inOk : Bool
  outOk : Bool
  earlyWarn : Bool
  /-- The rotor-present inputs, rotor 0 first (R97). -/
  rotorPresent : List Bool
  deriving DecidableEq, Repr

/-- What a sensor sample reads (R80, R106): each sensor's temperature in °C, `none` for an open or shorted
sensor, and the load code on ML4 to ML11. -/
structure Sensors where
  s0 : Option Int
  s1 : Option Int
  s2 : Option Int
  s3 : Option Int
  loadCode : Byte
  deriving DecidableEq, Repr

/-- What a rotor check reads (R95, R97): the rotor-present inputs and the tach pulses counted in the 1 s before
it, rotor 0 first. -/
structure RotorPins where
  present : List Bool
  pulses : List Nat
  deriving DecidableEq, Repr

/-- One of the two transmit queues (R27, R28). -/
inductive TxQueue where
  | urgent | normal
  deriving DecidableEq, Repr

/-- One of the two retained records (section 1.4). -/
inductive RecordId where
  | seat | zoning
  deriving DecidableEq, Repr

/-- The commands, one for each row of spec/opcode_table.json, in the table's order. A host command carries
the bytes of its SPI transaction that follow the code byte: the tag, L and the payload (section 12.6). -/
inductive Instr where
  | resetAssert (kind : ResetKind)
  | resetRelease (pins : ReleasePins)
  | ejectPinChange (isOpen : Bool)
  | ejectJudgedOpen
  | ejectJudgedClosed
  | faultLineChange (isLow : Bool)
  | faultConditionSet
  | faultConditionClear
  | sensorSample (r : Sensors)
  | rotorCheck (r : RotorPins)
  | inOkChange (high : Bool)
  | outOkChange (high : Bool)
  | earlyWarnChange (asserted : Bool)
  | outputLostExpire
  | goodRunComplete
  | storeWriteComplete (rec : RecordId)
  /-- `bits` is the activity from its first dominant bit (`false`) up to its closing run, which ends it; its first
  bit lies `lead` bit times before the clock, so that the event falls `bits.length + 8 - lead` after it
  (notes/assumptions/7.md). -/
  | lineActivityEnd (bits : List Bool) (lead : Nat)
  | txGapComplete
  | txCollision
  | jamEnd
  | txFrameComplete
  | backoffExpire (q : TxQueue)
  | holdCounterExpire
  | holdGuardExpire
  | rollcallTaken
  | supplyDropTaken
  | departTaken
  | seatAskTaken
  | seatGiveTaken
  | seatAckTaken
  | zoneOpenTaken
  | zoneSegTaken
  | zoneVoteTaken
  | zoneCommitTaken
  | zoneAbandonTaken
  | rollcallPeriodExpire
  | peerAgeExpire (peer : Addr)
  | silenceTimerExpire
  | joiningTimerExpire
  | settleWindowExpire
  | retryTimerExpire
  | fanHoldExpire
  | fanStepExpire
  | askOutstandingExpire
  | askSpacingExpire
  | answerDelayExpire (asker : Addr)
  | escrowTimerExpire (xfer : Nat)
  | lightingTimerExpire (port : Nat)
  | dimmingTimerExpire (port : Nat)
  | historyBoundary
  | segmentTimerExpire
  | voteWindowExpire
  | orphanTimerExpire
  | zoneResendTimerExpire
  | filterAck (port : Nat)
  | filterTryExpire
  | departureTimerExpire
  | departRetryExpire
  | intDeassertIntervalExpire
  /-- `reads` is how many bytes the host clocks out after the status byte (R175). -/
  | fetch (reads : Nat)
  | set (rest : List Byte)
  | join (rest : List Byte)
  | depart (rest : List Byte)
  | linkRestart (rest : List Byte)
  | forgetPeer (rest : List Byte)
  | forceFans (rest : List Byte)
  | portRequest (rest : List Byte)
  | portCancel (rest : List Byte)
  | portRelease (rest : List Byte)
  | portAttach (rest : List Byte)
  | portDetach (rest : List Byte)
  | seatInstall (rest : List Byte)
  | seatWithdraw (rest : List Byte)
  | seatReclaim (rest : List Byte)
  | zoneDraftClear (rest : List Byte)
  | zoneDraftAdd (rest : List Byte)
  | zoneDraftRemove (rest : List Byte)
  | zonePublish (rest : List Byte)
  | readTable (rest : List Byte)
  | readNext (rest : List Byte)
  | readNotice (rest : List Byte)
  | readCounters (rest : List Byte)
  | readStatus (rest : List Byte)
  | commandUnknown (code : Byte) (rest : List Byte)
  deriving DecidableEq, Repr

end Sys2Proof
end

