-- ==== Sys2Proof/Config.lean ====
section
/-! DEFINITION. The part's fixed times and sizes, and the free values: what the manual leaves open. -/

namespace Sys2Proof.Config

/-- A time in ms, in bit times of 0.5 µs (R19). -/
abbrev ms (n : Nat) : Nat := 2000 * n

/-- One slot time, 64 bit times (R25). -/
abbrev slotTime : Nat := 64

/-- The interframe gap, 24 bit times (R23). -/
abbrev interframeGap : Nat := 24

/-- The jam, 8 bit times (R24). -/
abbrev jamTime : Nat := 8

/-- The run of recessive bits that ends a frame (R19). -/
abbrev endRun : Nat := 8

/-- Capacity of the urgent transmit queue (R27). -/
abbrev urgentCap : Nat := 4

/-- Capacity of the normal transmit queue (R28). -/
abbrev normalCap : Nat := 16

/-- Capacity of the receive queue (R36). -/
abbrev receiveCap : Nat := 8

/-- Receive-queue length at which a HOLD is called for (R38). -/
abbrev holdLevel : Nat := 6

/-- Capacity of the notice queue (R179). -/
abbrev noticeCap : Nat := 32

/-- Most seats a station owns (R109). -/
abbrev seatCap : Nat := 4096

/-- Slots of the escrow list (section 7.1). -/
abbrev escrowCap : Nat := 4

/-- Most identities the silicon takes in one list (R159). -/
abbrev listCap : Nat := 256

/-- FREE VALUE: the n-th random number drawn for a backoff wait (R25: "k is drawn at random").
Nothing constrains it. DESIGN CHOICE, safe: notes/assumptions/5.md. -/
opaque backoffDraw : Nat → Nat

/-- FREE VALUE: what a HOLD whose hold length is outside 1 to 50 loads into the hold counter; R39
states no value there. DESIGN CHOICE: notes/assumptions/6.md. -/
opaque holdOutside : Nat → Nat

end Sys2Proof.Config
end

