-- ==== Sys2Proof/Machine/State.lean ====
section
/-! DEFINITION. The state of one station, block by block, as plain data, and the state while reset is asserted
(`State.reset`). Times are bit times since the last reset release; a running timer is held as the time at which
it ends. -/

namespace Sys2Proof.Machine

/-! ## Names of chapter 1 -/

/-- Station states (section 1.3). -/
inductive StationState where
  | reset | setup | joining | active | isolated | departing | departed
  deriving DecidableEq, Repr

/-- Causes of STATE-CHANGED, in the order R9 lists them. -/
inductive Cause where
  | join | joined | attemptLimit | silence | addressClash | peerHeard | linkRestart | eject | departCommand
  | shutdown | departureDone | forced | latchClosed
  deriving DecidableEq, Repr

/-- The pending departure request of R10: none, set by EJECT alone, or set by a DEPART command. -/
inductive PendingDeparture where
  | none | eject | command
  deriving DecidableEq, Repr

/-- The settings of R7. Base draw exists on LINE and SUPERVISOR, seat reserve and give-on-depart on LINE. -/
structure Settings where
  tLow : Int
  tHigh : Int
  tCrit : Int
  tShut : Int
  base : Nat
  reserve : Nat
  giveOnDepart : Bool
  intMin : Nat
  deriving DecidableEq, Repr

/-- Chapter 1: the strap and line unit and the station's life cycle. -/
structure Station where
  state : StationState
  straps : Straps
  settings : Settings
  /-- EJECT pin reads open. -/
  ejectPin : Bool
  /-- EJECT judged open (R14). -/
  ejectOpen : Bool
  /-- End of the 20 ms measure under way (R14). -/
  ejectMeasure : Option Nat
  pend : PendingDeparture
  joinTimer : Option Nat
  silence : Option Nat
  silenceArmed : Bool
  /-- Consecutive attempt-limit drops (R11). -/
  drops : Nat
  /-- Address-clash hold (R11, R34). -/
  clash : Bool
  ready : Bool
  pwroff : Bool
  resetCause : ResetKind
  deriving DecidableEq, Repr

/-! ## Chapter 9's sets and chapter 7's escrow entries, which the retained store holds -/

/-- A member entry: a zone id and a node identity (R142). -/
structure ZEntry where
  zone : Nat
  node : Nat
  deriving DecidableEq, Repr

/-- A zone set as its entry sequence (R142). -/
abbrev ZoneSet := List ZEntry

/-- An escrow entry (section 7.1). -/
structure Escrow where
  xfer : Nat
  rcpt : Addr
  count : Nat
  ask : Option Nat
  tries : Nat
  timer : Option Nat
  unanswered : Bool
  stranded : Bool
  deriving DecidableEq, Repr

/-- The retained part of an escrow entry (section 1.4). -/
structure KeptEscrow where
  xfer : Nat
  rcpt : Addr
  count : Nat
  deriving DecidableEq, Repr

/-- The seat record (section 1.4). -/
structure SeatRecord where
  /-- free + bound at the time of writing. -/
  freeCount : Nat
  escrow : List KeptEscrow
  receipts : Vector Nat 32
  next : Nat
  serial : Nat
  deriving DecidableEq, Repr

/-- The zoning record (section 1.4). -/
structure ZoneRecord where
  active : ZoneSet
  gen : Nat
  lastProposed : Nat
  deriving DecidableEq, Repr

/-- An action that waits for a retained-store write (R15). -/
inductive Wait where
  /-- The first SEAT-GIVE of an escrow entry (R119, R120). -/
  | give (xfer : Nat)
  /-- The SEAT-ACK of a give; `fresh` when the give was accepted, so that SEATS-RECEIVED is raised with it (R121). -/
  | ack (giver : Addr) (xfer count : Nat) (fresh : Bool)
  /-- The OK of SEAT-INSTALL, SEAT-WITHDRAW or SEAT-RECLAIM (R112 to R114). -/
  | reply
  /-- The ZONE-OPEN of a publish (R146). -/
  | zoneOpen (gen : Nat)
  /-- A commit (R152, R153). -/
  | commit
  deriving DecidableEq, Repr

/-- A complete copy of a retained record and its write count (R15). -/
structure Copy (α : Type) where
  writes : Nat
  contents : α
  deriving DecidableEq, Repr

/-- One retained record: its two copies (`none` when the completion check fails) and the write in flight (R15). -/
structure Record (α : Type) where
  a : Option (Copy α)
  b : Option (Copy α)
  /-- The contents the write in flight carries. -/
  writing : Option α
  /-- Actions waiting for the write in flight. -/
  waiting : List Wait
  /-- A change has come since the write in flight began (or, with none in flight, since the last). -/
  changed : Bool
  /-- Actions waiting for the further write. -/
  waitingNext : List Wait
  deriving DecidableEq, Repr

/-- The retained store (section 1.4). -/
structure Store where
  seat : Record SeatRecord
  zoning : Record ZoneRecord
  deriving DecidableEq, Repr

/-! ## Frames -/

inductive Thermal where
  | normal | critical | shutdown
  deriving DecidableEq, Repr

inductive SupplyState where
  | absent | starting | good | warning | failed
  deriving DecidableEq, Repr

/-- Causes of SUPPLY-STATE, in the order of section 12.6. -/
inductive SupplyCause where
  | inputUp | inputDown | earlyWarn | outputGood | outputLost | departing | departed | shutdown
  deriving DecidableEq, Repr

/-- The zoning lock (R143). -/
inductive Lock where
  | free | publishing | collecting | receiving | ready | applying
  deriving DecidableEq, Repr

/-- The fields of a ROLLCALL (R42); NONE is `none`. -/
structure Roll where
  state : StationState
  role : Role
  thermal : Thermal
  /-- `none` is INVALID. -/
  hottest : Option Int
  demand : Nat
  forced : Bool
  claim : Nat
  tent : Nat
  offer : Nat
  supply : Option SupplyState
  duty : Option Nat
  failed : Option Nat
  giveable : Nat
  gen : Nat
  lock : Lock
  /-- Long form only. -/
  origin : Option Addr
  /-- Long form only. -/
  proposed : Option Nat
  faultHeld : Bool
  deriving DecidableEq, Repr

/-- The frame kinds (section 2.1). -/
inductive Kind where
  | rollcall | hold | supplyDrop | depart | seatAsk | seatGive | seatAck | zoneOpen | zoneSeg | zoneVote
  | zoneCommit | zoneAbandon
  deriving DecidableEq, Repr

/-- Verdicts of a ZONE-VOTE (R150). -/
inductive Verdict where
  | ready | refuse | busy
  deriving DecidableEq, Repr

/-- Zoning reasons (section 12.6). -/
inductive Reason where
  | none | incomplete | check | malformed | stale | capacity | departing | busy | noVote | superseded | implicit
  | linkRestart
  deriving DecidableEq, Repr

/-- A frame the station composes, by kind and named contents. -/
inductive Msg where
  | rollcall (f : Roll)
  | hold (len : Nat)
  | supplyDrop
  | depart
  | seatAsk (ask count : Nat)
  | seatGive (xfer : Nat) (rcpt : Addr) (ask : Option Nat) (count : Nat)
  | seatAck (rcpt : Addr) (xfer count : Nat)
  | zoneOpen (gen n check : Nat)
  | zoneSeg (gen k : Nat) (entries : List ZEntry)
  | zoneVote (rcpt : Addr) (gen : Nat) (verdict : Verdict) (reason : Reason) (port : Option Nat)
  | zoneCommit (gen : Nat)
  | zoneAbandon (gen : Nat) (reason : Reason)
  deriving DecidableEq, Repr

/-- A frame in the receive queue: its source, kind and payload bytes (R36). -/
structure RxFrame where
  src : Addr
  kind : Kind
  payload : List Byte
  deriving DecidableEq, Repr

/-! ## Chapter 2: the peer link -/

/-- The transmit engine (section 2.2). -/
inductive Engine where
  | idle
  | defer (q : TxQueue)
  /-- The head of `q` is being sent; `bits` are the levels it is sent at (`false` dominant), begun at `start`. -/
  | send (q : TxQueue) (start : Nat) (bits : List Bool)
  /-- The eight jam bits; `q` is `none` when LINK-RESTART has discarded the frame (R31). -/
  | jam (q : Option TxQueue) (ends : Nat)
  deriving DecidableEq, Repr

/-- The attempt record of a queue's head (R25). -/
structure Attempt where
  collisions : Nat
  backoff : Option Nat
  deriving DecidableEq, Repr

/-- The hold guard (R38). -/
inductive Guard where
  | clear
  /-- Running without a time: the HOLD has not left the queue yet. -/
  | armed
  | running (ends : Nat)
  deriving DecidableEq, Repr

/-- The eleven link counters (R40). -/
structure Counters where
  sent : Nat
  received : Nat
  collisions : Nat
  drops : Nat
  badCheck : Nat
  runt : Nat
  giant : Nat
  overrun : Nat
  unknownKind : Nat
  holdsSent : Nat
  holdsReceived : Nat
  deriving DecidableEq, Repr

structure Link where
  engine : Engine
  urgent : List Msg
  normal : List Msg
  urgentTry : Attempt
  normalTry : Attempt
  /-- Held ROLLCALL contents (R29). -/
  held : Option Roll
  /-- End of the hold counter's count; `none` when it is zero (R39). -/
  hold : Option Nat
  guard : Guard
  counters : Counters
  rx : List RxFrame
  /-- When the line was last seen to fall idle. -/
  idleFrom : Nat
  /-- When reception began or was restarted: activity that began before it is discarded (R37). -/
  listenFrom : Nat
  /-- When the last attempt of the station's own ended, by its end bit or by its jam (R32, R33). -/
  ownUntil : Option Nat
  deriving DecidableEq, Repr

/-! ## Chapter 3: the chassis view -/

/-- Entry states other than EMPTY (R43). -/
inductive Presence where
  | present | lost | gone
  deriving DecidableEq, Repr

/-- A chassis-view entry (R43): only an EMPTY entry records no fields. -/
inductive Entry where
  | empty
  | known (p : Presence) (heardAt : Nat) (f : Roll)
  deriving DecidableEq, Repr

structure View where
  entries : Vector Entry 32
  period : Option Nat
  /-- FAULT is sensed low (R55). -/
  faultLow : Bool
  /-- End of the 500 ms measure under way (R55). -/
  faultMeasure : Option Nat
  /-- Chassis fault condition SET. -/
  faultSet : Bool
  /-- The station's own pull (R54). -/
  pull : Bool
  deriving DecidableEq, Repr

/-! ## Chapter 4: the power budget -/

/-- The effective values of an entry (R51). -/
structure Eff where
  role : Role
  claim : Nat
  tent : Nat
  offer : Nat
  deriving DecidableEq, Repr

/-- Coverage (R68); NONE on SUPPLY. -/
inductive Coverage where
  | covered | uncovered | none
  deriving DecidableEq, Repr

structure Budget where
  derate : Nat
  offer : Nat
  usable : Nat
  margined : Nat
  counted : Nat
  /-- Redundancy condition HELD, as last computed (R60). -/
  redundant : Bool
  coverage : Coverage
  runSum : Nat
  /-- Redundancy condition HELD, as last reported (R62). -/
  repRedundant : Bool
  repCoverage : Coverage
  exhausted : Bool
  claim : Nat
  tent : Nat
  window : Option Nat
  retry : Option Nat
  heldView : Option (List (Option Eff))
  deriving DecidableEq, Repr

/-! ## Chapter 5: cooling -/

/-- The readings of a sample; `none` is INVALID (R80). -/
structure Readings where
  s0 : Option Int
  s1 : Option Int
  s2 : Option Int
  s3 : Option Int
  deriving DecidableEq, Repr

/-- The ramp phase (R93). -/
inductive Ramp where
  | steady
  | holding (ends : Nat)
  | stepping (ends : Nat)
  deriving DecidableEq, Repr

inductive RotorState where
  | ok | failed | absent
  deriving DecidableEq, Repr

/-- A rotor record (R95); its index is its place in the table. -/
structure Rotor where
  state : RotorState
  low : Nat
  good : Nat
  speed : Nat
  skipEnd : Option Nat
  deriving DecidableEq, Repr

structure Cooling where
  readings : Readings
  hottest : Option Int
  /-- A sample has been taken since reset release (R81). -/
  sampled : Bool
  sampleAt : Option Nat
  demand : Nat
  forced : Bool
  critCount : Nat
  clearCount : Nat
  shutCount : Nat
  /-- SHUTDOWN is the latch (R85). -/
  thermal : Thermal
  target : Nat
  duty : Nat
  ramp : Ramp
  forcing : Bool
  lastDuty : Nat
  rotors : List Rotor
  checkAt : Option Nat
  deriving DecidableEq, Repr

/-! ## Chapter 6: the supply monitor -/

/-- The good-run measure (R100). -/
inductive GoodRun where
  | off
  | running (ends : Nat)
  | complete
  deriving DecidableEq, Repr

structure Supply where
  inOk : Bool
  outOk : Bool
  earlyWarn : Bool
  /-- End of the 5 ms output-lost measure under way. -/
  lostMeasure : Option Nat
  outputLost : Bool
  goodRun : GoodRun
  state : SupplyState
  enable : Bool
  loadCode : Nat
  /-- Start of the overload run (R107). -/
  overRun : Option Nat
  overEpisode : Bool
  deriving DecidableEq, Repr

/-! ## Chapter 7: the seat account -/

inductive AskPhase where
  | idle
  | outstanding (ends : Nat)
  | spacing (ends : Nat)
  deriving DecidableEq, Repr

/-- A pending answer (section 7.1). -/
structure Answer where
  asker : Addr
  ask : Nat
  count : Nat
  seen : Nat
  gives : List (Addr × Nat)
  ends : Nat
  deriving DecidableEq, Repr

structure Seats where
  free : Nat
  bound : Nat
  escrow : List Escrow
  receipts : Vector Nat 32
  next : Nat
  serial : Nat
  askNo : Nat
  phase : AskPhase
  /-- The latest ask is the first of its shortage episode (R116). -/
  firstAsk : Bool
  episode : Bool
  answers : List Answer
  deriving DecidableEq, Repr

/-! ## Chapters 8 and 10: ports and filters -/

inductive PortState where
  | dark | queued | lighting | lit | dimming | shed
  deriving DecidableEq, Repr

/-- What a PORT-REQUEST records (R127): draw in 0.1 W and priority. -/
structure PortReq where
  draw : Nat
  priority : Nat
  deriving DecidableEq, Repr

/-- Why a port is DIMMING (R137, R139). -/
inductive DimCause where
  | released | filterFault | departure
  deriving DecidableEq, Repr

inductive FilterState where
  | current | queued | loading | fault
  deriving DecidableEq, Repr

/-- The mode of a filter load (R159). -/
inductive Mode where
  | permitAll | list | denyAll
  deriving DecidableEq, Repr

/-- A filter record (R161). -/
structure Filter where
  state : FilterState
  /-- `none` before any load. -/
  mode : Option Mode
  entries : Nat
  gen : Nat
  dirty : Bool
  deriving DecidableEq, Repr

/-- A port record (R127); its number is its place in the table. -/
structure Port where
  state : PortState
  req : Option PortReq
  seat : Bool
  node : Option Nat
  filter : Filter
  startAt : Option Nat
  /-- End of the LIGHTING or DIMMING timer. -/
  timer : Option Nat
  dimCause : DimCause
  restored : Bool
  deriving DecidableEq, Repr

/-- An activation-queue entry (R132). -/
structure QEntry where
  port : Nat
  fresh : Bool
  deriving DecidableEq, Repr

structure Ports where
  recs : List Port
  queue : List QEntry
  history : List Nat
  /-- The moment at which the history next allows a start, until that boundary has passed (R133). -/
  boundary : Option Nat
  deriving DecidableEq, Repr

/-! ## Chapter 9: zoning -/

/-- One entry of the result table (R151). -/
structure Vote where
  voter : Addr
  verdict : Option (Verdict × Reason × Option Nat)
  deriving DecidableEq, Repr

structure Zoning where
  active : ZoneSet
  gen : Nat
  lastProposed : Nat
  draft : ZoneSet
  staged : ZoneSet
  lock : Lock
  origin : Option Addr
  proposed : Option Nat
  segCount : Nat
  received : Nat
  check : Nat
  /-- A segment before the last carried fewer than 5 entries (R150, check 2). -/
  shortSeg : Bool
  commitPending : Bool
  results : List Vote
  segTimer : Option Nat
  voteTimer : Option Nat
  orphanTimer : Option Nat
  resend : Option Nat
  behind : Nat
  /-- Zoning frames waiting to be offered, in order (R146). -/
  outbox : List Msg
  deriving DecidableEq, Repr

/-! ## Chapter 10: the filter channel -/

/-- The load in flight (section 10, table). -/
structure Flight where
  port : Nat
  mode : Mode
  list : List Nat
  gen : Nat
  second : Bool
  ends : Nat
  /-- Its result is to be ignored (R166). -/
  ignored : Bool
  deriving DecidableEq, Repr

structure Filters where
  queue : List Nat
  flight : Option Flight
  sweep : Bool
  deriving DecidableEq, Repr

/-! ## Chapter 11: departure -/

inductive DepKind where
  | none | orderly | forced
  deriving DecidableEq, Repr

inductive DepStep where
  | dimmingWait | gift | leaving | departWait
  deriving DecidableEq, Repr

structure Departure where
  kind : DepKind
  /-- None outside DEPARTING (DESIGN CHOICE, notes/assumptions/65.md). -/
  step : Option DepStep
  timer : Option Nat
  zoningAsked : Bool
  /-- Zoning frames that must be taken into the queue before DEPART is offered (R171). -/
  ahead : Nat
  /-- End of the 10 ms wait after the queue refused DEPART (R171). -/
  retry : Option Nat
  deriving DecidableEq, Repr

/-! ## Chapter 12: the module port -/

/-- Reply statuses (section 12.6). -/
inductive Status where
  | ok | accepted | busy | wrongState | wrongRole | range | full | unknown
  deriving DecidableEq, Repr

structure Reply where
  status : Status
  tag : Byte
  data : List Byte
  deriving DecidableEq, Repr

inductive Slot where
  | idle
  /-- A command with this tag is executing. -/
  | busy (tag : Byte)
  | reply (r : Reply)
  deriving DecidableEq, Repr

/-- The tables of R177, in the order of their codes. -/
inductive Table where
  | settings | view | ports | queue | history | filters | escrow | receipts | rotors | active | draft | staged
  | results
  deriving DecidableEq, Repr

structure Cursor where
  table : Table
  next : Nat
  /-- The end flag has been returned. -/
  ended : Bool
  deriving DecidableEq, Repr

/-- Notice kinds (section 12.6). -/
inductive NoticeKind where
  | resetCause | storeBlank | stateChanged | addressClash | peerArrived | peerLost | peerGone | faultOn | faultOff
  | redundancyLost | redundancyRestored | budgetUncovered | budgetCovered | budgetExhausted | sensorInvalid
  | sensorValid | thermalCritical | thermalNormal | thermalShutdown | rotorFailed | rotorOk | rotorAbsent
  | rotorPresent | supplyState | supplyOverload | seatsShort | transfersExhausted | escrowUnanswered
  | seatsReceived | seatsRefused | seatsGiven | escrowStranded | escrowResumed | portLit | portDark | portShed
  | filterFault | zoneResult | zoneOrphaned | zoneApplied | zoneBehind
  deriving DecidableEq, Repr

/-- A notice (R179): the time is in ms since the last reset release; the detail is laid out as section 12.6 gives. -/
structure Notice where
  kind : NoticeKind
  subject : Nat
  time : Nat
  detail : List Byte
  deriving DecidableEq, Repr

structure HostPort where
  slot : Slot
  cursor : Option Cursor
  notices : List Notice
  overflow : Nat
  int : Bool
  /-- End of the minimum deassertion interval under way (R180). -/
  intOff : Option Nat
  /-- Bytes shifted out in the last transaction. -/
  out : List Byte
  deriving DecidableEq, Repr

/-! ## The whole -/

/-- The station. `now` is the time since the last reset release in bit times; `draws` counts the random
backoff draws made (the index of `Config.backoffDraw`); `announce` says that a field of the own entry has changed
in this step, so that a ROLLCALL is due at its end; `pending` is the queue of waiting commands. These four are the
model's own fields (notes/assumptions/1.md, 5.md, 11.md). -/
structure State where
  now : Nat
  draws : Nat
  announce : Bool
  st : Station
  store : Store
  link : Link
  view : View
  budget : Budget
  cool : Cooling
  sup : Supply
  seat : Seats
  port : Ports
  zone : Zoning
  filt : Filters
  dep : Departure
  host : HostPort
  pending : List Instr
  deriving DecidableEq, Repr

/-- No command faults: the part has no exception, and every row's effect is given (INVENTORY.md, Faults). -/
inductive Fault where
  deriving DecidableEq, Repr

/-- The one refusal is the host's: a row without a meaning. No arm of `exec` raises it. Safe: the machine stops
where the part goes on. -/
inductive Refusal where
  /-- Raised by an arm of `exec` that has no meaning yet, with the row's mnemonic. -/
  | notModelled (mnemonic : String)
  deriving DecidableEq, Repr

/-! ## Values after reset -/

/-- The default settings (R7) for a role; base draw exists on LINE and SUPERVISOR. -/
def Settings.default (r : Role) : Settings :=
  { tLow := 35, tHigh := 65, tCrit := 85, tShut := 95,
    base := match r with | .line => 180 | .supervisor => 60 | .fan => 0 | .supply => 0,
    reserve := 0, giveOnDepart := true, intMin := 2 }

/-- A blank seat record (R16). -/
def SeatRecord.blank : SeatRecord :=
  { freeCount := 0, escrow := [], receipts := Vector.replicate 32 0, next := 1, serial := 0 }

/-- A blank zoning record (R16). -/
def ZoneRecord.blank : ZoneRecord := { active := [], gen := 0, lastProposed := 0 }

/-- A record of which neither copy is complete and no write is in flight. -/
def Record.blank {α : Type} : Record α :=
  { a := none, b := none, writing := none, waiting := [], changed := false, waitingNext := [] }

def Counters.zero : Counters :=
  { sent := 0, received := 0, collisions := 0, drops := 0, badCheck := 0, runt := 0, giant := 0, overrun := 0,
    unknownKind := 0, holdsSent := 0, holdsReceived := 0 }

def Attempt.clear : Attempt := { collisions := 0, backoff := none }

/-- The link after reset (R30, R37, R38, R39, R40). -/
def Link.clear : Link :=
  { engine := .idle, urgent := [], normal := [], urgentTry := Attempt.clear, normalTry := Attempt.clear,
    held := none, hold := none, guard := .clear, counters := Counters.zero, rx := [],
    idleFrom := 0, listenFrom := 0, ownUntil := none }

/-- A filter record after reset (R161). -/
def Filter.clear : Filter := { state := .current, mode := none, entries := 0, gen := 0, dirty := false }

/-- A port record after reset (R141). -/
def Port.clear : Port :=
  { state := .dark, req := none, seat := false, node := none, filter := Filter.clear, startAt := none,
    timer := none, dimCause := .released, restored := false }

/-- The number of fitted ports of a LINE station (R2); 0 on the other roles. -/
def fittedPorts (p : Straps) : Nat :=
  match p.role with
  | .line => 24 + 8 * p.cls.val
  | .supervisor => 0
  | .fan => 0
  | .supply => 0

/-- The number of rotor positions of a FAN station (R3); 0 on the other roles. -/
def fittedRotors (p : Straps) : Nat :=
  match p.role with
  | .fan => if p.eightRotors then 8 else 4
  | .line => 0
  | .supervisor => 0
  | .supply => 0

/-- Rated rotor speed in rpm (R2). -/
def ratedSpeed (p : Straps) : Nat :=
  match p.cls.val with
  | 0 => 8000
  | 1 => 11000
  | 2 => 14000
  | _ => 16000

/-- Rated rotor power in W (R2). -/
def ratedPower (p : Straps) : Nat := 20 * (p.cls.val + 1)

/-- Rated output of a supply in W (R2). -/
def ratedOutput (p : Straps) : Nat := 1500 + 500 * p.cls.val

/-- Coverage as reported after reset (R69). -/
def Coverage.initial (r : Role) : Coverage :=
  match r with
  | .supply => .none
  | .line => .covered
  | .supervisor => .covered
  | .fan => .covered

/-- A rotor record at reset release, by its present input (R97). -/
def Rotor.initial (present : Bool) : Rotor :=
  { state := if present then .ok else .absent, low := 0, good := 0, speed := 0, skipEnd := none }

/-- The station with every value that power-on reset and module reset give it, for held straps `p`, as it
stands while reset is asserted: no timer runs, the notice queue is empty and the outputs have their safe values
(R5, R17, R30, R50, R79, R99, R108, R126, R141, R158, R161, section 12.5). The store `m` survives. What the manual
gives no value for here is marked in notes/assumptions/3.md (line levels), 49.md (computed redundancy and coverage),
51.md (rotor records), 56.md (segment progress), 61.md (supply state), 65.md (departure step) and 70.md (the seat
account and the zoning unit, which R16 and R126 load at release only). -/
def State.underReset (p : Straps) (m : Store) (cause : ResetKind) : State :=
  { now := 0
    draws := 0
    announce := false
    st := { state := .reset, straps := p, settings := Settings.default p.role, ejectPin := false, ejectOpen := false,
            ejectMeasure := none, pend := .none, joinTimer := none, silence := none, silenceArmed := false,
            drops := 0, clash := false, ready := false, pwroff := false, resetCause := cause }
    store := m
    link := Link.clear
    view := { entries := Vector.replicate 32 .empty, period := none, faultLow := false, faultMeasure := none,
              faultSet := false, pull := false }
    budget := { derate := 700, offer := 0, usable := 0, margined := 0, counted := 0, redundant := true,
                coverage := Coverage.initial p.role, runSum := 0, repRedundant := true,
                repCoverage := Coverage.initial p.role, exhausted := false,
                claim := match p.role with
                  | .line => (Settings.default p.role).base
                  | .supervisor => (Settings.default p.role).base
                  | .fan => 15
                  | .supply => 0
                tent := 0, window := none, retry := none, heldView := none }
    cool := { readings := ⟨none, none, none, none⟩, hottest := none, sampled := false, sampleAt := none,
              demand := 100, forced := false, critCount := 0, clearCount := 0, shutCount := 0, thermal := .normal,
              target := 100, duty := 100, ramp := .steady, forcing := true, lastDuty := 0,
              rotors := List.replicate (fittedRotors p) (Rotor.initial false), checkAt := none }
    sup := { inOk := false, outOk := false, earlyWarn := false, lostMeasure := none, outputLost := false,
             goodRun := .off, state := .absent, enable := false, loadCode := 0, overRun := none,
             overEpisode := false }
    seat := { free := 0, bound := 0, escrow := [], receipts := Vector.replicate 32 0, next := 1, serial := 0,
              askNo := 0, phase := .idle, firstAsk := false, episode := false, answers := [] }
    port := { recs := List.replicate (fittedPorts p) Port.clear, queue := [], history := [], boundary := none }
    zone := { active := [], gen := 0, lastProposed := 0, draft := [], staged := [], lock := .free, origin := none,
              proposed := none, segCount := 0, received := 0, check := 0, shortSeg := false, commitPending := false,
              results := [], segTimer := none, voteTimer := none, orphanTimer := none, resend := none,
              behind := 0, outbox := [] }
    filt := { queue := [], flight := none, sweep := false }
    dep := { kind := .none, step := none, timer := none, zoningAsked := false, ahead := 0, retry := none }
    host := { slot := .idle, cursor := none, notices := [], overflow := 0, int := false, intOff := none, out := [] }
    pending := [] }

/-- Straps before the first reset release, which samples them. DESIGN CHOICE: notes/assumptions/3.md. -/
def Straps.unsampled : Straps := { slot := 0, role := .line, redund := .n, cls := 0, eightRotors := false }

/-- The machine as power-on reset holds it: reset asserted, nothing stored yet (notes/assumptions/3.md). -/
def State.reset : State :=
  State.underReset Straps.unsampled { seat := Record.blank, zoning := Record.blank } .powerOn

end Sys2Proof.Machine
end

