-- ==== Sys2Proof/Machine/Codec.lean ====
section
/-! DEFINITION. Bytes and bits: byte order, the line coding (R19), the two checks (R21, R147), the codes of
section 12.6 and the frame and payload layouts, composed and read. -/

namespace Sys2Proof.Machine

/-! ## Byte order: most significant byte first (section 12.6) -/

/-- A one-byte field. -/
def b1 (n : Nat) : List Byte := [BitVec.ofNat 8 n]

/-- A two-byte field. -/
def b2 (n : Nat) : List Byte := [BitVec.ofNat 8 (n / 256), BitVec.ofNat 8 n]

/-- A four-byte field. -/
def b4 (n : Nat) : List Byte := b2 (n / 65536) ++ b2 n

/-- An eight-byte field. -/
def b8 (n : Nat) : List Byte := b4 (n / 4294967296) ++ b4 n

/-- A signed two-byte field. -/
def b2i (i : Int) : List Byte := b2 (BitVec.ofInt 16 i).toNat

/-- A temperature; INVALID is 0x8000 (section 12.6). -/
def bTemp : Option Int → List Byte
  | none => b2 0x8000
  | some t => b2i t

/-- A yes-or-no value (section 12.6). -/
def bBool (b : Bool) : List Byte := b1 (if b then 1 else 0)

/-- NONE is 0xFF (section 12.6). -/
def noneByte : Nat := 0xFF

/-- A one-byte field that may be NONE. -/
def bOpt : Option Nat → List Byte
  | none => b1 noneByte
  | some n => b1 n

/-- The unsigned number that bytes spell, most significant first. -/
def beNat (l : List Byte) : Nat := l.foldl (fun a b => 256 * a + b.toNat) 0

/-- The signed number that two bytes spell. -/
def beInt16 (l : List Byte) : Int := (BitVec.ofNat 16 (beNat l)).toInt

/-- The field of `n` bytes at byte `i`. -/
def fieldAt (l : List Byte) (i n : Nat) : Nat := beNat ((l.drop i).take n)

/-! ## The line (R19); a level is `false` when dominant (a 0 bit), `true` when recessive (a 1 bit) -/

/-- The bits of a byte, most significant first. -/
def byteBits (b : Byte) : List Bool :=
  [b.getLsbD 7, b.getLsbD 6, b.getLsbD 5, b.getLsbD 4, b.getLsbD 3, b.getLsbD 2, b.getLsbD 1, b.getLsbD 0]

/-- The bits of a run of bytes, in sending order. -/
def bytesBits (l : List Byte) : List Bool := l.flatMap byteBits

/-- Insert a dominant stuff bit after any five consecutive recessive bits; `run` counts those just sent. -/
def stuff : Nat → List Bool → List Bool
  | _, [] => []
  | run, true :: l => if run = 4 then true :: false :: stuff 0 l else true :: stuff (run + 1) l
  | _, false :: l => false :: stuff 0 l

/-- Remove the stuff bits: the dominant bit after five consecutive recessive ones. -/
def unstuff : Nat → List Bool → List Bool
  | _, [] => []
  | run, true :: l => true :: unstuff (run + 1) l
  | run, false :: l => if run = 5 then unstuff 0 l else false :: unstuff 0 l

/-- Whole bytes from bits, most significant first; a trailing part-byte is ignored (R33). -/
def bitsBytes : List Bool → List Byte
  | b7 :: b6 :: b5 :: b4 :: b3 :: b2 :: b1 :: b0 :: rest =>
      BitVec.ofNat 8 (128 * b7.toNat + 64 * b6.toNat + 32 * b5.toNat + 16 * b4.toNat + 8 * b3.toNat + 4 * b2.toNat
        + 2 * b1.toNat + b0.toNat) :: bitsBytes rest
  | _ => []

/-- Take the first dominant bit as the start bit and the last as the end bit, and remove both. -/
def stripEnds (l : List Bool) : List Bool :=
  let inner := (l.dropWhile (· = true)).drop 1
  ((inner.reverse.dropWhile (· = true)).drop 1).reverse

/-- The bytes of a run of line activity (R19, R33). -/
def activityBytes (l : List Bool) : List Byte := bitsBytes (unstuff 0 (stripEnds l))

/-- The levels that carry a frame: start bit, the stuffed bytes, end bit (R19). -/
def lineBits (frame : List Byte) : List Bool := false :: (stuff 0 (bytesBits frame) ++ [false])

/-! ## Checks -/

/-- One bit of a CRC computed in a register shifted left, most significant bit first. -/
def crcBit {w : Nat} (poly : BitVec w) (c : BitVec w) (bit : Bool) : BitVec w :=
  if c.msb != bit then (c <<< 1) ^^^ poly else c <<< 1

/-- The check of R21: polynomial 0x1021, initial value 0xFFFF, bytes most significant bit first. -/
def crc16 (l : List Byte) : Nat := ((bytesBits l).foldl (crcBit 0x1021#16) 0xFFFF#16).toNat

/-- The set check of R147: polynomial 0x04C11DB7, initial value 0xFFFFFFFF, each byte least significant bit
first, the register reversed at the end and exclusive-ored with 0xFFFFFFFF. -/
def crc32 (l : List Byte) : Nat :=
  (((l.flatMap fun b => (byteBits b).reverse).foldl (crcBit 0x04C11DB7#32) 0xFFFFFFFF#32).reverse
    ^^^ 0xFFFFFFFF#32).toNat

/-- The ten bytes an entry contributes (R147). -/
def entryBytes (e : ZEntry) : List Byte := b2 e.zone ++ b8 e.node

/-- The set check over an entry sequence (R147). -/
def setCheck (z : ZoneSet) : Nat := crc32 (z.flatMap entryBytes)

/-! ## Codes (section 12.6) -/

def StationState.code : StationState → Nat
  | .reset => 0 | .setup => 1 | .joining => 2 | .active => 3 | .isolated => 4 | .departing => 5 | .departed => 6

def Role.code : Role → Nat
  | .line => 0 | .supervisor => 1 | .fan => 2 | .supply => 3

def Redundancy.code : Redundancy → Nat
  | .n => 0 | .nPlusOne => 1

def Thermal.code : Thermal → Nat
  | .normal => 0 | .critical => 1 | .shutdown => 2

def SupplyState.code : SupplyState → Nat
  | .absent => 0 | .starting => 1 | .good => 2 | .warning => 3 | .failed => 4

def Lock.code : Lock → Nat
  | .free => 0 | .publishing => 1 | .collecting => 2 | .receiving => 3 | .ready => 4 | .applying => 5

def Verdict.code : Verdict → Nat
  | .ready => 0 | .refuse => 1 | .busy => 2

def Reason.code : Reason → Nat
  | .none => 0xFF | .incomplete => 0 | .check => 1 | .malformed => 2 | .stale => 3 | .capacity => 4 | .departing => 5
  | .busy => 6 | .noVote => 7 | .superseded => 8 | .implicit => 9 | .linkRestart => 10

def Cause.code : Cause → Nat
  | .join => 0 | .joined => 1 | .attemptLimit => 2 | .silence => 3 | .addressClash => 4 | .peerHeard => 5
  | .linkRestart => 6 | .eject => 7 | .departCommand => 8 | .shutdown => 9 | .departureDone => 10 | .forced => 11
  | .latchClosed => 12

def SupplyCause.code : SupplyCause → Nat
  | .inputUp => 0 | .inputDown => 1 | .earlyWarn => 2 | .outputGood => 3 | .outputLost => 4 | .departing => 5
  | .departed => 6 | .shutdown => 7

def ResetKind.code : ResetKind → Nat
  | .powerOn => 0 | .moduleReset => 1

def Presence.code : Presence → Nat
  | .present => 1 | .lost => 2 | .gone => 3

def Coverage.code : Coverage → Nat
  | .covered => 0 | .uncovered => 1 | .none => 0xFF

def RotorState.code : RotorState → Nat
  | .ok => 0 | .failed => 1 | .absent => 2

def PortState.code : PortState → Nat
  | .dark => 0 | .queued => 1 | .lighting => 2 | .lit => 3 | .dimming => 4 | .shed => 5

def FilterState.code : FilterState → Nat
  | .current => 0 | .queued => 1 | .loading => 2 | .fault => 3

/-- The filter mode, numbered as R161 and the load message list it: NONE takes no place, then PERMIT-ALL, LIST,
DENY-ALL (not R159's order: DESIGN CHOICE, notes/assumptions/75.md). -/
def Mode.code : Mode → Nat
  | .permitAll => 0 | .list => 1 | .denyAll => 2

def DepKind.code : DepKind → Nat
  | .none => 0xFF | .orderly => 0 | .forced => 1

def DepStep.code : DepStep → Nat
  | .dimmingWait => 0 | .gift => 1 | .leaving => 2 | .departWait => 3

def Status.code : Status → Nat
  | .ok => 0 | .accepted => 1 | .busy => 2 | .wrongState => 3 | .wrongRole => 4 | .range => 5 | .full => 6
  | .unknown => 7

def NoticeKind.code : NoticeKind → Nat
  | .resetCause => 0x01 | .storeBlank => 0x02 | .stateChanged => 0x03 | .addressClash => 0x04 | .peerArrived => 0x05
  | .peerLost => 0x06 | .peerGone => 0x07 | .faultOn => 0x08 | .faultOff => 0x09 | .redundancyLost => 0x0A
  | .redundancyRestored => 0x0B | .budgetUncovered => 0x0C | .budgetCovered => 0x0D | .budgetExhausted => 0x0E
  | .sensorInvalid => 0x0F | .sensorValid => 0x10 | .thermalCritical => 0x11 | .thermalNormal => 0x12
  | .thermalShutdown => 0x13 | .rotorFailed => 0x14 | .rotorOk => 0x15 | .rotorAbsent => 0x16
  | .rotorPresent => 0x17 | .supplyState => 0x18 | .supplyOverload => 0x19 | .seatsShort => 0x1C
  | .transfersExhausted => 0x1D | .escrowUnanswered => 0x1E | .seatsReceived => 0x1F | .seatsRefused => 0x20
  | .seatsGiven => 0x21 | .escrowStranded => 0x22 | .escrowResumed => 0x23 | .portLit => 0x24 | .portDark => 0x25
  | .portShed => 0x26 | .filterFault => 0x27 | .zoneResult => 0x28 | .zoneOrphaned => 0x29 | .zoneApplied => 0x2A
  | .zoneBehind => 0x2B

/-- The subject type of a notice: STATION 0, PORT 1, GENERATION 2 (section 12.6). -/
def NoticeKind.subjectType : NoticeKind → Nat
  | .portLit => 1 | .portDark => 1 | .portShed => 1 | .filterFault => 1
  | .zoneResult => 2 | .zoneOrphaned => 2 | .zoneApplied => 2
  | _ => 0

/-- The notice record (section 12.6). -/
def Notice.bytes (n : Notice) : List Byte :=
  b1 n.kind.code ++ b1 n.kind.subjectType ++ b4 n.subject ++ b4 n.time ++ b1 n.detail.length ++ n.detail

def Kind.code : Kind → Nat
  | .rollcall => 0x01 | .hold => 0x02 | .supplyDrop => 0x03 | .depart => 0x04 | .seatAsk => 0x10 | .seatGive => 0x11
  | .seatAck => 0x12 | .zoneOpen => 0x20 | .zoneSeg => 0x21 | .zoneVote => 0x22 | .zoneCommit => 0x23
  | .zoneAbandon => 0x24

/-- The kind a code names (section 2.1). -/
def Kind.ofCode : Nat → Option Kind
  | 0x01 => some .rollcall | 0x02 => some .hold | 0x03 => some .supplyDrop | 0x04 => some .depart
  | 0x10 => some .seatAsk | 0x11 => some .seatGive | 0x12 => some .seatAck | 0x20 => some .zoneOpen
  | 0x21 => some .zoneSeg | 0x22 => some .zoneVote | 0x23 => some .zoneCommit | 0x24 => some .zoneAbandon
  | _ => none

/-- ALL as a destination byte (section 12.6). -/
def allByte : Nat := 0x3F

/-! ## Payloads composed -/

/-- The ROLLCALL payload: the long form while the lock is not FREE (R42, section 12.6). -/
def Roll.bytes (f : Roll) : List Byte :=
  b1 f.state.code ++ b1 (Role.code f.role) ++ b1 f.thermal.code
    ++ b1 ((if f.forced then 1 else 0) + (if f.faultHeld then 2 else 0))
    ++ bTemp f.hottest ++ b1 f.demand ++ bOpt f.duty ++ bOpt f.failed ++ bOpt (f.supply.map SupplyState.code)
    ++ b2 f.claim ++ b2 f.tent ++ b2 f.offer ++ b2 f.giveable ++ b4 f.gen ++ b1 f.lock.code
    ++ (if f.lock = .free then [] else bOpt (f.origin.map (·.val)) ++ b4 (f.proposed.getD 0))

def Msg.kind : Msg → Kind
  | .rollcall _ => .rollcall
  | .hold _ => .hold
  | .supplyDrop => .supplyDrop
  | .depart => .depart
  | .seatAsk _ _ => .seatAsk
  | .seatGive _ _ _ _ => .seatGive
  | .seatAck _ _ _ => .seatAck
  | .zoneOpen _ _ _ => .zoneOpen
  | .zoneSeg _ _ _ => .zoneSeg
  | .zoneVote _ _ _ _ _ => .zoneVote
  | .zoneCommit _ => .zoneCommit
  | .zoneAbandon _ _ => .zoneAbandon

/-- The destination byte (section 2.1): SEAT-ACK goes to the giver, ZONE-VOTE to the originator. -/
def Msg.destByte : Msg → Nat
  | .seatAck a _ _ => a.val
  | .zoneVote a _ _ _ _ => a.val
  | _ => allByte

/-- The payload of a frame, its fields in the order its table lists them. -/
def Msg.payload : Msg → List Byte
  | .rollcall f => f.bytes
  | .hold n => b1 n
  | .supplyDrop => []
  | .depart => []
  | .seatAsk a c => b1 a ++ b1 c
  | .seatGive x r a c => b4 x ++ b1 r.val ++ bOpt a ++ b1 c
  | .seatAck _ x c => b4 x ++ b1 c
  | .zoneOpen g n k => b4 g ++ b1 n ++ b4 k
  | .zoneSeg g k es => b4 g ++ b1 k ++ b1 es.length ++ es.flatMap entryBytes
  | .zoneVote _ g v r p => b4 g ++ b1 v.code ++ b1 r.code ++ bOpt p
  | .zoneCommit g => b4 g
  | .zoneAbandon g r => b4 g ++ b1 r.code

/-- The two bytes of the start delimiter (section 12.6). -/
def delimiter : List Byte := [0xD5#8, 0x2B#8]

/-- The bytes a check covers and the check, after the delimiter (R20, R21). -/
def frameBytes (dest src kind : Nat) (payload : List Byte) : List Byte :=
  let covered := b1 dest ++ b1 src ++ b1 kind ++ b1 payload.length ++ payload
  delimiter ++ covered ++ b2 (crc16 covered)

/-- The frame a station sends (R20). -/
def Msg.frame (src : Addr) (m : Msg) : List Byte := frameBytes m.destByte src.val m.kind.code m.payload

/-! ## Payloads read -/

def Role.ofCode : Nat → Option Role
  | 0 => some .line | 1 => some .supervisor | 2 => some .fan | 3 => some .supply | _ => none

def Thermal.ofCode : Nat → Option Thermal
  | 0 => some .normal | 1 => some .critical | 2 => some .shutdown | _ => none

def SupplyState.ofCode : Nat → Option SupplyState
  | 0 => some .absent | 1 => some .starting | 2 => some .good | 3 => some .warning | 4 => some .failed | _ => none

def Lock.ofCode : Nat → Option Lock
  | 0 => some .free | 1 => some .publishing | 2 => some .collecting | 3 => some .receiving | 4 => some .ready
  | 5 => some .applying | _ => none

def Verdict.ofCode : Nat → Option Verdict
  | 0 => some .ready | 1 => some .refuse | 2 => some .busy | _ => none

def Reason.ofCode : Nat → Option Reason
  | 0xFF => some .none | 0 => some .incomplete | 1 => some .check | 2 => some .malformed | 3 => some .stale
  | 4 => some .capacity | 5 => some .departing | 6 => some .busy | 7 => some .noVote | 8 => some .superseded
  | 9 => some .implicit | 10 => some .linkRestart | _ => none

/-- The station states a ROLLCALL may carry (section 12.6). -/
def sendingOfCode : Nat → Option StationState
  | 2 => some .joining | 3 => some .active | 4 => some .isolated | 5 => some .departing | _ => none

/-- An address field. -/
def addrOf (n : Nat) : Option Addr := if h : n < 32 then some ⟨n, h⟩ else none

/-- A value within a range, or nothing. -/
def inRange (lo hi n : Nat) : Option Nat := if lo ≤ n ∧ n ≤ hi then some n else none

/-- A role's own field: within its range on its role, NONE elsewhere (R45); `none` is a violation. -/
def roleField (own : Bool) (lo hi n : Nat) : Option (Option Nat) :=
  if own then (inRange lo hi n).map some else if n = noneByte then some none else none

/-- The hottest field: INVALID or -40 to 150 (R42). -/
def hottestOf (l : List Byte) : Option (Option Int) :=
  if beNat l = 0x8000 then some none
  else if -40 ≤ beInt16 l ∧ beInt16 l ≤ 150 then some (some (beInt16 l)) else none

/-- The long-form fields; the form must match the lock (R45). -/
def longForm (p : List Byte) (lock : Lock) : Option (Option Addr × Option Nat) :=
  if p.length = 23 then (if lock = .free then some (none, none) else none)
  else if lock = .free then none
  else match addrOf (fieldAt p 23 1), inRange 1 max32 (fieldAt p 24 4) with
    | some a, some g => some (some a, some g)
    | _, _ => none

/-- The contents of a ROLLCALL that passes the checks of R45, or nothing; the generation and the lock of a FAN or
SUPPLY sender are judged by the ranges alone (notes/assumptions/47.md). -/
def Roll.read (p : List Byte) : Option Roll := do
  let state ← sendingOfCode (fieldAt p 0 1)
  let role ← Role.ofCode (fieldAt p 1 1)
  let thermal ← Thermal.ofCode (fieldAt p 2 1)
  let flags ← inRange 0 3 (fieldAt p 3 1)
  let hottest ← hottestOf ((p.drop 4).take 2)
  let demand ← inRange 30 100 (fieldAt p 6 1)
  let duty ← roleField (role = .fan) 30 100 (fieldAt p 7 1)
  let failed ← roleField (role = .fan) 0 8 (fieldAt p 8 1)
  let supply ← roleField (role = .supply) 0 4 (fieldAt p 9 1)
  let claim ← inRange 0 2700 (fieldAt p 10 2)
  let tent ← inRange 0 2700 (fieldAt p 12 2)
  let offer ← inRange 0 3000 (fieldAt p 14 2)
  let giveable ← inRange 0 4096 (fieldAt p 16 2)
  let lock ← Lock.ofCode (fieldAt p 22 1)
  let long ← longForm p lock
  return { state, role, thermal, hottest, demand, forced := flags % 2 = 1, claim, tent, offer,
           supply := supply.bind SupplyState.ofCode, duty, failed, giveable, gen := fieldAt p 18 4, lock,
           origin := long.1, proposed := long.2, faultHeld := flags / 2 = 1 }

/-- The payload lengths a kind admits (section 12.6, R146). -/
def lengthOk (k : Kind) (p : List Byte) : Bool :=
  match k with
  | .rollcall => p.length = 23 ∨ p.length = 28
  | .hold => p.length = 1
  | .supplyDrop => p.length = 0
  | .depart => p.length = 0
  | .seatAsk => p.length = 2
  | .seatGive => p.length = 7
  | .seatAck => p.length = 5
  | .zoneOpen => p.length = 9
  | .zoneSeg => 16 ≤ p.length ∧ p.length ≤ 56 ∧ p.length = 6 + 10 * fieldAt p 5 1
  | .zoneVote => p.length = 7
  | .zoneCommit => p.length = 4
  | .zoneAbandon => p.length = 5

/-- A SEAT-ASK's ask number and count, within their ranges (section 7.3). -/
def readAsk (p : List Byte) : Option (Nat × Nat) := do
  let a ← inRange 0 254 (fieldAt p 0 1)
  let c ← inRange 1 16 (fieldAt p 1 1)
  return (a, c)

/-- A SEAT-GIVE's fields, within their ranges (section 7.3). -/
structure GiveFields where
  xfer : Nat
  rcpt : Addr
  ask : Option Nat
  count : Nat
  deriving DecidableEq, Repr

def readGive (p : List Byte) : Option GiveFields := do
  let x ← inRange 1 (max32 - 1) (fieldAt p 0 4)
  let r ← addrOf (fieldAt p 4 1)
  let c ← inRange 1 16 (fieldAt p 6 1)
  return { xfer := x, rcpt := r, ask := inRange 0 254 (fieldAt p 5 1), count := c }

/-- A SEAT-ACK's transfer number and count, within their ranges (section 7.3). -/
def readAck (p : List Byte) : Option (Nat × Nat) := do
  let x ← inRange 1 (max32 - 1) (fieldAt p 0 4)
  let c ← inRange 1 16 (fieldAt p 4 1)
  return (x, c)

/-- The entries of a ZONE-SEG, ten bytes each. -/
def readEntries : List Byte → List ZEntry
  | z1 :: z0 :: n7 :: n6 :: n5 :: n4 :: n3 :: n2 :: n1 :: n0 :: rest =>
      { zone := beNat [z1, z0], node := beNat [n7, n6, n5, n4, n3, n2, n1, n0] } :: readEntries rest
  | _ => []

/-! ## What the receiver finds (R33) -/

/-- The judgement of line activity (R33); a valid frame is given by its parts. -/
inductive Activity where
  | runt | giant | badCheck
  | valid (dest : Nat) (src : Addr) (kind : Nat) (payload : List Byte)
  deriving DecidableEq, Repr

/-- Validate the bytes of line activity (R33). -/
def judgeActivity (l : List Byte) : Activity :=
  if l.length < 8 then .runt
  else if 64 < l.length then .giant
  else
    let covered := (l.drop 2).take (l.length - 4)
    match addrOf (fieldAt l 3 1) with
    | none => .badCheck
    | some src =>
      if l.take 2 = delimiter ∧ (fieldAt l 2 1 < 32 ∨ fieldAt l 2 1 = allByte) ∧ fieldAt l 5 1 = l.length - 8
          ∧ fieldAt l (l.length - 2) 2 = crc16 covered
      then .valid (fieldAt l 2 1) src (fieldAt l 4 1) ((l.drop 6).take (l.length - 8))
      else .badCheck

end Sys2Proof.Machine
end

