-- ==== Sys2Proof/Machine/Ops.lean ====
section
/-! DEFINITION. Operations every block uses: time, notices and INT, the SPI output and replies, the retained
store's writes. -/

namespace Sys2Proof.Machine

open Sys2Proof.Config

/-- A meaning's answer. -/
abbrev Out := Host.Outcome State Fault Refusal

/-- The station's address, its held SLOT (R1). -/
def ownAddr (s : State) : Addr := s.st.straps.slot

/-- The held ROLE (R1). -/
def role (s : State) : Role := s.st.straps.role

/-! ## Time (notes/assumptions/1.md, 2.md) -/

/-- The clock moved up to `d`, where it has not reached it: an expiry event happens at its timer's end. -/
def reach (d : Nat) (s : State) : State := { s with now := max s.now d }

/-- An expiry event: with its timer stopped it does not occur and nothing changes; with it running to `d` it
takes place at `d`. -/
def expiry (timer : Option Nat) (act : State → State) (s : State) : State :=
  match timer with
  | none => s
  | some d => act (reach d s)

/-- The time of a notice: ms since the last reset release, in 32 bits (R179). -/
def timeMs (t : Nat) : Nat := (t / 2000) % 4294967296

/-- The ms left on a timer, rounded up; 0 when stopped or run out. -/
def leftMs (now : Nat) (timer : Option Nat) : Nat :=
  match timer with
  | none => 0
  | some d => (d - now + 1999) / 2000

/-- a / b rounded up. -/
def ceilDiv (a b : Nat) : Nat := (a + b - 1) / b

/-! ## Notices and INT (R179, R180) -/

/-- The minimum deassertion interval is over, or none is under way. -/
def intFree (s : State) : Bool :=
  match s.host.intOff with
  | none => true
  | some d => d ≤ s.now

/-- A block raises a notice: it joins the queue's tail, or is dropped and counted; INT is asserted while the
queue is non-empty, subject to the minimum deassertion interval. -/
def raise (k : NoticeKind) (subject : Nat) (detail : List Byte) (s : State) : State :=
  if s.host.notices.length < noticeCap then
    { s with
      host.notices := s.host.notices ++ [{ kind := k, subject, time := timeMs s.now, detail := detail.take 24 }]
      host.int := s.host.int || intFree s }
  else { s with host.overflow := min 255 (s.host.overflow + 1) }

/-- A notice with the station's own address as subject. -/
def raiseOwn (k : NoticeKind) (detail : List Byte) (s : State) : State := raise k (ownAddr s).val detail s

/-- A list of addresses in a detail: its count, then as many addresses as fit in what is left of 24 bytes,
lowest first (section 12.6). -/
def addrList (used : Nat) (l : List Addr) : List Byte :=
  b1 l.length ++ (l.map fun a => BitVec.ofNat 8 a.val).take (23 - used)

/-- The head notice leaves the queue; INT is deasserted in the step in which the queue becomes empty, and the
setting in force is read then (R180). -/
def dropNotice (s : State) : State :=
  match s.host.notices with
  | [] => s
  | [_] => { s with host.notices := [], host.int := false,
                    host.intOff := if s.host.int ∧ 0 < s.st.settings.intMin then some (s.now + ms s.st.settings.intMin)
                                   else s.host.intOff }
  | _ :: rest => { s with host.notices := rest }

/-! ## Replies (R174) -/

/-- The executing command's reply becomes ready: the slot carries its tag. -/
def answer (status : Status) (data : List Byte) (s : State) : State :=
  match s.host.slot with
  | .busy tag => { s with host.slot := .reply { status, tag, data } }
  | .idle => s
  | .reply _ => s

/-- The port status byte (section 12.6): 0xFF during RESET (R174). -/
def statusByte (s : State) : Byte :=
  if s.st.state = .reset then 0xFF#8
  else match s.host.slot with
    | .idle => 0x00#8
    | .busy _ => 0x01#8
    | .reply _ => 0x02#8

/-! ## The retained store (R15, R16) -/

/-- The complete copy with the larger write count. -/
def Record.current {α : Type} (r : Record α) : Option (Copy α) :=
  match r.a, r.b with
  | some x, some y => if y.writes < x.writes then some x else some y
  | some x, none => some x
  | none, y => y

/-- Copy `a` is the one a write goes to: the copy that is not current. -/
def Record.toA {α : Type} (r : Record α) : Bool :=
  match r.a, r.b with
  | some x, some y => !decide (y.writes < x.writes)
  | some _, none => false
  | none, _ => true

/-- A write begins with the contents as they stand; the copy it goes to is incomplete until it completes. -/
def Record.begin {α : Type} (contents : α) (r : Record α) : Record α :=
  let r' : Record α := if r.toA then { r with a := none } else { r with b := none }
  { r' with writing := some contents, waiting := r.waitingNext, changed := false, waitingNext := [] }

/-- The write in flight completes: its copy is complete and current. -/
def Record.finish {α : Type} (r : Record α) : Record α :=
  match r.writing with
  | none => r
  | some c =>
    let n := match r.current with | none => 1 | some k => k.writes + 1
    let r' : Record α := if r.a.isNone then { r with a := some ⟨n, c⟩ } else { r with b := some ⟨n, c⟩ }
    { r' with writing := none, waiting := [] }

/-- Reset is asserted: the copy being written is left incomplete and nothing waits (R15, R17). -/
def Record.abandon {α : Type} (r : Record α) : Record α :=
  { r with writing := none, waiting := [], changed := false, waitingNext := [] }

/-- The seat record as it stands (section 1.4). -/
def seatRecord (s : State) : SeatRecord :=
  { freeCount := s.seat.free + s.seat.bound
    escrow := s.seat.escrow.map fun e => { xfer := e.xfer, rcpt := e.rcpt, count := e.count }
    receipts := s.seat.receipts
    next := s.seat.next
    serial := s.seat.serial }

/-- The zoning record as it stands; a commit pending writes the staged set as active (R152). -/
def zoneRecord (s : State) : ZoneRecord :=
  if s.zone.commitPending then
    { active := s.zone.staged, gen := s.zone.proposed.getD s.zone.gen, lastProposed := s.zone.lastProposed }
  else { active := s.zone.active, gen := s.zone.gen, lastProposed := s.zone.lastProposed }

/-- The seat record has changed; `w` waits for a write that includes the change. -/
def touchSeat (w : List Wait) (s : State) : State :=
  { s with store.seat.changed := true, store.seat.waitingNext := s.store.seat.waitingNext ++ w }

/-- The zoning record has changed; `w` waits for a write that includes the change. -/
def touchZone (w : List Wait) (s : State) : State :=
  { s with store.zoning.changed := true, store.zoning.waitingNext := s.store.zoning.waitingNext ++ w }

/-- At the end of a step, a changed record with no write in flight begins one (R15). -/
def beginWrites (s : State) : State :=
  let s := if s.store.seat.changed ∧ s.store.seat.writing.isNone then
      { s with store.seat := s.store.seat.begin (seatRecord s) } else s
  if s.store.zoning.changed ∧ s.store.zoning.writing.isNone then
      { s with store.zoning := s.store.zoning.begin (zoneRecord s) } else s

end Sys2Proof.Machine
end

