-- ==== Sys2Proof/Machine/Link.lean ====
section
/-! DEFINITION. The peer link controller (chapter 2): eligibility, the queues and what an offer to them does,
HOLD, and the engine's phases. -/

namespace Sys2Proof.Machine

open Sys2Proof.Config

/-- The states in which both transmit queues take frames, which are those ROLLCALL is sent in (R30, R41). -/
def sending (s : State) : Bool :=
  match s.st.state with
  | .joining => true | .active => true | .isolated => true | .departing => true
  | .reset => false | .setup => false | .departed => false

/-- The states in which the receiver runs (R37). -/
def receiving (s : State) : Bool :=
  match s.st.state with
  | .joining => true | .active => true | .isolated => true | .departing => true | .departed => true
  | .reset => false | .setup => false

/-- A 16-bit count that stops at 65535 (R40). -/
def bump (n : Nat) : Nat := min 65535 (n + 1)

/-! ## Eligibility (R22) -/

/-- An IDLE engine takes an eligible head into DEFER, the urgent head first. While the urgent queue holds any
frame, or the hold counter is not zero, no normal frame is eligible. -/
def kickLink (l : Link) : Link :=
  match l.engine with
  | .idle =>
    if l.urgent ≠ [] then
      if l.urgentTry.backoff = none then { l with engine := .defer .urgent } else l
    else if l.normal ≠ [] ∧ l.normalTry.backoff = none ∧ l.hold = none then { l with engine := .defer .normal }
    else l
  | .defer _ => l
  | .send _ _ _ => l
  | .jam _ _ => l

def kick (s : State) : State := { s with link := kickLink s.link }

/-- An urgent frame is queued or a HOLD is received: a normal frame in DEFER returns to its queue head. -/
def preempt (s : State) : State :=
  match s.link.engine with
  | .defer .normal => kick { s with link.engine := .idle }
  | _ => kick s

/-! ## Offers (R27 to R30) -/

/-- What becomes of an offer to the normal queue. -/
inductive Offer where
  | taken
  /-- The queue holds 16: its owner is told at once that the frame was lost (R28). -/
  | full
  /-- The station state queues no frame (R30). -/
  | closed
  deriving DecidableEq, Repr

/-- Offer a frame other than ROLLCALL to the normal queue (R28). -/
def offerNormal (m : Msg) (s : State) : State × Offer :=
  if sending s = false then (s, .closed)
  else if s.link.normal.length < normalCap then
    (kick { s with link.normal := s.link.normal ++ [m] }, .taken)
  else (s, .full)

/-- Offer a normal frame whose owner does nothing when it is lost. -/
def sendNormal (m : Msg) (s : State) : State := (offerNormal m s).1

/-- Offer a frame to the urgent queue (R27); the answer says whether it was queued. -/
def offerUrgent (m : Msg) (s : State) : State × Bool :=
  if sending s = true ∧ s.link.urgent.length < urgentCap then
    (preempt { s with link.urgent := s.link.urgent ++ [m] }, true)
  else (s, false)

/-- Offer a SUPPLY-DROP (R103); one that is refused is not offered again. -/
def sendDrop (s : State) : State := (offerUrgent .supplyDrop s).1

def isRollcall : Msg → Bool
  | .rollcall _ => true
  | _ => false

/-- The queued ROLLCALL's payload replaced in place (R29). -/
def replaceRollcall (f : Roll) (l : List Msg) : List Msg := l.map fun m => if isRollcall m then .rollcall f else m

/-- The head of the normal queue is a ROLLCALL in SEND or JAM. -/
def rollcallOnLine (l : Link) : Bool :=
  (match l.normal with | m :: _ => isRollcall m | [] => false) &&
  (match l.engine with
   | .send .normal _ _ => true
   | .jam (some .normal) _ => true
   | _ => false)

/-- The chassis view offers a ROLLCALL (R29, R41): the period timer restarts at 250 ms. -/
def offerRollcall (f : Roll) (s : State) : State :=
  if sending s = false then s
  else
    let s := { s with view.period := some (s.now + ms 250) }
    if rollcallOnLine s.link then { s with link.held := some f }
    else if s.link.normal.any isRollcall then { s with link.normal := replaceRollcall f s.link.normal }
    else if s.link.normal.length < normalCap then kick { s with link.normal := s.link.normal ++ [.rollcall f] }
    else s

/-! ## HOLD (R38, R39) -/

/-- With the receive queue at 6 or more and the guard clear, a HOLD of 5 ms is offered and the guard set
running; a HOLD the queue refuses gives the guard its 5 ms from the offer. -/
def callHold (s : State) : State :=
  if holdLevel ≤ s.link.rx.length ∧ s.link.guard = .clear then
    match offerUrgent (.hold 5) s with
    | (s', true) => { s' with link.guard := .armed }
    | (s', false) => { s' with link.guard := .running (s.now + ms 5) }
  else s

/-- The hold counter's load for a hold length: the length where it is within 1 to 50, a free value within the
counter's 0 to 50 otherwise (notes/assumptions/6.md). -/
def holdLoad (len : Nat) : Nat := if 1 ≤ len ∧ len ≤ 50 then len else holdOutside len % 51

/-- A HOLD from a peer is taken; its count runs from the end of the frame, eight bit times before the activity
was found to have ended (R19, R39). -/
def takeHold (len : Nat) (s : State) : State :=
  preempt { s with
    link.hold := if holdLoad len = 0 then none else some (s.now - endRun + ms (holdLoad len))
    link.counters.received := bump s.link.counters.received
    link.counters.holdsReceived := bump s.link.counters.holdsReceived }

/-! ## The engine -/

def queueOf (q : TxQueue) (l : Link) : List Msg :=
  match q with | .urgent => l.urgent | .normal => l.normal

def attemptOf (q : TxQueue) (l : Link) : Attempt :=
  match q with | .urgent => l.urgentTry | .normal => l.normalTry

def setAttempt (q : TxQueue) (a : Attempt) (l : Link) : Link :=
  match q with
  | .urgent => { l with urgentTry := a }
  | .normal => { l with normalTry := a }

/-- The head leaves its queue, its attempt record with it, and the engine goes IDLE (R24, R26). -/
def popHead (q : TxQueue) (l : Link) : Link :=
  match q with
  | .urgent => { l with urgent := l.urgent.drop 1, urgentTry := Attempt.clear, engine := .idle }
  | .normal => { l with normal := l.normal.drop 1, normalTry := Attempt.clear, engine := .idle }

/-- Held ROLLCALL contents join the tail as a new ROLLCALL once the attempt has ended with its frame gone (R29). -/
def releaseHeld (l : Link) : Link :=
  match l.held with
  | none => l
  | some f => { l with normal := l.normal ++ [.rollcall f], held := none }

/-- The attempt on the head of `q` ends with its frame gone (R24, R26, R29). -/
def endAttempt (q : TxQueue) (l : Link) : Link :=
  match q with
  | .urgent => popHead .urgent l
  | .normal => releaseHeld (popHead .normal l)

/-- Held ROLLCALL contents replace the collided ROLLCALL's payload for its next attempt (R29). -/
def applyHeld (l : Link) : Link :=
  match l.held with
  | none => l
  | some f => { l with normal := replaceRollcall f l.normal, held := none }

/-- Both transmit queues are emptied without telling their owners (R30, R31). -/
def emptyQueues (l : Link) : Link :=
  { l with urgent := [], normal := [], urgentTry := Attempt.clear, normalTry := Attempt.clear, held := none,
           engine := .idle }

/-- The receiver starts, and the engine waits for a gap of idle line: what is on the line now is waited out and
discarded (R30, R37). -/
def startLink (now : Nat) (l : Link) : Link := { l with idleFrom := now, listenFrom := now }

/-- LINK-RESTART on the link (R31, R37, R18): a frame in SEND is stopped with a jam, a jam under way is
completed, and the frame discarded; queues, counters, hold counter and guard are cleared. -/
def restartLink (now : Nat) (l : Link) : Link :=
  { Link.clear with
    engine := match l.engine with
      | .send _ _ _ => .jam none (now + jamTime)
      | .jam _ ends => .jam none ends
      | .idle => .idle
      | .defer _ => .idle
    idleFrom := now
    listenFrom := now }

end Sys2Proof.Machine
end

