-- ==== Sys2Proof/Machine/View.lean ====
section
/-! DEFINITION. The chassis view (chapter 3): entries and their effective values, the station's own fields, the
FAULT pull, and the claims of chapter 4 that the own entry carries. -/

namespace Sys2Proof.Machine

open Sys2Proof.Config

/-! ## Entries -/

def entryAt (s : State) (a : Addr) : Entry := s.view.entries[a]

def setEntry (a : Addr) (e : Entry) (s : State) : State :=
  { s with view.entries := s.view.entries.set a e }

/-- An entry's age in ms, stopping at 65535 (R43); the own entry's stays 0 (R44). -/
def ageMs (s : State) (a : Addr) : Nat :=
  match entryAt s a with
  | .empty => 0
  | .known _ heard _ => if a = ownAddr s then 0 else min 65535 ((s.now - heard) / 2000)

def Entry.fields? : Entry → Option Roll
  | .empty => none
  | .known _ _ f => some f

def Entry.presence? : Entry → Option Presence
  | .empty => none
  | .known p _ _ => some p

def Entry.isPresent (e : Entry) : Bool := e.presence? = some .present

/-- A PRESENT entry of a role. -/
def presentAs (s : State) (a : Addr) (r : Role) : Bool :=
  match entryAt s a with
  | .known .present _ f => f.role = r
  | _ => false

/-- The peer addresses, lowest first. -/
def peers (s : State) : List Addr := (List.finRange 32).filter fun a => a ≠ ownAddr s

/-- At least one peer entry is PRESENT (R11). -/
def anyPeerPresent (s : State) : Bool := (peers s).any fun a => (entryAt s a).isPresent

/-- A valid frame refreshes its sender's age; its state is unchanged, and an EMPTY entry stays EMPTY (R46). -/
def refreshAge (a : Addr) (s : State) : State :=
  match entryAt s a with
  | .empty => s
  | .known p _ f => setEntry a (.known p s.now f) s

/-! ## Effective values for the power budget unit (R51) -/

def Entry.eff : Entry → Option Eff
  | .empty => none
  | .known .present _ f =>
      some { role := f.role, claim := f.claim, tent := f.tent, offer := if f.role = .supply then f.offer else 0 }
  | .known .lost _ f =>
      if f.role = .supply then some { role := .supply, claim := 0, tent := 0, offer := 0 }
      else some { role := f.role, claim := f.claim, tent := f.tent, offer := 0 }
  | .known .gone _ f => some { role := f.role, claim := 0, tent := 0, offer := 0 }

/-- The live effective values, by address. -/
def liveView (s : State) : List (Option Eff) := s.view.entries.toList.map Entry.eff

/-- What a re-evaluation reads: the live view, or in ISOLATED the held view with the live own entry (R57). -/
def budgetView (s : State) : List (Option Eff) :=
  match s.budget.heldView with
  | none => liveView s
  | some h => h.set (ownAddr s).val (entryAt s (ownAddr s)).eff

/-! ## The station's own claim (R63 to R66) -/

/-- A port's weight in W, in 0.1 W (R63). -/
def Port.weight (p : Port) : Nat :=
  let draw := match p.req with | none => 0 | some r => r.draw
  match p.state with
  | .lighting => 3 * draw
  | .lit => draw
  | .dimming => draw
  | .dark => 0 | .queued => 0 | .shed => 0

/-- W of R63. -/
def portWeight (s : State) : Nat := (s.port.recs.map Port.weight).sum

/-- base + ceil(W / 10) (R63). -/
def lineClaim (base w : Nat) : Nat := base + ceilDiv w 10

/-- ceil(P × d³ / 1,000,000) (R65). -/
def rotorTerm (power duty : Nat) : Nat := ceilDiv (power * duty ^ 3) 1000000

def okRotors (s : State) : Nat := (s.cool.rotors.filter fun r => r.state = .ok).length

def failedRotors (s : State) : Nat := (s.cool.rotors.filter fun r => r.state = .failed).length

/-- The own steady claim (R63 to R65). -/
def steadyClaim (s : State) : Nat :=
  match role s with
  | .line => lineClaim s.st.settings.base (portWeight s)
  | .supervisor => s.st.settings.base
  | .fan => 15 + okRotors s * rotorTerm (ratedPower s.st.straps) s.cool.duty
  | .supply => 0

/-- The record of a port, where it is fitted. -/
def portAt (s : State) (n : Nat) : Option Port := s.port.recs[n]?

/-- D' of R73: the claim with the head's port counted as LIGHTING. -/
def prospective (s : State) (n : Nat) : Nat :=
  match portAt s n with
  | none => steadyClaim s
  | some p => lineClaim s.st.settings.base
      (portWeight s - p.weight + 3 * (match p.req with | none => 0 | some r => r.draw))

/-- The own tentative increment: D' less the steady claim while the settle window is OPEN, and 0 otherwise (R74). -/
def tentative (s : State) : Nat :=
  match s.budget.window, s.port.queue with
  | some _, e :: _ => prospective s e.port - steadyClaim s
  | _, _ => 0

/-! ## Giveable seats (R110) -/

def freshCount (s : State) : Nat := (s.port.queue.filter (·.fresh)).length

def giveable (s : State) : Nat :=
  match s.st.state, role s with
  | .active, .line => s.seat.free - s.st.settings.reserve - freshCount s
  | .active, .supervisor => s.seat.free
  | _, _ => 0

/-! ## The FAULT pull (R54) -/

def pulls (s : State) : Bool :=
  receiving s && (s.cool.thermal ≠ .normal || (role s = .fan && 0 < failedRotors s) || s.st.clash)

/-- The station uses its zoning unit: LINE and SUPERVISOR (R143). -/
def zoning (s : State) : Bool :=
  match role s with
  | .line => true | .supervisor => true | .fan => false | .supply => false

/-! ## The own entry (R44) -/

/-- The zoning lock as the own entry carries it: FREE on FAN and SUPPLY (R42). -/
def ownLock (s : State) : Lock := if zoning s then s.zone.lock else .free

/-- The station's own fields, each as its owning block holds it (R42). -/
def ownRoll (s : State) : Roll :=
  { state := s.st.state
    role := role s
    thermal := s.cool.thermal
    hottest := s.cool.hottest
    demand := s.cool.demand
    forced := s.cool.forced
    claim := s.budget.claim
    tent := s.budget.tent
    offer := if role s = .supply then s.budget.offer else 0
    supply := if role s = .supply then some s.sup.state else none
    duty := if role s = .fan then some s.cool.duty else none
    failed := if role s = .fan then some (failedRotors s) else none
    giveable := giveable s
    gen := if zoning s then s.zone.gen else 0
    lock := ownLock s
    origin := if ownLock s = .free then none else s.zone.origin
    proposed := if ownLock s = .free then none else s.zone.proposed
    faultHeld := s.view.pull }

/-- What the own entry records, where it is PRESENT. -/
def ownRecorded (s : State) : Option Roll := (entryAt s (ownAddr s)).fields?

/-- A carried field of the own entry has changed, be it that it changes back in the same step: a ROLLCALL is due at
the step's end (R41, R77). Before JOIN there is no own entry to change. -/
def noteChange (s : State) : State := { s with announce := s.announce || (ownRecorded s).isSome }

/-- The claim, the increment, the pull and the own entry follow their blocks in the same step (R44, R54, R66,
R74). Before JOIN the own entry is EMPTY and stays so. -/
def refresh (s : State) : State :=
  let s := { s with budget.claim := steadyClaim s, budget.tent := tentative s, view.pull := pulls s }
  match entryAt s (ownAddr s) with
  | .empty => s
  | .known p heard f =>
      if ownRoll s = f then s else noteChange (setEntry (ownAddr s) (.known p heard (ownRoll s)) s)

/-- At the taking of JOIN the own entry becomes PRESENT, built from the owning blocks (R44). -/
def buildOwn (s : State) : State :=
  noteChange (refresh (setEntry (ownAddr s) (.known .present s.now (ownRoll s)) s))

end Sys2Proof.Machine
end

