-- ==== Sys2Proof/Machine/Budget.lean ====
section
/-! DEFINITION. The power budget unit's arithmetic (chapter 4): capacity, coverage and the admission totals. -/

namespace Sys2Proof.Machine

/-! ## Offered capacity (R58, R59) -/

/-- The derate in permille from the hottest temperature (R58). -/
def derateOf : Option Int → Nat
  | none => 700
  | some t => if t ≤ 40 then 1000 else if t ≤ 60 then (1000 - 15 * (t - 40)).toNat else 700

/-- The own offered capacity (R59). -/
def offerOf (rated derate : Nat) (st : SupplyState) : Nat :=
  match st with
  | .good => rated * derate / 1000
  | .absent => 0 | .starting => 0 | .warning => 0 | .failed => 0

/-! ## Usable and margined capacity (R60, R61) -/

/-- The offers of the counted supplies G (R60). -/
def countedOffers (v : List (Option Eff)) : List Nat :=
  v.filterMap fun e => match e with
    | none => none
    | some x => if x.role = .supply ∧ 0 < x.offer then some x.offer else none

def maxOf (l : List Nat) : Nat := l.foldl max 0

/-- U and the redundancy condition (HELD is `true`) (R60). -/
def usableOf (mode : Redundancy) (g : List Nat) : Nat × Bool :=
  match mode with
  | .n => (g.sum, true)
  | .nPlusOne =>
    if 2 ≤ g.length then (g.sum - maxOf g, true)
    else (g.sum, false)

/-- U' (R61). -/
def marginedOf (u : Nat) : Nat := u - ceilDiv (3 * u) 100

/-! ## Coverage (R68) -/

/-- The rank class: SUPERVISOR, then FAN, then LINE; SUPPLY is not ranked. -/
def rankClass : Role → Option Nat
  | .supervisor => some 0
  | .fan => some 1
  | .line => some 2
  | .supply => none

/-- The entry at `i` of class `c` stands at or ahead of the own entry at `own` of class `k`. -/
def ranksUpTo (c i k own : Nat) : Bool := c < k || (c = k && i ≤ own)

/-- The running sum of effective steady claims up to and including the own entry (R68). -/
def runningSum (v : List (Option Eff)) (ownRole : Role) (own : Nat) : Nat :=
  match rankClass ownRole with
  | none => 0
  | some k =>
    (v.zipIdx.map fun x => match x.1 with
      | none => 0
      | some e => match rankClass e.role with
        | none => 0
        | some c => if ranksUpTo c x.2 k own then e.claim else 0).sum

def coverageOf (ownRole : Role) (sum margined : Nat) : Coverage :=
  match rankClass ownRole with
  | none => .none
  | some _ => if sum ≤ margined then .covered else .uncovered

/-! ## Admission totals (R73, R75) -/

/-- The first check's total: every other entry's claim and increment, SUPPLY entries counting 0, and D' (R73). -/
def firstTotal (v : List (Option Eff)) (own d' : Nat) : Nat :=
  (v.zipIdx.map fun x => match x.1 with
    | none => 0
    | some e => if x.2 = own ∨ e.role = .supply then 0 else e.claim + e.tent).sum + d'

/-- The re-check's total: every other entry's claim, the increments of LINE entries with a lower address, and
D' (R75). -/
def recheckTotal (v : List (Option Eff)) (own d' : Nat) : Nat :=
  (v.zipIdx.map fun x => match x.1 with
    | none => 0
    | some e => if x.2 = own then 0
        else e.claim + (if e.role = .line ∧ x.2 < own then e.tent else 0)).sum + d'

/-! ## Results of a re-evaluation (R56) -/

/-- U, U', the counted supplies, the redundancy condition, the running sum and coverage, recomputed from the
view as it stands. -/
def compute (s : State) : State :=
  let v := budgetView s
  let g := countedOffers v
  let u := usableOf s.st.straps.redund g
  let m := marginedOf u.1
  let sum := runningSum v (role s) (ownAddr s).val
  { s with
    budget.usable := u.1
    budget.margined := m
    budget.counted := g.length
    budget.redundant := u.2
    budget.runSum := sum
    budget.coverage := coverageOf (role s) sum m }

/-- The detail of the budget's coverage notices: U', the running sum and the own claim (R69). -/
def budgetDetail (s : State) : List Byte := b4 s.budget.margined ++ b4 s.budget.runSum ++ b4 s.budget.claim

/-- In ACTIVE and ISOLATED the redundancy condition is compared with the reported one (R62). -/
def reportRedundancy (s : State) : State :=
  if s.budget.redundant = s.budget.repRedundant then s
  else
    raiseOwn (if s.budget.redundant then .redundancyRestored else .redundancyLost)
      (b1 s.budget.counted ++ b4 s.budget.usable) { s with budget.repRedundant := s.budget.redundant }

/-- In ACTIVE and ISOLATED the coverage is compared with the reported one (R69). -/
def reportCoverage (s : State) : State :=
  if s.budget.coverage = s.budget.repCoverage then s
  else match s.budget.coverage with
    | .none => s
    | .uncovered =>
        raiseOwn .budgetUncovered (budgetDetail s)
          { s with budget.repCoverage := .uncovered, budget.exhausted := false }
    | .covered =>
        raiseOwn .budgetCovered (budgetDetail s)
          { s with budget.repCoverage := .covered, budget.exhausted := false }

/-- BUDGET-EXHAUSTED is raised at most once in an uncovered episode (R71). -/
def raiseExhausted (s : State) : State :=
  if s.budget.exhausted then s
  else raiseOwn .budgetExhausted (budgetDetail s) { s with budget.exhausted := true }

/-- The settle window is closed, its increment withdrawn: the ROLLCALL of that is due though the window should open
again in the same step (R76, R77). -/
def closeWindow (s : State) : State :=
  { s with
    budget.window := none
    budget.tent := 0
    announce := s.announce || (s.budget.window.isSome && (ownRecorded s).isSome) }

end Sys2Proof.Machine
end

