-- ==== Sys2Proof/Machine/Cooling.lean ====
section
/-! DEFINITION. The thermal and cooling unit (chapter 5): sampling, demand, the thermal state, the fan target,
forcing and the duty ramp, and the judging of rotors. -/

namespace Sys2Proof.Machine

open Sys2Proof.Config

/-! ## Sampling (R80, R81) -/

/-- A reading from -40 to 150 °C is valid; any other, and that of an open or shorted sensor, is INVALID (R80). -/
def validReading : Option Int → Option Int
  | none => none
  | some t => if -40 ≤ t ∧ t ≤ 150 then some t else none

def readSensors (r : Sensors) : Readings :=
  { s0 := validReading r.s0, s1 := validReading r.s1, s2 := validReading r.s2, s3 := validReading r.s3 }

/-- The higher of two readings, an INVALID one giving way. -/
def hotter : Option Int → Option Int → Option Int
  | none, y => y
  | some x, none => some x
  | some x, some y => some (max x y)

/-- The hottest of a sample (R81). -/
def hottestReading (r : Readings) : Option Int := hotter (hotter r.s0 r.s1) (hotter r.s2 r.s3)

def readingBytes (r : Readings) : List Byte := bTemp r.s0 ++ bTemp r.s1 ++ bTemp r.s2 ++ bTemp r.s3

/-! ## Demand (R82) -/

/-- The cooling demand; the first row that applies gives it (R82). -/
def demandOf (p : Settings) (forced : Bool) (hottest : Option Int) : Nat :=
  if forced then 100
  else match hottest with
    | none => 100
    | some t =>
      if t ≤ p.tLow then 30
      else if p.tHigh ≤ t then 100
      else 30 + ceilDiv (70 * (t - p.tLow)).toNat (p.tHigh - p.tLow).toNat

def updateDemand (s : State) : State :=
  { s with cool.demand := demandOf s.st.settings s.cool.forced s.cool.hottest }

/-! ## Thermal counts and state (R84, R85) -/

/-- Raised by one, stopping at 8. -/
def count8 (n : Nat) : Nat := min 8 (n + 1)

def critCountOf (tCrit : Int) (h : Option Int) (n : Nat) : Nat :=
  match h with
  | none => count8 n
  | some t => if tCrit ≤ t then count8 n else 0

def clearCountOf (tCrit : Int) (h : Option Int) (n : Nat) : Nat :=
  match h with
  | none => 0
  | some t => if t ≤ tCrit - 3 then count8 n else 0

def shutCountOf (tShut : Int) (h : Option Int) (n : Nat) : Nat :=
  match h with
  | none => 0
  | some t => if tShut ≤ t then count8 n else 0

def updateCounts (s : State) : State :=
  { s with
    cool.critCount := critCountOf s.st.settings.tCrit s.cool.hottest s.cool.critCount
    cool.clearCount := clearCountOf s.st.settings.tCrit s.cool.hottest s.cool.clearCount
    cool.shutCount := shutCountOf s.st.settings.tShut s.cool.hottest s.cool.shutCount }

/-- The detail of the thermal notices: the hottest and the four readings (R85). -/
def thermalDetail (s : State) : List Byte := bTemp s.cool.hottest ++ readingBytes s.cool.readings

/-- The judgement of R85 after the counts: each change of thermal state raises its notice. -/
def judgeThermal (s : State) : State :=
  match s.cool.thermal with
  | .shutdown => s
  | .normal =>
    if s.cool.critCount = 8 then
      let s1 := raiseOwn .thermalCritical (thermalDetail s) { s with cool.thermal := .critical }
      if s.cool.shutCount = 8 then
        raiseOwn .thermalShutdown (thermalDetail s) { s1 with cool.thermal := .shutdown }
      else s1
    else s
  | .critical =>
    if s.cool.shutCount = 8 then raiseOwn .thermalShutdown (thermalDetail s) { s with cool.thermal := .shutdown }
    else if s.cool.clearCount = 8 then
      raiseOwn .thermalNormal (thermalDetail s) { s with cool.thermal := .normal }
    else s

/-- A sample's readings, hottest and demand (R80 to R82). -/
def takeReadings (r : Sensors) (s : State) : State :=
  let rd := readSensors r
  let h := hottestReading rd
  let was := s.cool.hottest
  let first := !s.cool.sampled
  let s := updateDemand { s with cool.readings := rd, cool.hottest := h, cool.sampled := true }
  match h with
  | none => if first ∨ was.isSome then raiseOwn .sensorInvalid (readingBytes rd) s else s
  | some _ => if !first ∧ was.isNone then raiseOwn .sensorValid (readingBytes rd) s else s

/-! ## Fan target (R52, R89) -/

/-- The demand a peer entry counts. -/
def Entry.demand : Entry → Nat
  | .empty => 0
  | .known .present _ f => f.demand
  | .known .lost _ f => f.demand
  | .known .gone _ _ => 0

def Entry.isLostLine : Entry → Bool
  | .known .lost _ f => f.role = .line
  | _ => false

/-- The failed rotors a peer entry gives: recorded, for PRESENT and LOST FAN entries. -/
def Entry.failedRotors : Entry → Nat
  | .empty => 0
  | .known .present _ f => if f.role = .fan then f.failed.getD 0 else 0
  | .known .lost _ f => if f.role = .fan then f.failed.getD 0 else 0
  | .known .gone _ _ => 0

def Entry.isMissingTray : Entry → Bool
  | .empty => false
  | .known .present _ _ => false
  | .known .lost _ f => f.role = .fan
  | .known .gone _ f => f.role = .fan

def peerEntries (s : State) : List Entry := (peers s).map (entryAt s)

/-- The peer entries that the fan target reads: none until JOIN has built the own entry (R44, R89). -/
def targetEntries (s : State) : List Entry := if (ownRecorded s).isSome then peerEntries s else []

/-- The fan target (R89); the station's own demand and failed rotors always count. -/
def fanTarget (s : State) : Nat :=
  let es := targetEntries s
  let base := es.foldl (fun m e => max m e.demand) s.cool.demand
  let base := if es.any Entry.isLostLine then max base 80 else base
  let sum := base + 10 * (failedRotors s + (es.map Entry.failedRotors).sum) + 30 * (es.filter Entry.isMissingTray).length
  max 30 (min 100 sum)

/-! ## Duty, ramp and forcing (R91 to R94) -/

/-- A change of the duty opens the rotor-check skip period (R94), whatever its cause: at LINK-RESTART too
(notes/assumptions/50.md). -/
def setDuty (d : Nat) (s : State) : State :=
  if d = s.cool.duty then s else { s with cool.duty := d, cool.lastDuty := s.now }

/-- The ramp takes a target while forcing is off (R92, R93). -/
def rampTo (s : State) : State :=
  if s.cool.duty < s.cool.target then { setDuty s.cool.target s with cool.ramp := .steady }
  else if s.cool.target = s.cool.duty then { s with cool.ramp := .steady }
  else match s.cool.ramp with
    | .steady => { s with cool.ramp := .holding (s.now + ms 10000) }
    | .holding _ => s
    | .stepping _ => s

/-- A recomputation of the target hands it to the ramp; while forcing is on it is recorded only (R90, R91). -/
def retarget (s : State) : State :=
  if role s = .fan then
    let s := { s with cool.target := fanTarget s }
    if s.cool.forcing then s else rampTo s
  else s

/-- The forcing conditions of R91. -/
def forcingNow (s : State) : Bool :=
  s.st.state ≠ .active || s.cool.thermal = .shutdown || s.view.faultSet

/-- Forcing comes on or goes off on a FAN station (R91). -/
def updateForcing (s : State) : State :=
  if role s = .fan then
    if forcingNow s then
      if s.cool.forcing then s
      else { setDuty 100 s with cool.forcing := true, cool.ramp := .steady }
    else if s.cool.forcing then rampTo { s with cool.forcing := false } else s
  else s

/-- The hold or a step timer expires: the duty falls by up to 5 toward the target (R93). -/
def stepDown (s : State) : State :=
  let d := s.cool.duty - min 5 (s.cool.duty - s.cool.target)
  let s := setDuty d s
  { s with cool.ramp := if s.cool.target < d then .stepping (s.now + ms 2000) else .steady }

/-! ## Rotors (R95 to R97) -/

def setRotor (i : Nat) (r : Rotor) (s : State) : State := { s with cool.rotors := s.cool.rotors.set i r }

/-- The expected speed at a duty (R95). -/
def expectedSpeed (p : Straps) (duty : Nat) : Nat := ratedSpeed p * duty / 100

/-- The detail of the rotor notices: index, measured speed, expected speed (R96). -/
def rotorDetail (i speed expected : Nat) : List Byte := b1 i ++ b2 speed ++ b2 expected

/-- Presence at a check (R97), with the notice of a change. -/
def judgePresence (i : Nat) (present : Bool) (expected : Nat) (s : State) : State :=
  match s.cool.rotors[i]? with
  | none => s
  | some r =>
    match r.state, present with
    | .absent, true =>
        raiseOwn .rotorPresent (rotorDetail i r.speed expected)
          (setRotor i { r with state := .ok, low := 0, good := 0, skipEnd := some (s.now + ms 3000) } s)
    | .absent, false => s
    | .ok, false =>
        raiseOwn .rotorAbsent (rotorDetail i 0 expected)
          (setRotor i { r with state := .absent, low := 0, good := 0, speed := 0 } s)
    | .failed, false =>
        raiseOwn .rotorAbsent (rotorDetail i 0 expected)
          (setRotor i { r with state := .absent, low := 0, good := 0, speed := 0 } s)
    | .ok, true => s
    | .failed, true => s

/-- A measurement that is taken (R95, R96). -/
def measureRotor (i pulses expected : Nat) (s : State) : State :=
  match s.cool.rotors[i]? with
  | none => s
  | some r =>
    let speed := 30 * pulses
    let low : Bool := speed * 100 < expected * 70
    match r.state with
    | .absent => s
    | .ok =>
      if low then
        if 3 ≤ r.low + 1 then
          raiseOwn .rotorFailed (rotorDetail i speed expected)
            (setRotor i { r with state := .failed, low := 0, good := 0, speed } s)
        else setRotor i { r with low := r.low + 1, speed } s
      else setRotor i { r with low := 0, speed } s
    | .failed =>
      if low then setRotor i { r with good := 0, speed } s
      else if 5 ≤ r.good + 1 then
        raiseOwn .rotorOk (rotorDetail i speed expected)
          (setRotor i { r with state := .ok, low := 0, good := 0, speed } s)
      else setRotor i { r with good := r.good + 1, speed } s

/-- The check falls within 3 s after the last duty change, or before the rotor's own skip period end (R95). -/
def skipsRotor (now lastDuty : Nat) (r : Rotor) : Bool :=
  now < lastDuty + ms 3000 || (match r.skipEnd with | none => false | some d => now < d)

end Sys2Proof.Machine
end

