-- ==== Sys2Proof/Machine/Supply.lean ====
section
/-! DEFINITION. The supply monitor (chapter 6): the measures, the supply state, SUPPLY-DROP, the output enable
and overload. Every operation here acts on a SUPPLY station; its callers see to that. -/

namespace Sys2Proof.Machine

open Sys2Proof.Config

/-- The states in which the good-run measure may run (R100). -/
def goodRunState : StationState → Bool
  | .joining => true | .active => true | .isolated => true
  | .reset => false | .setup => false | .departing => false | .departed => false

/-- The conditions of the good-run measure (R100). -/
def goodRunHolds (s : State) : Bool :=
  role s = .supply && s.sup.inOk && s.sup.outOk && !s.sup.earlyWarn && s.sup.enable && goodRunState s.st.state

/-- The measure starts from zero when its conditions come to hold and is cancelled when one ceases to (R100). -/
def updateGoodRun (s : State) : State :=
  if goodRunHolds s then
    match s.sup.goodRun with
    | .off => { s with sup.goodRun := .running (s.now + ms 2000) }
    | .running _ => s
    | .complete => s
  else { s with sup.goodRun := .off }

/-- The measure restarted from zero (R108). -/
def restartGoodRun (s : State) : State := updateGoodRun { s with sup.goodRun := .off }

/-- The own offered capacity recomputed (R59). -/
def updateOffer (s : State) : State :=
  { s with budget.offer := offerOf (ratedOutput s.st.straps) s.budget.derate s.sup.state }

/-- A change of the supply state: the offer follows and SUPPLY-STATE is raised (R104); leaving GOOD ends the
overload run and episode (R107). An event that leaves the state as it is does nothing. -/
def setSupply (t : SupplyState) (c : SupplyCause) (s : State) : State :=
  if t = s.sup.state then s
  else
    let was := s.sup.state
    let s := updateOffer { s with sup.state := t }
    let s := if t = .good then s else { s with sup.overRun := none, sup.overEpisode := false }
    raiseOwn .supplyState (b1 was.code ++ b1 t.code ++ b1 c.code) s

/-- The full table of R101 applies: the output enable is high and the SHUTDOWN latch clear. -/
def fullRegime (s : State) : Bool := s.sup.enable && s.cool.thermal ≠ .shutdown

/-- The output enable is low and the SHUTDOWN latch clear: the state follows the input (R102). -/
def inputRegime (s : State) : Bool := !s.sup.enable && s.cool.thermal ≠ .shutdown

/-- The state that the input alone gives (R102). -/
def byInput (inOk : Bool) : SupplyState := if inOk then .starting else .absent

/-- IN_OK reads high (R101, R102). -/
def inputRose (s : State) : State :=
  if inputRegime s then setSupply .starting .inputUp s
  else if fullRegime s then
    match s.sup.state with
    | .absent => setSupply .starting .inputUp s
    | .starting => s | .good => s | .warning => s | .failed => s
  else s

/-- IN_OK reads low (R101, R102). -/
def inputFell (s : State) : State :=
  if inputRegime s then setSupply .absent .inputDown s
  else if fullRegime s then
    match s.sup.state with
    | .good => sendDrop (setSupply .warning .inputDown s)
    | .starting => if s.sup.outputLost then setSupply .absent .inputDown s else s
    | .warning => if s.sup.outputLost then setSupply .absent .inputDown s else s
    | .failed => if s.sup.outputLost then setSupply .absent .inputDown s else s
    | .absent => s
  else s

/-- EARLY_WARN is asserted (R101). -/
def warned (s : State) : State :=
  if fullRegime s then
    match s.sup.state with
    | .starting => sendDrop (setSupply .warning .earlyWarn s)
    | .good => sendDrop (setSupply .warning .earlyWarn s)
    | .warning => s | .failed => s | .absent => s
  else s

/-- Output lost comes to hold (R101). -/
def outputWentLost (s : State) : State :=
  if fullRegime s then
    match s.sup.state with
    | .good => sendDrop (setSupply .failed .outputLost s)
    | .starting => if s.sup.inOk then s else setSupply .absent .inputDown s
    | .warning => if s.sup.inOk then setSupply .failed .outputLost s else setSupply .absent .inputDown s
    | .failed => if s.sup.inOk then s else setSupply .absent .inputDown s
    | .absent => s
  else s

/-- The good run completes (R101). -/
def goodRunDone (s : State) : State :=
  if fullRegime s then
    match s.sup.state with
    | .starting => setSupply .good .outputGood s
    | .warning => setSupply .good .outputGood s
    | .failed => setSupply .good .outputGood s
    | .good => s | .absent => s
  else s

/-- Entry to JOINING: a SUPPLY station drives its output enable high (R105). -/
def enableOutput (s : State) : State :=
  if role s = .supply then { s with sup.enable := true } else s

/-- Entry to DEPARTED: the output enable goes low and the state follows the input, with cause DEPARTED (R102). -/
def disableOutput (s : State) : State :=
  if role s = .supply then
    let s := { s with sup.enable := false }
    if s.cool.thermal = .shutdown then s else setSupply (byInput s.sup.inOk) .departed s
  else s

/-- Thermal SHUTDOWN on a SUPPLY station (R87, R102, R103). -/
def supplyShutdown (s : State) : State :=
  sendDrop (setSupply .failed .shutdown { s with sup.enable := false })

/-- Entry into DEPARTING on a SUPPLY station: one SUPPLY-DROP, a GOOD supply entering WARNING (R103). From ISOLATED
with the output enable low the drop is offered too, by R103 against R102 (DESIGN CHOICE,
notes/assumptions/68.md). -/
def supplyDeparting (s : State) : State :=
  if role s = .supply then
    sendDrop (match s.sup.state with
      | .good => setSupply .warning .departing s
      | .absent => s | .starting => s | .warning => s | .failed => s)
  else s

/-- Overload is judged against the offer as it stands after the sample (R107). -/
def judgeOverload (s : State) : State :=
  let load := 16 * s.sup.loadCode
  if s.sup.state ≠ .good then s
  else if s.budget.offer < load then
    match s.sup.overRun with
    | none => { s with sup.overRun := some s.now }
    | some t0 =>
      if t0 + ms 5000 ≤ s.now ∧ s.sup.overEpisode = false then
        raiseOwn .supplyOverload (b4 load ++ b4 s.budget.offer) { s with sup.overEpisode := true }
      else s
  else { s with sup.overRun := none, sup.overEpisode := false }

/-- A SUPPLY station's part of a sensor sample: derate, offer, load and overload (R58, R59, R106, R107). -/
def supplySample (code : Nat) (s : State) : State :=
  if role s = .supply then
    judgeOverload (updateOffer
      { s with budget.derate := derateOf s.cool.hottest, sup.loadCode := code })
  else s

end Sys2Proof.Machine
end

