-- ==== Sys2Proof/Machine/Seats.lean ====
section
/-! DEFINITION. The seat account (chapter 7): binding and freeing, asking, answering, giving, receiving,
acknowledgement and stranding. -/

namespace Sys2Proof.Machine

open Sys2Proof.Config

/-- Seats in escrow. -/
def escrowTotal (l : List Escrow) : Nat := (l.map (·.count)).sum

/-- The owned count (R109). -/
def owned (s : State) : Nat := s.seat.free + s.seat.bound + escrowTotal s.seat.escrow

/-- A bind moves one seat from free to bound; with free 0 it moves nothing (R111). -/
def bindSeat (s : State) : State :=
  if s.seat.free = 0 then s else { s with seat.free := s.seat.free - 1, seat.bound := s.seat.bound + 1 }

/-- A free moves one seat from bound to free (R111). -/
def freeSeat (s : State) : State :=
  if s.seat.bound = 0 then s else { s with seat.free := s.seat.free + 1, seat.bound := s.seat.bound - 1 }

/-! ## Escrow entries -/

def escrowOf (s : State) (x : Nat) : Option Escrow := s.seat.escrow.find? (·.xfer = x)

def mapEscrow (x : Nat) (f : Escrow → Escrow) (s : State) : State :=
  { s with seat.escrow := s.seat.escrow.map fun e => if e.xfer = x then f e else e }

/-- The entry leaves the list (R114, R123). -/
def dropEscrow (x : Nat) (s : State) : State :=
  { s with seat.escrow := s.seat.escrow.filter fun e => e.xfer ≠ x }

/-- The detail of the escrow notices: transfer number and count (R123, R124). -/
def xferDetail (x count : Nat) : List Byte := b4 x ++ b2 count

/-- The seat-record write that includes the entry has not completed yet (R15, R125). -/
def awaitsStore (s : State) (x : Nat) : Bool :=
  (s.store.seat.waiting ++ s.store.seat.waitingNext).any fun w => w = .give x

def isGiveOf (x : Nat) : Msg → Bool
  | .seatGive y _ _ _ => y = x
  | _ => false

/-- The link controller reports an entry's SEAT-GIVE sent or lost: the timer starts (R120). -/
def giveReported (x : Nat) (s : State) : State :=
  if sending s then
    mapEscrow x (fun e => if e.stranded then e
      else { e with timer := some (s.now + ms (if e.tries < 8 then 100 else 2000)) }) s
  else s

/-- Offer the SEAT-GIVE of a SENDING entry (R120). At most one is in the transmit queue at a time: while one is
queued, that frame serves as the offer (notes/assumptions/18.md). -/
def offerGive (x : Nat) (s : State) : State :=
  match escrowOf s x with
  | none => s
  | some e =>
    if e.stranded ∨ sending s = false then s
    else
      let s1 := mapEscrow x (fun e => { e with tries := count8 e.tries, timer := none }) s
      if s.link.normal.any (isGiveOf x) then s1
      else match offerNormal (.seatGive e.xfer e.rcpt e.ask e.count) s1 with
        | (s2, .taken) => s2
        | (s2, .full) => giveReported x s2
        | (s2, .closed) => s2

/-- Offer the SEAT-GIVE unless the entry's write is still to complete, at which it is offered (R15). -/
def offerStored (x : Nat) (s : State) : State := if awaitsStore s x then s else offerGive x s

/-- A SENDING entry is resent afresh: tries 0, unanswered no, timer stopped (R120, R125, R126). -/
def resend (s : State) (e : Escrow) : State :=
  if e.stranded then s
  else offerStored e.xfer (mapEscrow e.xfer (fun e => { e with tries := 0, unanswered := false, timer := none }) s)

/-- Every SENDING entry resent afresh, by ascending transfer number (R125, R126; the order is a DESIGN CHOICE,
notes/assumptions/71.md). -/
def resendAll (s : State) : State := s.seat.escrow.foldl resend s

/-- Every escrow timer is stopped (R125, entry into DEPARTED). -/
def stopEscrow (s : State) : State :=
  { s with seat.escrow := s.seat.escrow.map fun e => { e with timer := none } }

/-- The states in which stranding is judged (R124). -/
def judgesStranding (s : State) : Bool := s.st.state = .active || s.st.state = .departing

/-- Stranding and resumption of one entry (R124); one left STRANDED in DEPARTED resumes at the next view change of
its recipient or entry into ACTIVE (notes/assumptions/53.md). -/
def judgeEscrow (s : State) (e : Escrow) : State :=
  if (entryAt s e.rcpt).isPresent then
    if e.stranded ∧ sending s then
      offerStored e.xfer (raise .escrowResumed e.rcpt.val (xferDetail e.xfer e.count)
        (mapEscrow e.xfer (fun e => { e with stranded := false, tries := 0, unanswered := false }) s))
    else s
  else if e.stranded = false ∧ judgesStranding s then
    raise .escrowStranded e.rcpt.val (xferDetail e.xfer e.count)
      (mapEscrow e.xfer (fun e => { e with stranded := true, timer := none }) s)
  else s

/-- At a view change of a recipient's entry (R124), by ascending transfer number (DESIGN CHOICE,
notes/assumptions/71.md). -/
def judgeRecipient (p : Addr) (s : State) : State :=
  (s.seat.escrow.filter fun e => e.rcpt = p).foldl judgeEscrow s

/-- At entry into ACTIVE, for every entry (R124), by ascending transfer number (DESIGN CHOICE,
notes/assumptions/71.md). -/
def judgeAllEscrow (s : State) : State := s.seat.escrow.foldl judgeEscrow s

/-! ## Giving (R119) -/

/-- A give to a recipient is possible: a free slot, no entry held for it, a transfer number left. -/
def canGive (s : State) (rcpt : Addr) : Bool :=
  s.seat.escrow.length < escrowCap && !(s.seat.escrow.any fun e => e.rcpt = rcpt) && s.seat.next < max32

/-- A give makes an escrow entry, moves its count out of free and advances the transfer number (R119). -/
def makeGive (rcpt : Addr) (count : Nat) (ask : Option Nat) (s : State) : State :=
  let x := s.seat.next
  let s := touchSeat [.give x] { s with
    seat.escrow := s.seat.escrow ++ [{ xfer := x, rcpt, count, ask, tries := 0, timer := none, unanswered := false,
                                       stranded := false }]
    seat.free := s.seat.free - count
    seat.next := x + 1 }
  if x + 1 = max32 then raiseOwn .transfersExhausted [] s else s

/-! ## Asking (R115, R116) -/

/-- The station is short (R115). -/
def isShort (s : State) : Bool := role s = .line && s.st.state = .active && s.seat.free < freshCount s

def headFresh (s : State) : Bool :=
  match s.port.queue with
  | [] => false
  | e :: _ => e.fresh

/-- Offer a SEAT-ASK (R115). -/
def offerAsk (s : State) : State :=
  let n := (s.seat.askNo + 1) % 255
  let count := min 16 (freshCount s - s.seat.free)
  let opens := !s.seat.episode
  let s := { s with seat.askNo := n, seat.phase := .outstanding (s.now + ms 500), seat.firstAsk := opens,
                    seat.episode := true }
  let s := if opens then raiseOwn .seatsShort (b2 count ++ b2 (freshCount s)) s else s
  sendNormal (.seatAsk n count) s

/-- The conditions of R115 judged at a change of free, of the fresh-entry count or of the head, and on entry
into ACTIVE; the episode closes when the station ceases to be short (R116). -/
def judgeAsk (s : State) : State :=
  if isShort s then
    if headFresh s ∧ s.seat.phase = .idle then offerAsk s else s
  else { s with seat.episode := false }

/-- On leaving ACTIVE (R116, R118). -/
def stopAsking (s : State) : State :=
  { s with seat.phase := .idle, seat.episode := false, seat.answers := [] }

/-! ## Answering (R117, R118) -/

/-- The answer delay (R117). -/
def answerDelay (s : State) : Nat :=
  match role s with
  | .supervisor => ms (2 * (ownAddr s).val)
  | _ => ms (100 + 4 * (ownAddr s).val)

/-- A SEAT-ASK from a peer (R117). -/
def takeAsk (src : Addr) (ask count : Nat) (s : State) : State :=
  if s.st.state = .active ∧ 0 < giveable s ∧ presentAs s src .line ∧ (s.seat.escrow.any fun e => e.rcpt = src) = false
  then
    { s with seat.answers := (s.seat.answers.filter fun a => a.asker ≠ src) ++
        [{ asker := src, ask, count, seen := 0, gives := [], ends := s.now + answerDelay s }] }
  else s

/-- A SEAT-GIVE heard counts toward the pending answer whose asker and ask number it carries, once (R118); the
pairs counted and their total are not bounded (notes/assumptions/52.md). -/
def countGive (src : Addr) (f : GiveFields) (s : State) : State :=
  { s with seat.answers := s.seat.answers.map fun a =>
      if a.asker = f.rcpt ∧ f.ask = some a.ask ∧ (src, f.xfer) ∉ a.gives then
        { a with seen := a.seen + f.count, gives := a.gives ++ [(src, f.xfer)] }
      else a }

/-- A pending answer's delay runs out (R118). -/
def giveAnswer (a : Answer) (s : State) : State :=
  let s := { s with seat.answers := s.seat.answers.filter fun b => b.asker ≠ a.asker }
  if a.seen < a.count ∧ s.st.state = .active ∧ 0 < giveable s ∧ (entryAt s a.asker).isPresent ∧ canGive s a.asker then
    makeGive a.asker (min (a.count - a.seen) (giveable s)) (some a.ask) s
  else s

/-! ## Receiving and acknowledgement (R121 to R123) -/

/-- The stored seat record holds the receipt for a giver as it now stands. -/
def receiptStored (s : State) (g : Addr) : Bool :=
  match s.store.seat.current with
  | none => s.seat.receipts[g] = 0
  | some c => c.contents.receipts[g] = s.seat.receipts[g]

/-- The write in flight carries the receipt for a giver as it now stands. -/
def receiptInFlight (s : State) (g : Addr) : Bool :=
  match s.store.seat.writing with
  | none => false
  | some c => c.receipts[g] = s.seat.receipts[g]

/-- The repeat SEAT-ACK of a give that is not greater than its receipt (R121): it waits for the write that includes
the receipt's present value, where one is in flight or still to begin (notes/assumptions/19.md). -/
def repeatAck (src : Addr) (x count : Nat) (s : State) : State :=
  if receiptInFlight s src then
    { s with store.seat.waiting := s.store.seat.waiting ++ [.ack src x count false] }
  else if receiptStored s src then sendNormal (.seatAck src x count) s
  else { s with store.seat.waitingNext := s.store.seat.waitingNext ++ [.ack src x count false] }

/-- A SEAT-GIVE at its recipient (R121, R122). -/
def acceptGive (src : Addr) (x count : Nat) (s : State) : State :=
  if s.seat.receipts[src] < x then
    if owned s + count ≤ seatCap then
      touchSeat [.ack src x count true]
        { s with seat.free := s.seat.free + count, seat.receipts := s.seat.receipts.set src x }
    else raise .seatsRefused src.val (b4 x ++ b2 count ++ b2 (owned s)) s
  else repeatAck src x count s

/-- A SEAT-ACK at the giver: the matching entry is removed and its seats leave the station (R123). -/
def takeAck (src : Addr) (x : Nat) (s : State) : State :=
  match escrowOf s x with
  | none => s
  | some e =>
    if e.rcpt = src then
      raise .seatsGiven src.val (xferDetail e.xfer e.count) (touchSeat [] (dropEscrow x s))
    else s

end Sys2Proof.Machine
end

