-- ==== Sys2Proof/Machine/Ports.lean ====
section
/-! DEFINITION. The port table and activation queue (chapter 8), with what a port's leaving service does to its
filter record (R163). -/

namespace Sys2Proof.Machine

open Sys2Proof.Config

def setPort (n : Nat) (p : Port) (s : State) : State := { s with port.recs := s.port.recs.set n p }

/-- The port's record changed by `f`; a port that is not fitted is left alone. -/
def mapPort (n : Nat) (f : Port → Port) (s : State) : State :=
  match portAt s n with
  | none => s
  | some p => setPort n (f p) s

/-- LIGHTING or LIT: the states whose enable line is high (R128). -/
def Port.inService (p : Port) : Bool := p.state = .lighting || p.state = .lit

/-- The level of a port-enable line (R3, R128). -/
def portEnable (s : State) (n : Nat) : Bool :=
  match portAt s n with
  | none => false
  | some p => p.inService

/-! ## Detaching by darkening (R162, R163) -/

/-- The filter record and the load queue when the port leaves service: a QUEUED port leaves the queue, a LOADING
port's load runs on with its result ignored, and a CURRENT or FAULT record is unchanged. -/
def darkenFilter (n : Nat) (p : Port) (s : State) : State :=
  match p.filter.state with
  | .queued =>
      setPort n { p with filter.state := .current } { s with filt.queue := s.filt.queue.filter (· ≠ n) }
  | .loading =>
      setPort n { p with filter.state := .current, filter.dirty := false }
        { s with filt.flight := s.filt.flight.map fun l => if l.port = n then { l with ignored := true } else l }
  | .current => setPort n p s
  | .fault => setPort n p s

/-- The port leaves service as `p`: its node is detached and its filter record follows. -/
def leaveService (n : Nat) (p : Port) (s : State) : State := darkenFilter n { p with node := none } s

/-! ## State changes -/

/-- A port's record on becoming DARK (R127): only its filter record stays. -/
def Port.darkened (p : Port) : Port :=
  { p with state := .dark, req := none, seat := false, node := none, startAt := none, timer := none,
           dimCause := .released, restored := false }

/-- A port becomes DARK; a seat it holds is freed (R111, R137, R139). -/
def darkenPort (n : Nat) (s : State) : State :=
  match portAt s n with
  | none => s
  | some p =>
    let s := if p.seat then freeSeat s else s
    leaveService n p.darkened s

/-- A LIGHTING or LIT port becomes DIMMING (R131, R139); any other is left as it is. -/
def dimPort (c : DimCause) (n : Nat) (s : State) : State :=
  match portAt s n with
  | none => s
  | some p =>
    if p.inService then
      leaveService n { p with state := .dimming, timer := some (s.now + ms 20), dimCause := c } s
    else s

/-- The draw and priority of a request in a notice's detail. -/
def reqDetail (p : Port) : List Byte :=
  match p.req with
  | none => b1 0 ++ b1 0
  | some r => b1 r.draw ++ b1 r.priority

/-- A LIGHTING or LIT port is shed (R138). -/
def shedPort (n : Nat) (s : State) : State :=
  match portAt s n with
  | none => s
  | some p =>
    if p.inService then
      let s := leaveService n { p with state := .shed, timer := none } s
      raise .portShed n (reqDetail p ++ b1 p.state.code)
        { s with port.queue := { port := n, fresh := false } :: s.port.queue }
    else s

/-- The first port in shed order: the lowest priority first, then the highest port number (R138). -/
def firstToShed (s : State) : Option Nat :=
  (s.port.recs.zipIdx.foldl (fun (best : Option (Nat × Nat)) x =>
    if x.1.inService then
      let pr := match x.1.req with | none => 0 | some r => r.priority
      match best with
      | none => some (pr, x.2)
      | some b => if b.1 ≤ pr then some (pr, x.2) else best
    else best) none).map (·.2)

/-! ## The activation queue and history (R132, R133) -/

/-- The port's entry leaves the queue. -/
def dropEntry (n : Nat) (s : State) : State :=
  { s with port.queue := s.port.queue.filter fun e => e.port ≠ n }

/-- The port's entry is the head. -/
def isHead (n : Nat) (s : State) : Bool :=
  match s.port.queue with
  | [] => false
  | e :: _ => e.port = n

/-- The head entry leaves the queue other than by a start: an OPEN settle window is closed and the retry timer
stopped (R76, R77). The timer follows whatever entry stands at the head (notes/assumptions/54.md). -/
def removeEntry (n : Nat) (s : State) : State :=
  if isHead n s then { dropEntry n (closeWindow s) with budget.retry := none } else dropEntry n s

/-- A recorded start is recent for 200 ms (R133). -/
def recentStarts (now : Nat) (h : List Nat) : List Nat := h.filter fun t => now < t + ms 200

/-- The history allows a start (R133). -/
def historyAllows (now : Nat) (h : List Nat) : Bool :=
  (recentStarts now h).length < 4 &&
    (match h.getLast? with
     | none => true
     | some t => t + ms 10 ≤ now)

/-- The next moment at which the history allows a start, when it does not allow one now (R133). -/
def nextBoundary (now : Nat) (h : List Nat) : Option Nat :=
  if historyAllows now h then none
  else match h.getLast? with
    | none => none
    | some t => some (max (t + ms 10)
        (match recentStarts now h with
         | a :: _ :: _ :: _ :: _ => a + ms 200
         | _ => 0))

/-- Append a start; a fifth drops the oldest. The next boundary follows from the history as it then stands
(R133). -/
def recordStart (s : State) : State :=
  let h := s.port.history ++ [s.now]
  let h := h.drop (h.length - 4)
  { s with port.history := h, port.boundary := nextBoundary s.now h }

/-- The head is started into LIGHTING (R135). -/
def startHead (s : State) : State :=
  match s.port.queue with
  | [] => s
  | e :: rest =>
    let s := if e.fresh then bindSeat s else s
    let s := mapPort e.port (fun p => { p with
        state := .lighting, seat := true, startAt := some s.now, timer := some (s.now + ms 100), restored := !e.fresh })
      { s with port.queue := rest }
    recordStart s

/-! ## Requests on the whole table (R139) -/

def forEachPort (f : Nat → State → State) (s : State) : State :=
  (List.range s.port.recs.length).foldl (fun s n => f n s) s

/-- Empty the queue: every entry removed and its port DARK, a SHED port's seat freed; the retry timer stops. -/
def emptyQueue (s : State) : State :=
  let s := s.port.queue.foldl (fun s e => darkenPort e.port s) s
  { s with port.queue := [], budget.retry := none }

/-- Dim all: every LIGHTING and LIT port becomes DIMMING with cause DEPARTURE. -/
def dimAll (s : State) : State := forEachPort (dimPort .departure) s

/-- Darken all: every port DARK at once, its seat freed; queue and history emptied. -/
def darkenAll (s : State) : State :=
  let s := forEachPort darkenPort s
  { s with port.queue := [], port.history := [], port.boundary := none, budget.retry := none }

def anyDimming (s : State) : Bool := s.port.recs.any fun p => p.state = .dimming

end Sys2Proof.Machine
end

