-- ==== Sys2Proof/Machine/Filters.lean ====
section
/-! DEFINITION. The filter unit (chapter 10): allowed lists, the capacity check, the load queue and the loads on
the filter channel. -/

namespace Sys2Proof.Machine

open Sys2Proof.Config

/-! ## What a filter holds (R159, R160) -/

/-- Insert an identity into an ascending list, once. -/
def insertNode (n : Nat) : List Nat → List Nat
  | [] => [n]
  | m :: l => if n < m then n :: m :: l else if n = m then m :: l else m :: insertNode n l

/-- The zones a node is a member of. -/
def zonesOf (z : ZoneSet) (n : Nat) : List Nat := (z.filter fun e => e.node = n).map (·.zone)

/-- The allowed list of a node under a zone set: ascending, each identity once (R159). -/
def allowedList (z : ZoneSet) (n : Nat) : List Nat :=
  let zs := zonesOf z n
  (z.filter fun e => e.node ≠ n ∧ e.zone ∈ zs).foldl (fun l e => insertNode e.node l) []

/-- A port's filter from its attached node and the active set (R159). -/
def filterOf (s : State) (node : Option Nat) : Mode × List Nat :=
  match node with
  | none => (.denyAll, [])
  | some n => if s.zone.gen = 0 then (.permitAll, []) else (.list, allowedList s.zone.active n)

/-- The capacity check: the first port, in ascending order, whose list under `z` would hold more than 256
identities (R160). -/
def overCapacity (z : ZoneSet) (s : State) : Option Nat :=
  (s.port.recs.zipIdx.find? fun x => match x.1.node with
    | none => false
    | some n => listCap < (allowedList z n).length).map (·.2)

/-! ## Loads owed (R163) -/

def setFilter (n : Nat) (f : Filter → Filter) (s : State) : State := mapPort n (fun p => { p with filter := f p.filter }) s

/-- A load owed to a port, by its filter record's state. -/
def oweLoad (n : Nat) (s : State) : State :=
  match portAt s n with
  | none => s
  | some p =>
    match p.filter.state with
    | .current => setFilter n (fun f => { f with state := .queued }) { s with filt.queue := s.filt.queue ++ [n] }
    | .fault => setFilter n (fun f => { f with state := .queued }) { s with filt.queue := s.filt.queue ++ [n] }
    | .queued => s
    | .loading => setFilter n (fun f => { f with dirty := true }) s

/-- The sweep of a commit owes a load to every port with an attached node, in port order (R167). -/
def sweepPorts (s : State) : State :=
  forEachPort (fun n s => match portAt s n with
    | none => s
    | some p => if p.node.isSome then oweLoad n s else s) s

/-! ## Loads (R164 to R166) -/

/-- A load ends with a fault: the record becomes FAULT, the port is dimmed and FILTER-FAULT raised (R166).
`reason` is OVER-CAPACITY 0 or TIMEOUT 1. -/
def loadFault (n reason : Nat) (mode : Mode) (len gen : Nat) (s : State) : State :=
  let s := setFilter n (fun f => { f with state := .fault, dirty := false }) s
  let s := dimPort .filterFault n s
  raise .filterFault n (b1 reason ++ b1 mode.code ++ b2 len ++ b4 gen) s

/-- With no load in flight, the head port leaves the queue and its load starts, or faults OVER-CAPACITY and the
next head follows (R164). `fuel` bounds the loads tried: the queue's length is enough. -/
def startLoads : Nat → State → State
  | 0, s => s
  | fuel + 1, s =>
    match s.filt.flight, s.filt.queue with
    | none, n :: rest =>
      let s := { s with filt.queue := rest }
      match portAt s n with
      | none => startLoads fuel s
      | some p =>
        let f := filterOf s p.node
        if f.1 = .list ∧ listCap < f.2.length then
          startLoads fuel (loadFault n 0 f.1 f.2.length s.zone.gen s)
        else
          setFilter n (fun r => { r with state := .loading })
            { s with filt.flight := some { port := n, mode := f.1, list := f.2, gen := s.zone.gen, second := false,
                                           ends := s.now + ms 20, ignored := false } }
    | _, _ => s

/-- The next load is started at once if the queue is not empty. -/
def pumpLoads (s : State) : State := startLoads s.filt.queue.length s

/-- The load in flight ends without its result being taken (R166). -/
def endIgnored (s : State) : State := { s with filt.flight := none }

/-- The load in flight is acknowledged and its result taken (R165); a dirty port joins the queue's tail. -/
def endTaken (l : Flight) (s : State) : State :=
  let s := { s with filt.flight := none }
  match portAt s l.port with
  | none => s
  | some p =>
    let loaded : Filter → Filter := fun f => { f with mode := some l.mode, entries := l.list.length, gen := l.gen,
                                                      state := .current, dirty := false }
    let s1 := setFilter l.port loaded s
    if p.filter.dirty then oweLoad l.port s1 else s1

/-- The load in flight ends with a TIMEOUT (R165). -/
def endTimedOut (l : Flight) (s : State) : State :=
  loadFault l.port 1 l.mode l.list.length l.gen { s with filt.flight := none }

/-- The queue is drained: empty, with no load in flight (R167). -/
def drained (s : State) : Bool := s.filt.queue.isEmpty && s.filt.flight.isNone

/-- While sweep pending is yes, the report of a drained queue makes the zoning lock FREE and raises ZONE-APPLIED
(R155, R167). -/
def reportSweep (s : State) : State :=
  if s.filt.sweep ∧ drained s then
    let gen := s.zone.gen
    let s := { s with filt.sweep := false }
    if s.zone.lock = .applying then
      raise .zoneApplied gen [] { s with zone.lock := .free, zone.origin := none, zone.proposed := none }
    else s
  else s

/-- Start what can be started and report what is drained. -/
def serveFilters (s : State) : State := reportSweep (pumpLoads s)

end Sys2Proof.Machine
end

