-- ==== Sys2Proof/Machine/Zoning.lean ====
section
/-! DEFINITION. The zoning unit (chapter 9): zone sets, the frames it offers, reception and voting, the decision,
commit and abandon. -/

namespace Sys2Proof.Machine

open Sys2Proof.Config

/-! ## Zone sets (R142) -/

/-- An entry stands before another in canonical order. -/
def ZEntry.before (a b : ZEntry) : Bool := a.zone < b.zone || (a.zone = b.zone && a.node < b.node)

/-- The entries are strictly ascending by zone id and then identity. -/
def ascending : ZoneSet → Bool
  | [] => true
  | [_] => true
  | a :: b :: l => a.before b && ascending (b :: l)

/-- Place an entry in canonical order; one already there leaves the set unchanged. -/
def insertEntry (e : ZEntry) : ZoneSet → ZoneSet
  | [] => [e]
  | a :: l => if e.before a then e :: a :: l else if e = a then a :: l else a :: insertEntry e l

/-- The number of zones of a set in canonical order. -/
def zoneCount : ZoneSet → Nat
  | [] => 0
  | [_] => 1
  | a :: b :: l => (if a.zone = b.zone then 0 else 1) + zoneCount (b :: l)

/-- The members of a zone. -/
def memberCount (z : ZoneSet) (id : Nat) : Nat := (z.filter fun e => e.zone = id).length

/-- The limits of R142: 128 zones, 64 members in a zone, 1024 entries. -/
def withinLimits (z : ZoneSet) : Bool :=
  zoneCount z ≤ 128 && z.length ≤ 1024 && z.all fun e => memberCount z e.zone ≤ 64

/-! ## Frames offered (R146) -/

/-- Offer the waiting frames in order until one is refused as full, which starts the 10 ms resend timer. A frame
taken brings DEPART one frame nearer (R171); one offered where the station queues nothing is lost. -/
def pumpZone : List Msg → State → State
  | [], s => { s with zone.outbox := [], zone.resend := none }
  | m :: rest, s =>
    match offerNormal m s with
    | (s', .taken) => pumpZone rest { s' with dep.ahead := s'.dep.ahead - 1 }
    | (s', .closed) => pumpZone rest { s' with dep.ahead := s'.dep.ahead - 1 }
    | (s', .full) => { s' with zone.outbox := m :: rest, zone.resend := some (s'.now + ms 10) }

/-- Zoning frames to be offered: behind those already waiting, at once when none waits. One queue and one resend
timer serve every zoning frame, whichever set it is of (R146; DESIGN CHOICE, notes/assumptions/64.md). -/
def sendZone (l : List Msg) (s : State) : State :=
  match s.zone.resend with
  | some _ => { s with zone.outbox := s.zone.outbox ++ l }
  | none => pumpZone (s.zone.outbox ++ l) s

/-- The ZONE-SEG frames of a set: five entries each, numbered from `k` (R146). -/
def segments (gen : Nat) : Nat → Nat → ZoneSet → List Msg
  | 0, _, _ => []
  | fuel + 1, k, z => if z = [] then [] else .zoneSeg gen k (z.take 5) :: segments gen fuel (k + 1) (z.drop 5)

/-- ZONE-OPEN and the segments of the staged set (R146). -/
def publishFrames (gen : Nat) (z : ZoneSet) : List Msg :=
  .zoneOpen gen (ceilDiv z.length 5) (setCheck z) :: segments gen z.length 1 z

def isPublishFrame : Msg → Bool
  | .zoneOpen _ _ _ => true
  | .zoneSeg _ _ _ => true
  | _ => false

/-- Every frame of the publish not yet offered is left unoffered (R152, notes/assumptions/22.md). -/
def dropUnoffered (s : State) : State :=
  let l := s.zone.outbox.filter fun m => !isPublishFrame m
  { s with zone.outbox := l, zone.resend := if l.isEmpty then none else s.zone.resend }

/-! ## The lock -/

/-- The lock becomes FREE, the staged set is cleared, and every timer of the set stops (R150, R152, R153); segment
progress and stated check go to 0 (notes/assumptions/56.md). -/
def freeLock (s : State) : State :=
  { s with
    zone.staged := [], zone.lock := .free, zone.origin := none, zone.proposed := none, zone.segCount := 0,
    zone.received := 0, zone.check := 0, zone.shortSeg := false, zone.segTimer := none, zone.voteTimer := none,
    zone.orphanTimer := none }

/-- The outcome codes of ZONE-RESULT (section 12.6). -/
def committedCode : Nat := 0
def abandonedCode : Nat := 1

/-- ZONE-RESULT: the generation as subject; originator, outcome and reason, and what the reason names, as
detail (R152). -/
def zoneResult (gen : Nat) (origin : Option Addr) (outcome reason : Nat) (more : List Byte) (s : State) : State :=
  raise .zoneResult gen (bOpt (origin.map (·.val)) ++ b1 outcome ++ b1 reason ++ more) s

/-! ## Commit (R152, R153) -/

/-- Commit pending is set and the zoning record written; the vote window or orphan timer stops. -/
def startCommit (s : State) : State :=
  touchZone [.commit] { s with zone.commitPending := true, zone.voteTimer := none, zone.orphanTimer := none }

/-- The write of a commit has completed (R152, R153, R155, R167); segment progress goes to 0
(notes/assumptions/56.md). ZONE-RESULT is raised before the FILTER-FAULTs of the sweep's first heads (DESIGN CHOICE,
notes/assumptions/74.md). -/
def commitEffect (s : State) : State :=
  if s.zone.commitPending then
    let gen := s.zone.proposed.getD s.zone.gen
    let origin := s.zone.origin
    let s := { s with
      zone.commitPending := false, zone.active := s.zone.staged, zone.staged := [], zone.gen := gen,
      zone.lock := .applying, zone.segCount := 0, zone.received := 0, zone.check := 0, zone.shortSeg := false }
    let s := zoneResult gen origin committedCode Reason.none.code [] s
    let s := serveFilters (sweepPorts { s with filt.sweep := true })
    if origin = some (ownAddr s) then sendZone [.zoneCommit gen] s else s
  else s

/-! ## Abandon by the originator (R152) -/

/-- The originator abandons: unoffered frames stay unoffered, ZONE-ABANDON carries the reason, the lock becomes
FREE and ZONE-RESULT is raised with what the reason names. -/
def abandon (reason : Reason) (more : List Byte) (s : State) : State :=
  let gen := s.zone.proposed.getD 0
  let origin := s.zone.origin
  let s := sendZone [.zoneAbandon gen reason] (dropUnoffered s)
  zoneResult gen origin abandonedCode reason.code more (freeLock s)

/-! ## The decision (R151) -/

def isRefusal (v : Vote) : Bool :=
  match v.verdict with
  | some (.refuse, _, _) => true
  | some (.busy, _, _) => true
  | some (.ready, _, _) => false
  | none => false

def isReady (v : Vote) : Bool :=
  match v.verdict with
  | some (.ready, _, _) => true
  | _ => false

/-- The set is abandoned on a recorded REFUSE or BUSY, with its voter, and its port where it names one. -/
def abandonOn (v : Vote) (s : State) : State :=
  match v.verdict with
  | some (.refuse, r, p) => abandon r (b1 v.voter.val ++ bOpt p) s
  | some (.busy, _, _) => abandon .busy (b1 v.voter.val) s
  | some (.ready, _, _) => s
  | none => s

/-- The decision from the result table (R151). -/
def decideSet (s : State) : State :=
  if s.zone.commitPending then s
  else
    match s.zone.lock with
    | .publishing =>
      match s.zone.results.find? isRefusal with
      | some v => abandonOn v s
      | none => s
    | .collecting =>
      match s.zone.results.find? isRefusal with
      | some v => abandonOn v s
      | none => if s.zone.results.all isReady then startCommit s else s
    | .free => s | .receiving => s | .ready => s | .applying => s

/-- The last segment is reported sent or lost: COLLECTING, and the vote window starts (R146). -/
def segReported (gen k : Nat) (s : State) : State :=
  if s.zone.lock = .publishing ∧ s.zone.proposed = some gen ∧ k = s.zone.segCount ∧ s.zone.origin = some (ownAddr s) then
    decideSet { s with zone.lock := .collecting, zone.voteTimer := some (s.now + ms 2000) }
  else s

/-- A ZONE-VOTE at the originator counts when its voter is listed, its generation is the proposed one and no
verdict is recorded yet (R151). -/
def takeVote (src : Addr) (gen : Nat) (v : Verdict) (r : Reason) (p : Option Nat) (s : State) : State :=
  let counts : Bool := (s.zone.lock = .publishing || s.zone.lock = .collecting) && s.zone.proposed = some gen
  if counts then
    decideSet { s with zone.results := s.zone.results.map fun x =>
      if x.voter = src ∧ x.verdict.isNone then { x with verdict := some (v, r, p) } else x }
  else s

/-! ## Reception (R148 to R150) -/

/-- A vote offered to the originator (R150). -/
def vote (dest : Addr) (gen : Nat) (v : Verdict) (r : Reason) (p : Option Nat) (s : State) : State :=
  sendZone [.zoneVote dest gen v r p] s

/-- Reception ends with a REFUSE (R149, R150). -/
def refuseSet (r : Reason) (p : Option Nat) (s : State) : State :=
  match s.zone.origin, s.zone.proposed with
  | some o, some g => vote o g .refuse r p (freeLock s)
  | _, _ => freeLock s

/-- Reception is complete: the checks of R150, in order, and the vote. -/
def completeSet (s : State) : State :=
  let z := s.zone.staged
  if setCheck z ≠ s.zone.check then refuseSet .check none s
  else if (z.any fun e => e.zone = 0 || e.node = 0) || !ascending z || s.zone.shortSeg || !withinLimits z then
    refuseSet .malformed none s
  else if s.zone.proposed.getD 0 ≤ s.zone.gen then refuseSet .stale none s
  else match overCapacity z s with
    | some p => refuseSet .capacity (some p) s
    | none =>
      let s := { s with zone.lock := .ready, zone.segTimer := none, zone.orphanTimer := some (s.now + ms 5000) }
      match s.zone.origin, s.zone.proposed with
      | some o, some g => vote o g .ready .none none s
      | _, _ => s

/-- A ZONE-OPEN taken from FREE (R148). -/
def takeOpen (src : Addr) (gen n check : Nat) (s : State) : State :=
  if s.st.state = .departing then vote src gen .refuse .departing none s
  else if n = 0 ∨ 205 < n ∨ gen = 0 then vote src gen .refuse .malformed none s
  else { s with
    zone.staged := [], zone.lock := .receiving, zone.origin := some src, zone.proposed := some gen,
    zone.segCount := n, zone.received := 0, zone.check := check, zone.shortSeg := false,
    zone.segTimer := some (s.now + ms 500) }

/-- The previous set of the same originator is taken as abandoned; the lock has been FREE in between (R148, R41). -/
def supersede (s : State) : State :=
  let gen := s.zone.proposed.getD 0
  let origin := s.zone.origin
  let t := noteChange (freeLock s)
  if s.zone.lock = .ready then zoneResult gen origin abandonedCode Reason.superseded.code [] t else t

/-- A ZONE-OPEN from a peer, by the receiver's lock (R148). -/
def receiveOpen (src : Addr) (gen n check : Nat) (s : State) : State :=
  if s.zone.commitPending then vote src gen .busy .none none s
  else
    let again : Bool := (s.zone.lock = .receiving || s.zone.lock = .ready) && s.zone.origin = some src
    if s.zone.lock = .free then takeOpen src gen n check s
    else if again then
      if s.st.state ≠ .departing ∧ (n = 0 ∨ 205 < n ∨ gen = 0) then vote src gen .refuse .malformed none s
      else takeOpen src gen n check (supersede s)
    else vote src gen .busy .none none s

/-- A ZONE-SEG from the originator with the proposed generation (R149). -/
def receiveSeg (src : Addr) (gen k : Nat) (es : List ZEntry) (s : State) : State :=
  if s.zone.lock = .receiving ∧ s.zone.origin = some src ∧ s.zone.proposed = some gen then
    if k = s.zone.received + 1 ∧ k ≤ s.zone.segCount then
      let s := { s with
        zone.staged := s.zone.staged ++ es, zone.received := k, zone.segTimer := some (s.now + ms 500),
        zone.shortSeg := s.zone.shortSeg || decide (k < s.zone.segCount ∧ es.length < 5) }
      if k = s.zone.segCount then completeSet s else s
    else refuseSet .incomplete none s
  else s

/-! ## Commit and abandon at a receiver (R153, R154) -/

/-- A ZONE-COMMIT or ZONE-ABANDON acts only from the receiver's originator with the proposed generation. -/
def fromOriginator (src : Addr) (gen : Nat) (s : State) : Bool :=
  s.zone.origin = some src && s.zone.proposed = some gen

def receiveCommit (src : Addr) (gen : Nat) (s : State) : State :=
  if fromOriginator src gen s then
    match s.zone.lock with
    | .ready => if s.zone.commitPending then s else startCommit s
    | .receiving => freeLock s
    | .free => s | .publishing => s | .collecting => s | .applying => s
  else s

/-- A READY set is abandoned at the receiver, with the code of the reason (R153, R154). -/
def abandonReady (reason : Nat) (s : State) : State :=
  zoneResult (s.zone.proposed.getD 0) s.zone.origin abandonedCode reason [] (freeLock s)

def receiveAbandon (src : Addr) (gen reason : Nat) (s : State) : State :=
  if fromOriginator src gen s then
    match s.zone.lock with
    | .ready => if s.zone.commitPending then s else abandonReady reason s
    | .receiving => freeLock s
    | .free => s | .publishing => s | .collecting => s | .applying => s
  else s

/-- A READY receiver decides from its originator's recorded fields (R154). -/
def implicitDecision (p : Addr) (s : State) : State :=
  if s.zone.lock = .ready ∧ s.zone.commitPending = false ∧ s.zone.origin = some p then
    match entryAt s p, s.zone.proposed with
    | .known _ _ f, some g =>
      if f.gen = g then startCommit s
      else if f.lock = .free ∧ f.gen < g then abandonReady Reason.implicit.code s
      else s
    | _, _ => s
  else s

/-- A PRESENT LINE or SUPERVISOR entry at a generation above the own one and the behind mark (R156). -/
def judgeBehind (p : Addr) (s : State) : State :=
  match entryAt s p with
  | .known .present _ f =>
    if zoning s ∧ (f.role = .line ∨ f.role = .supervisor) ∧ s.zone.gen < f.gen ∧ s.zone.behind < f.gen then
      raise .zoneBehind p.val (b4 f.gen ++ b4 s.zone.gen) { s with zone.behind := f.gen }
    else s
  | _ => s

/-- Departure asks the zoning unit to leave the protocol (R157). -/
def leaveZoning (s : State) : State :=
  match s.zone.lock with
  | .receiving => refuseSet .departing none s
  | .publishing => if s.zone.commitPending then s else abandon .departing [] s
  | .collecting => if s.zone.commitPending then s else abandon .departing [] s
  | .free => s | .ready => s | .applying => s

/-- LINK-RESTART at an originator without a commit pending: the set is abandoned with nothing sent, and the frames
of the publish that the queue has not taken stay unoffered (R158). -/
def restartOrigin (s : State) : State :=
  zoneResult (s.zone.proposed.getD 0) s.zone.origin abandonedCode Reason.linkRestart.code []
    (freeLock (dropUnoffered s))

/-- LINK-RESTART at a receiver without a commit pending: every timer stops and no vote is sent (R158). -/
def restartReceiver (s : State) : State := freeLock { s with zone.outbox := [], zone.resend := none }

/-- LINK-RESTART on the zoning unit (R158): without a commit pending, a set under way is dropped silently; a
commit pending, APPLYING and the resends of frames not taken yet run on (R31, R146, notes/assumptions/57.md). -/
def restartZoning (s : State) : State :=
  if s.zone.commitPending then s
  else
    match s.zone.lock with
    | .publishing => restartOrigin s
    | .collecting => restartOrigin s
    | .receiving => restartReceiver s
    | .ready => restartReceiver s
    | .free => s
    | .applying => s

end Sys2Proof.Machine
end

