-- ==== Sys2Proof/Machine/React.lean ====
section
/-! DEFINITION. What a change sets off: re-evaluation with its shedding (R56, R70), the gates of the head
(R134), and the hand-on of view changes (R53). -/

namespace Sys2Proof.Machine

open Sys2Proof.Config

/-! ## The gates of the head (R134) and the first check (R73) -/

/-- Gates 1 to 5 are open and the retry timer is stopped. -/
def gatesOpen (e : QEntry) (s : State) : Bool :=
  s.st.state = .active && s.zone.lock ≠ .applying && s.budget.window.isNone && s.budget.retry.isNone
    && (!e.fresh || 0 < s.seat.free) && historyAllows s.now s.port.history

/-- The gates of the head are examined; with all open it is presented, and a first check that passes opens the
settle window (R73, R74). -/
def examineGates (s : State) : State :=
  match s.port.queue with
  | [] => s
  | e :: _ =>
    if gatesOpen e s ∧ firstTotal (liveView s) (ownAddr s).val (prospective s e.port) ≤ s.budget.margined then
      { s with budget.window := some (s.now + ms 40) }
    else s

/-! ## Re-evaluation (R56, R62, R69 to R72) -/

/-- The states in which a re-evaluation is made (R56). -/
def evaluating (s : State) : Bool :=
  match s.st.state with
  | .joining => true | .active => true | .isolated => true
  | .reset => false | .setup => false | .departing => false | .departed => false

/-- The states in which a re-evaluation compares and reports (R62, R69). -/
def comparing (s : State) : Bool := s.st.state = .active || s.st.state = .isolated

/-- Shedding, one port at a time, until the station is COVERED or none is left (R70); `fuel` bounds the sheds:
the number of ports is enough. -/
def shedAll : Nat → State → State
  | 0, s => s
  | fuel + 1, s =>
    if s.budget.coverage = .uncovered then
      match firstToShed s with
      | none => s
      | some n => shedAll fuel (compute (refresh (shedPort n s)))
    else s

/-- What an UNCOVERED station does (R70 to R72). -/
def actUncovered (s : State) : State :=
  match role s with
  | .line =>
    if s.st.state = .active then
      let s := shedAll s.port.recs.length (refresh (closeWindow s))
      if s.budget.coverage = .uncovered then raiseExhausted s else reportCoverage s
    else s
  | .supervisor => raiseExhausted s
  | .fan => raiseExhausted s
  | .supply => s

/-- One re-evaluation, after which the gates of the head are examined (R56, R134). -/
def reevaluate (s : State) : State :=
  if evaluating s then
    let s := compute (refresh s)
    let s := if comparing s then reportCoverage (reportRedundancy s) else s
    let s := if comparing s ∧ s.budget.coverage = .uncovered then actUncovered s else s
    examineGates s
  else s

/-! ## View changes (R53) -/

/-- The own entry follows its blocks; while that changes it, each change is a view change, which re-evaluates
and recomputes the target. `fuel` bounds the rounds: a change settles in a few (notes/assumptions/10.md). -/
def propagate : Nat → State → State
  | 0, s => refresh s
  | fuel + 1, s =>
    let t := refresh s
    if ownRecorded t = ownRecorded s then t else propagate fuel (reevaluate (retarget t))

/-- The rounds allowed for a change to settle. -/
abbrev rounds : Nat := 8

/-- What follows a step's changes of the own entry: the fan target is recomputed where one has been made already,
and the entry is followed until it settles (R53, R90). -/
def handOn (s : State) : State := propagate rounds (if s.announce then retarget s else s)

/-- A change of a peer's entry goes to the blocks that read it, in chapter order (notes/assumptions/9.md). Until JOIN
has built the own entry no block computes from the view (R44). -/
def viewChanged (p : Addr) (s : State) : State :=
  if (ownRecorded s).isSome then judgeBehind p (implicitDecision p (judgeRecipient p (retarget (reevaluate s))))
  else s

/-- A change of one entry by `f`, handed on as one view change where the entry does change; a refreshed age is
no view change (R53). The peer's own notice comes before those that the view change sets off (DESIGN CHOICE,
notes/assumptions/69.md). -/
def Entry.sameView (a b : Entry) : Bool := a.presence? = b.presence? && a.fields? = b.fields?

def changeEntry (p : Addr) (e : Entry) (notice : State → State) (s : State) : State :=
  let was := entryAt s p
  let s := notice (setEntry p e s)
  if was.sameView e then s else viewChanged p s

/-- The one ROLLCALL of a step in which a field of the own entry has changed (R41). -/
def offerChanged (s : State) : State :=
  if s.announce then offerRollcall (ownRoll s) { s with announce := false } else s

end Sys2Proof.Machine
end

