-- ==== Sys2Proof/Machine/Life.lean ====
section
/-! DEFINITION. The station state's transitions (R8 to R13, R173), departure (chapter 11), thermal SHUTDOWN's
role actions (R87), and what ends every step. -/

namespace Sys2Proof.Machine

open Sys2Proof.Config

/-! ## One transition (R9) -/

/-- The station enters `t`: STATE-CHANGED is raised, and every block that follows the station state does so
(R10, R14, R41, R57, R76, R77, R91, R100, R116, R118), so that the notices of those blocks come after it (DESIGN
CHOICE, notes/assumptions/69.md). -/
def changeState (t : StationState) (c : Cause) (s : State) : State :=
  let was := s.st.state
  let held := if t = .isolated then some (liveView s) else none
  let s := raiseOwn .stateChanged (b1 was.code ++ b1 t.code ++ b1 c.code)
    { s with
      st.state := t
      st.joinTimer := if t = .joining then some (s.now + ms 1000) else none
      st.pend := if t = .joining then s.st.pend else .none
      st.ready := decide (t = .departed)
      view.period := if t = .departed then none else s.view.period
      budget.heldView := held }
  let s := if t = .active then s else stopAsking { closeWindow s with budget.retry := none }
  updateGoodRun (updateForcing s)

/-- Entry into ACTIVE (R10, R124): STATE-CHANGED before the notices of the escrow list (DESIGN CHOICE,
notes/assumptions/69.md). -/
def enterActive (s : State) : State := judgeAllEscrow (changeState .active .joined s)

/-- An isolation trigger (R11): it acts in JOINING and ACTIVE. -/
def isolate (c : Cause) (s : State) : State :=
  match s.st.state with
  | .joining => changeState .isolated c { s with st.drops := 0 }
  | .active => changeState .isolated c { s with st.drops := 0 }
  | .reset => s | .setup => s | .isolated => s | .departing => s | .departed => s

/-- Entry into JOINING, with the re-evaluation made there (R10, R56, R105). -/
def enterJoining (c : Cause) (s : State) : State :=
  reevaluate (updateGoodRun (enableOutput (changeState .joining c { s with st.drops := 0 })))

/-- The silence timer started, or restarted, unarmed (R8, R18). -/
def silenceUnarmed (s : State) : State :=
  { s with st.silence := some (s.now + ms 2000), st.silenceArmed := false }

/-! ## Departure (chapter 11) -/

/-- The zoning unit's answer to departure will be a frame (R157, R171). -/
def leavesWithFrame (s : State) : Bool :=
  match s.zone.lock with
  | .receiving => true
  | .publishing => !s.zone.commitPending
  | .collecting => !s.zone.commitPending
  | .free => false | .ready => false | .applying => false

/-- LEAVING, and in the same step DEPART-WAIT; DEPART follows every frame that LEAVING offered and the queue has
not taken (R171). -/
def enterLeaving (s : State) : State :=
  if zoning s then
    let framed := leavesWithFrame s
    let s := leaveZoning s
    { s with dep.zoningAsked := true, dep.step := some .departWait,
             dep.ahead := if framed then s.zone.outbox.length else 0 }
  else { s with dep.step := some .departWait, dep.ahead := 0 }

/-- The departure becomes forced (R172): DEPART is offered in the same step, a retry wait under way being over. -/
def forceDeparture (s : State) : State :=
  let s := { s with dep.kind := .forced, dep.timer := none, dep.retry := none }
  let s := if role s = .line then darkenAll s else s
  if s.dep.zoningAsked then { s with dep.step := some .departWait } else enterLeaving s

/-- Entry into DEPARTING (R168, R169, R171): STATE-CHANGED is raised before the SUPPLY-STATE of a GOOD supply
(R104; DESIGN CHOICE, notes/assumptions/69.md). -/
def enterDeparting (c : Cause) (forced : Bool) (s : State) : State :=
  let s := changeState .departing c s
  let s := supplyDeparting { s with
    dep := { kind := .orderly, step := none, timer := some (s.now + ms 10000), zoningAsked := false, ahead := 0,
             retry := none } }
  if forced then forceDeparture s
  else if role s = .line then { dimAll (emptyQueue s) with dep.step := some .dimmingWait }
  else enterLeaving s

/-- The lowest-addressed PRESENT SUPERVISOR entry (R170). -/
def giftTarget (s : State) : Option Addr := (peers s).find? fun a => presentAs s a .supervisor

/-- A gift chunk, where one can be made (R170). -/
def giveChunk (s : State) : State :=
  match giftTarget s with
  | none => s
  | some a => if 0 < s.seat.free ∧ canGive s a then makeGive a (min 16 s.seat.free) none s else s

/-- GIFT ends with free 0 and the escrow list empty, or with the transfer numbers exhausted (R170). -/
def endGift (s : State) : State :=
  if (s.seat.free = 0 ∧ s.seat.escrow = []) ∨ max32 ≤ s.seat.next then enterLeaving s else s

/-- Entry into GIFT (R170). -/
def enterGift (s : State) : State :=
  let s := { s with dep.step := some .gift }
  if s.st.settings.giveOnDepart = false ∨ giftTarget s = none then enterLeaving s
  else endGift (if max32 ≤ s.seat.next then s else giveChunk s)

/-- An event at which a chunk is made (R170): an escrow entry removed, a change of free, or a SUPERVISOR entry
become PRESENT, since `s0`. -/
def giftEvent (s0 s : State) : Bool :=
  s0.seat.escrow.any (fun e => !(s.seat.escrow.any fun f => f.xfer = e.xfer))
    || s.seat.free ≠ s0.seat.free
    || (peers s).any fun a => presentAs s a .supervisor && !presentAs s0 a .supervisor

/-- DEPART is taken into the queue (R171): DEPARTED, where no step is held (DESIGN CHOICE,
notes/assumptions/65.md); STATE-CHANGED is raised before SUPPLY-STATE (DESIGN CHOICE, notes/assumptions/69.md). -/
def enterDeparted (s : State) : State :=
  let c := match s.dep.kind with
    | .forced => Cause.forced
    | .orderly => Cause.departureDone
    | .none => Cause.departureDone
  disableOutput (stopEscrow { changeState .departed c s with dep.timer := none, dep.retry := none, dep.step := none })

/-- DEPART is offered once the frames ahead of it are taken and no retry wait runs; the ROLLCALL of the changes
made in this step goes first (R41, R171). -/
def offerDepart (s : State) : State :=
  if s.dep.step = some .departWait ∧ s.dep.ahead = 0 ∧ s.dep.retry = none then
    match offerNormal .depart (offerChanged (handOn s)) with
    | (s', .taken) => enterDeparted s'
    | (s', .full) => { s' with dep.retry := some (s'.now + ms 10) }
    | (s', .closed) => s'
  else s

/-- Where a departure stands, moved on as far as it goes (R169 to R171). -/
def departProgress (s0 s : State) : State :=
  if s.st.state = .departing then
    match s.dep.step with
    | none => s
    | some .dimmingWait => if anyDimming s then s else offerDepart (enterGift s)
    | some .gift => offerDepart (endGift (if giftEvent s0 s then giveChunk s else s))
    | some .leaving => offerDepart (enterLeaving s)
    | some .departWait => offerDepart s
  else s

/-! ## Thermal SHUTDOWN (R13, R87) -/

/-- The role actions of SHUTDOWN. -/
def shutdownRole (s : State) : State :=
  match role s with
  | .line => darkenAll { s with st.pwroff := true }
  | .supervisor => { s with st.pwroff := true }
  | .fan => updateForcing s
  | .supply => supplyShutdown { s with st.pwroff := true }

/-- Entering SHUTDOWN, by station state. In DEPARTING an orderly departure becomes forced; one that is forced already
goes on as it stands (R87, R172). -/
def enterShutdown (s : State) : State :=
  let s := shutdownRole s
  match s.st.state with
  | .joining => enterDeparting .shutdown true s
  | .active => enterDeparting .shutdown true s
  | .isolated => enterDeparting .shutdown true s
  | .departing => if s.dep.kind = .orderly then forceDeparture s else s
  | .setup => changeState .departed .shutdown { s with link := startLink s.now s.link }
  | .departed => s
  | .reset => s

/-! ## Returning from DEPARTED (R13, R173) -/

/-- The station leaves DEPARTED for JOINING, or for ISOLATED with an address clash held; the departure record is as
after reset, its step none (R13, R173; notes/assumptions/65.md). -/
def rejoin (c : Cause) (s : State) : State :=
  let s := { s with dep.kind := .none, dep.zoningAsked := false, dep.step := none, dep.timer := none }
  let s := if s.st.clash then changeState .isolated c { s with st.drops := 0 }
    else enterJoining c (silenceUnarmed s)
  resendAll s

/-! ## Reports to the owner of a frame (R24, R26) -/

/-- The owner of a frame learns that it was sent or lost. In DEPARTED the first DEPART to be reported empties the
transmit queues, be it that a second one stands queued (R13, R30; DESIGN CHOICE, notes/assumptions/76.md). -/
def frameReported (m : Msg) (s : State) : State :=
  match m with
  | .hold _ => if s.link.guard = .armed then { s with link.guard := .running (s.now + ms 5) } else s
  | .seatGive x _ _ _ => giveReported x s
  | .zoneSeg gen k _ => segReported gen k s
  | .depart => if s.st.state = .departed then { s with link := emptyQueues s.link } else s
  | .rollcall _ => s
  | .supplyDrop => s
  | .seatAsk _ _ => s
  | .seatAck _ _ _ => s
  | .zoneOpen _ _ _ => s
  | .zoneVote _ _ _ _ _ => s
  | .zoneCommit _ => s
  | .zoneAbandon _ _ => s

/-! ## The end of a step -/

/-- A change of free, of the fresh entries or of the head, or entry into ACTIVE, since `s0` (R115). -/
def askEvent (s0 s : State) : Bool :=
  s.seat.free ≠ s0.seat.free || freshCount s ≠ freshCount s0 || s.port.queue.head? ≠ s0.port.queue.head?
    || (s.st.state = .active && s0.st.state ≠ .active)

/-- An event of R134 since `s0`, other than those that examine the gates themselves. -/
def gateEvent (s0 s : State) : Bool :=
  s.port.queue.head? ≠ s0.port.queue.head? || s.seat.free ≠ s0.seat.free
    || (s0.zone.lock = .applying && s.zone.lock ≠ .applying)
    || (s0.budget.window.isSome && s.budget.window.isNone)

/-- What follows the effect of a step that began at `s0`: the ask, the departure's progress, the view changes of
the own entry, the gates, the one ROLLCALL of the step's changes, and the store writes they begin
(notes/assumptions/10.md, 11.md). -/
def finish (s0 s : State) : State :=
  let s := if askEvent s0 s then judgeAsk s else s
  let s := handOn (departProgress s0 s)
  let s := if gateEvent s0 s then handOn (examineGates s) else s
  beginWrites (offerChanged s)

/-- A step's answer: the effect `act` and what follows it. -/
def stepOf (act : State → State) (s : State) : Out := .next (finish s (act s))

/-- A timer as it counts in the only condition it runs in. -/
def during (c : Prop) [Decidable c] (timer : Option Nat) : Option Nat := if c then timer else none

/-- An expiry event's answer: with the timer stopped nothing happens. -/
def expiryStep (timer : Option Nat) (act : State → State) (s : State) : Out :=
  match timer with
  | none => .next s
  | some d => stepOf act (reach d s)

end Sys2Proof.Machine
end

