-- ==== Sys2Proof/Machine/ExecLife.lean ====
section
/-! DEFINITION. Meanings of the commands at the reset, EJECT and FAULT pins (chapter 1, R55). -/

namespace Sys2Proof.Machine

open Sys2Proof.Config

/-! ## Reset (R6, R16, R17) -/

/-- The seat account as the store gives it (R16, R126). -/
def loadSeats (r : SeatRecord) (s : State) : State :=
  { s with
    seat.free := r.freeCount
    seat.escrow := r.escrow.map fun e => { xfer := e.xfer, rcpt := e.rcpt, count := e.count, ask := none, tries := 0,
                                           timer := none, unanswered := false, stranded := false }
    seat.receipts := r.receipts
    seat.next := r.next
    seat.serial := r.serial }

/-- The zoning unit as the store gives it (R16, R158); it is not in use on FAN and SUPPLY, whose generation is 0
(R143). -/
def loadZoning (r : ZoneRecord) (s : State) : State :=
  if zoning s then { s with zone.active := r.active, zone.gen := r.gen, zone.lastProposed := r.lastProposed }
  else s

/-- A record's contents as loaded: blank where neither copy is complete (R16). -/
def Record.load {α : Type} (blank : α) (r : Record α) : α :=
  match r.current with
  | none => blank
  | some c => c.contents

/-- The retained store is loaded; a blank record raises STORE-BLANK, SEAT 0 and ZONING 1 (R16), the seat record's
first (DESIGN CHOICE, notes/assumptions/69.md). -/
def loadStore (s : State) : State :=
  let s := loadZoning (s.store.zoning.load ZoneRecord.blank) (loadSeats (s.store.seat.load SeatRecord.blank) s)
  let s := if s.store.seat.current.isNone then raiseOwn .storeBlank (b1 0) s else s
  if s.store.zoning.current.isNone then raiseOwn .storeBlank (b1 1) s else s

/-- The timers and measures that reset release starts (R55, R80, R95, R100). -/
def startMeasures (p : ReleasePins) (s : State) : State :=
  { s with
    st.ejectPin := p.ejectOpen
    st.ejectOpen := p.ejectOpen
    view.faultLow := p.faultLow
    view.faultMeasure := if p.faultLow then some (ms 500) else none
    cool.sampleAt := some (ms 250)
    cool.rotors := (List.range (fittedRotors p.straps)).map fun i => Rotor.initial (p.rotorPresent[i]?.getD false)
    cool.checkAt := if p.straps.role = .fan then some (ms 1000) else none }

/-- What a SUPPLY station reads at release (R108). -/
def startSupply (p : ReleasePins) (s : State) : State :=
  if p.straps.role = .supply then
    { s with
      sup.inOk := p.inOk
      sup.outOk := p.outOk
      sup.earlyWarn := p.earlyWarn
      sup.lostMeasure := if p.outOk then none else some (ms 5)
      sup.state := byInput p.inOk }
  else s

/-- Reset is asserted (R17): every operation in flight ends; the store, the waiting commands and the count of
random draws stand. The straps held before it stand too, and with them the role whose safe values are driven
(R3, R5; DESIGN CHOICE, notes/assumptions/59.md). -/
def assertReset (k : ResetKind) (s : State) : State :=
  { State.underReset s.st.straps { seat := s.store.seat.abandon, zoning := s.store.zoning.abandon } k with
    draws := s.draws
    pending := s.pending }

/-- Reset is released (R6): straps and lines sampled, settings at their defaults, RESET-CAUSE first in the notice
queue, the store loaded, SETUP entered. -/
def releaseReset (p : ReleasePins) (s : State) : State :=
  let t : State := { State.underReset p.straps s.store s.st.resetCause with draws := s.draws, pending := s.pending }
  let t := startSupply p (startMeasures p { t with st.state := .setup })
  let t := loadStore (raiseOwn .resetCause (b1 (ResetKind.code s.st.resetCause)) t)
  refresh (retarget t)

/-- RESET_ASSERT (R17). -/
def execResetAssert (k : ResetKind) (s : State) : Out := .next (assertReset k s)

/-- RESET_RELEASE (R6); out of RESET there is no reset to release. -/
def execResetRelease (p : ReleasePins) (s : State) : Out :=
  if s.st.state = .reset then .next (releaseReset p s) else .next s

/-! ## EJECT (R10, R13, R14) -/

/-- EJECT_PIN_CHANGE: the 20 ms measure starts again (R14). The strap and line unit does nothing in RESET. -/
def execEjectPinChange (isOpen : Bool) (s : State) : Out :=
  if s.st.state = .reset ∨ s.st.ejectPin = isOpen then .next s
  else .next { s with st.ejectPin := isOpen, st.ejectMeasure := some (s.now + ms 20) }

/-- EJECT judged open, by station state (R10, R13). -/
def judgedOpen (s : State) : State :=
  let s := { s with st.ejectMeasure := none, st.ejectOpen := true }
  match s.st.state with
  | .active => enterDeparting .eject false s
  | .isolated => enterDeparting .eject false s
  | .joining => if s.st.pend = .none then { s with st.pend := .eject } else s
  | .reset => s | .setup => s | .departing => s | .departed => s

/-- EJECT judged closed, by station state (R10, R13). -/
def judgedClosed (s : State) : State :=
  let s := { s with st.ejectMeasure := none, st.ejectOpen := false }
  match s.st.state with
  | .joining => if s.st.pend = .eject then { s with st.pend := .none } else s
  | .departed => if s.cool.thermal = .shutdown then s else rejoin .latchClosed s
  | .reset => s | .setup => s | .active => s | .isolated => s | .departing => s

/-- EJECT_JUDGED_OPEN (R14). -/
def execEjectJudgedOpen (s : State) : Out :=
  if s.st.ejectPin then expiryStep s.st.ejectMeasure judgedOpen s else .next s

/-- EJECT_JUDGED_CLOSED (R14). -/
def execEjectJudgedClosed (s : State) : Out :=
  if s.st.ejectPin then .next s else expiryStep s.st.ejectMeasure judgedClosed s

/-! ## FAULT (R55) -/

/-- FAULT_LINE_CHANGE: the measure of continuous time starts again; it runs toward the condition the line does
not yet have. -/
def execFaultLineChange (isLow : Bool) (s : State) : Out :=
  if s.st.state = .reset ∨ s.view.faultLow = isLow then .next s
  else .next { s with
    view.faultLow := isLow
    view.faultMeasure := if isLow = s.view.faultSet then none else some (s.now + ms 500) }

/-- The PRESENT entries whose recorded FAULT-held flag is on, lowest first. -/
def pullers (s : State) : List Addr :=
  (List.finRange 32).filter fun a => match entryAt s a with
    | .known .present _ f => f.faultHeld
    | _ => false

/-- The condition becomes SET: FAULT-ON, and forcing on a FAN station (R55, R91). -/
def faultSet (s : State) : State :=
  updateForcing (raiseOwn .faultOn (bBool s.view.pull ++ addrList 1 (pullers s))
    { s with view.faultMeasure := none, view.faultSet := true })

/-- The condition becomes CLEAR: FAULT-OFF, and forcing judged again (R55, R91). -/
def faultClear (s : State) : State :=
  updateForcing (raiseOwn .faultOff [] { s with view.faultMeasure := none, view.faultSet := false })

/-- FAULT_CONDITION_SET (R55). -/
def execFaultConditionSet (s : State) : Out :=
  if s.view.faultLow ∧ s.view.faultSet = false then expiryStep s.view.faultMeasure faultSet s else .next s

/-- FAULT_CONDITION_CLEAR (R55). -/
def execFaultConditionClear (s : State) : Out :=
  if s.view.faultLow = false ∧ s.view.faultSet then expiryStep s.view.faultMeasure faultClear s else .next s

end Sys2Proof.Machine
end

