-- ==== Sys2Proof/Machine/ExecLink.lean ====
section
/-! DEFINITION. Meanings of the events on the peer link: line activity, the transmit engine's phases, HOLD
(chapter 2). -/

namespace Sys2Proof.Machine

open Sys2Proof.Config

/-! ## Reception (R32 to R38) -/

/-- The engine is sending or jamming: what the line carries is not taken in (R32). -/
def inAttempt (e : Engine) : Bool :=
  match e with
  | .send _ _ _ => true
  | .jam _ _ => true
  | .idle => false
  | .defer _ => false

/-- A valid frame with the station's own address as source (R34). -/
def addressClash (s : State) : State :=
  if s.st.clash then s
  else raiseOwn .addressClash [] (isolate .addressClash { s with st.clash := true })

/-- A valid peer frame is reported to the station (R11, R12, R46): the sender's age is refreshed, the silence
timer restarts, and an ISOLATED station without an address clash returns to JOINING. -/
def peerHeard (src : Addr) (s : State) : State :=
  let s := refreshAge src s
  let s := { s with st.silence := some (s.now + ms 2000), st.silenceArmed := anyPeerPresent s }
  if s.st.state = .isolated ∧ s.st.clash = false then enterJoining .peerHeard s else s

/-- A frame of known kind and good length is offered to the receive queue (R36, R38). -/
def offerReceived (f : RxFrame) (s : State) : State :=
  if s.link.rx.length < receiveCap then
    callHold { s with link.rx := s.link.rx ++ [f], link.counters.received := bump s.link.counters.received }
  else { s with link.counters.overrun := bump s.link.counters.overrun }

/-- A valid peer frame judged by destination, kind and length (R35). -/
def deliver (dest : Nat) (src : Addr) (code : Nat) (payload : List Byte) (s : State) : State :=
  if dest ≠ (ownAddr s).val ∧ dest ≠ allByte then s
  else match Kind.ofCode code with
    | none => { s with link.counters.unknownKind := bump s.link.counters.unknownKind }
    | some k =>
      if lengthOk k payload then
        if k = .hold then takeHold (fieldAt payload 0 1) s
        else offerReceived { src := src, kind := k, payload := payload } s
      else { s with link.counters.unknownKind := bump s.link.counters.unknownKind }

/-- What the receiver does with line activity it has judged (R33 to R35). -/
def receive (a : Activity) (s : State) : State :=
  match a with
  | .runt => { s with link.counters.runt := bump s.link.counters.runt }
  | .giant => { s with link.counters.giant := bump s.link.counters.giant }
  | .badCheck => { s with link.counters.badCheck := bump s.link.counters.badCheck }
  | .valid dest src code payload =>
    if src = ownAddr s then addressClash s
    else deliver dest src code payload (peerHeard src s)

/-- The line is found idle: its last bit lies eight bit times back (R19). -/
def lineIdle (s : State) : State := { s with link.idleFrom := s.now - endRun }

/-- The activity ends in a jam: the overridden bit and eight jam bits, all dominant (R24). -/
def endsInJam (bits : List Bool) : Bool := (bits.reverse.take (jamTime + 1)).all (!·)

def Activity.isValid : Activity → Bool
  | .valid _ _ _ _ => true
  | .runt => false
  | .giant => false
  | .badCheck => false

/-- Activity that began before reception did, or was restarted: it is discarded (R37). -/
def beganEarlier (lead : Nat) (s : State) : Bool := s.now < s.link.listenFrom + lead

/-- Activity that the station's own attempt began or took part in, and no frame of another station carried on past
its end: the line fell idle by the end of the attempt, or the jam of another station ended what was left
(R32, R33, notes/assumptions/7.md). -/
def ownFragment (bits : List Bool) (lead : Nat) (s : State) : Bool :=
  match s.link.ownUntil with
  | none => false
  | some t => s.now + bits.length ≤ t + lead ||
      (s.now < t + lead && endsInJam bits && !(judgeActivity (activityBytes bits)).isValid)

/-- What the receiver does not take in, uncounted: what ends during an attempt of its own, a fragment of one, and
what was on the line when reception began (R32, R37). -/
def discards (bits : List Bool) (lead : Nat) (s : State) : Bool :=
  inAttempt s.link.engine || beganEarlier lead s || ownFragment bits lead s

/-- When the activity is found to have ended: after its last bit and the closing run (R19). -/
def activityEnd (bits : List Bool) (lead : Nat) (s : State) : Nat := s.now + (bits.length + endRun - lead)

/-- LINE_ACTIVITY_END (R32, R33, R37); in RESET and SETUP the receiver does not run. -/
def execLineActivityEnd (bits : List Bool) (lead : Nat) (s : State) : Out :=
  if receiving s then
    let t := lineIdle (reach (activityEnd bits lead s) s)
    if discards bits lead s then .next t else stepOf (receive (judgeActivity (activityBytes bits))) t
  else .next s

/-! ## Transmission (R22 to R26) -/

/-- TX_GAP_COMPLETE (R23): the frame in DEFER goes to the line. -/
def execTxGapComplete (s : State) : Out :=
  match s.link.engine with
  | .defer q =>
    match queueOf q s.link with
    | [] => .next s
    | m :: _ =>
      let s := reach (s.link.idleFrom + interframeGap) s
      .next { s with link.engine := .send q s.now (lineBits (m.frame (ownAddr s))) }
  | .idle => .next s
  | .send _ _ _ => .next s
  | .jam _ _ => .next s

/-- The bit that an engine whose frame began at `start` drives at `now`; none before the frame and past its end bit. -/
def bitDriven (start : Nat) (bits : List Bool) (now : Nat) : Option Bool :=
  if start ≤ now then bits[now - start]? else none

/-- The collision is counted, in the link counter and for the head of `q`, and the jam begins (R24). -/
def startJam (q : TxQueue) (s : State) : State :=
  let a := attemptOf q s.link
  let l := setAttempt q { a with collisions := a.collisions + 1 } s.link
  { s with link := { l with engine := .jam (some q) (s.now + jamTime),
                            counters.collisions := bump l.counters.collisions } }

/-- TX_COLLISION (R24): a dominant level is sensed at the bit now driven, which is a collision where that bit is
recessive, and no mismatch at a dominant bit or past the end bit; the jam begins at the bit's end
(notes/assumptions/67.md). -/
def execTxCollision (s : State) : Out :=
  match s.link.engine with
  | .send q start bits =>
    if bitDriven start bits s.now = some true then .next (startJam q (reach (s.now + 1) s)) else .next s
  | .idle => .next s
  | .defer _ => .next s
  | .jam _ _ => .next s

/-- k of R25 after `n` collisions, by the next random draw. -/
def backoffSlots (n draw : Nat) : Nat := draw % 2 ^ min n 8

/-- The frame waits k slot times and stays at its queue's head (R25, R29). -/
def backOff (q : TxQueue) (s : State) : State :=
  let a := attemptOf q s.link
  let k := backoffSlots a.collisions (backoffDraw s.draws)
  let l := setAttempt q { a with backoff := if k = 0 then none else some (s.now + slotTime * k) } s.link
  let l : Link := { l with engine := .idle }
  kick { s with draws := s.draws + 1, link := match q with | .normal => applyHeld l | .urgent => l }

/-- The station is told of a drop at the attempt limit (R11). -/
def countDrop (s : State) : State :=
  let s := { s with st.drops := s.st.drops + 1 }
  if 3 ≤ s.st.drops then isolate .attemptLimit s else s

/-- The head of `q` is dropped at the attempt limit (R26). -/
def dropFrame (q : TxQueue) (s : State) : State :=
  let l := endAttempt q s.link
  let t := { s with link := { l with counters.drops := bump l.counters.drops } }
  match queueOf q s.link with
  | [] => kick (countDrop t)
  | m :: _ => kick (countDrop (frameReported m t))

/-- The collisions at which a frame is dropped (R26). -/
abbrev attemptLimit : Nat := 16

/-- The jam ends and the line is released (R25, R26, R31). -/
def endJam (q : Option TxQueue) (s : State) : State :=
  let s := { s with link.idleFrom := s.now, link.ownUntil := some s.now }
  match q with
  | none => kick { s with link.engine := .idle }
  | some q => if (attemptOf q s.link).collisions < attemptLimit then backOff q s else dropFrame q s

/-- JAM_END (R25, R26). -/
def execJamEnd (s : State) : Out :=
  match s.link.engine with
  | .jam q ends => stepOf (endJam q) (reach ends s)
  | .idle => .next s
  | .defer _ => .next s
  | .send _ _ _ => .next s

/-- A frame has been sent whole (R24, R11, R29). -/
def frameSent (q : TxQueue) (s : State) : State :=
  let l := endAttempt q s.link
  let t := { s with link := { l with counters.sent := bump l.counters.sent, idleFrom := s.now, ownUntil := some s.now },
                      st.drops := 0 }
  match queueOf q s.link with
  | [] => kick t
  | m :: _ =>
    let t := if m.kind = .hold then { t with link.counters.holdsSent := bump t.link.counters.holdsSent } else t
    kick (frameReported m t)

/-- TX_FRAME_COMPLETE (R24). -/
def execTxFrameComplete (s : State) : Out :=
  match s.link.engine with
  | .send q start bits => stepOf (frameSent q) (reach (start + bits.length) s)
  | .idle => .next s
  | .defer _ => .next s
  | .jam _ _ => .next s

/-- BACKOFF_EXPIRE (R25). -/
def execBackoffExpire (q : TxQueue) (s : State) : Out :=
  expiryStep (attemptOf q s.link).backoff
    (fun s => kick { s with link := setAttempt q { attemptOf q s.link with backoff := none } s.link }) s

/-! ## HOLD (R38, R39) -/

/-- HOLD_COUNTER_EXPIRE (R39). -/
def execHoldCounterExpire (s : State) : Out := expiryStep s.link.hold (fun s => kick { s with link.hold := none }) s

def guardEnd (g : Guard) : Option Nat := match g with | .running d => some d | .clear => none | .armed => none

/-- The guard clears; with 6 frames or more queued another HOLD is called for, but in DEPARTED it runs out without
further effect (R38). -/
def guardOver (s : State) : State :=
  let s := { s with link.guard := .clear }
  if sending s then callHold s else s

/-- HOLD_GUARD_EXPIRE (R38). -/
def execHoldGuardExpire (s : State) : Out := expiryStep (guardEnd s.link.guard) guardOver s

end Sys2Proof.Machine
end

