-- ==== Sys2Proof/Machine/ExecHost.lean ====
section
/-! DEFINITION. The module port's transactions (R174, R175) and the meanings of the host's commands, other than
the reads. -/

namespace Sys2Proof.Machine

open Sys2Proof.Config

/-! ## Transactions (R174, R175) -/

/-- A command answered at once. -/
def reply (st : Status) (data : List Byte) (s : State) : State := answer st data s

/-- A refusal changes nothing beyond the slot and the reply (R174). -/
def refuse (st : Status) (s : State) : State := answer st [] s

/-- Every transaction shifts out the port status byte first, as the slot stands at its start. -/
def shiftStatus (s : State) : State := { s with host.out := [statusByte s] }

/-- A command of known code, of payload length `len`, judged by `judge` once the envelope is good (R174);
`onBad` is what a refusal of the envelope changes besides; a command that
meets a BUSY slot leaves no trace but the status byte (notes/assumptions/15.md). -/
def transactWith (onBad : State → State) (len : Nat) (judge : List Byte → State → State) (rest : List Byte)
    (s : State) : Out :=
  let t := shiftStatus s
  if s.st.state = .reset then .next t
  else match s.host.slot, rest with
    | .busy _, _ => .next t
    | _, tag :: l :: payload =>
      let t := { t with host.slot := .busy tag }
      if l.toNat = payload.length ∧ l.toNat = len then stepOf (judge payload) t
      else .next (refuse .range (onBad t))
    | _, _ => .next t

def transact (len : Nat) (judge : List Byte → State → State) (rest : List Byte) (s : State) : Out :=
  transactWith id len judge rest s

/-- A reply as it is shifted out: status, tag, data length, data (section 12.6). -/
def Reply.bytes (r : Reply) : List Byte := b1 r.status.code ++ [r.tag] ++ b1 r.data.length ++ r.data

/-- FETCH (R175): the host clocks out up to `reads` bytes after the status byte. -/
def execFetch (reads : Nat) (s : State) : Out :=
  let t := shiftStatus s
  if s.st.state = .reset then .next t
  else match s.host.slot with
    | .reply r =>
      let t := { t with host.out := statusByte s :: r.bytes.take reads }
      .next (if r.bytes.length ≤ reads then { t with host.slot := .idle } else t)
    | .busy _ => .next t
    | .idle => .next t

/-- COMMAND_UNKNOWN (R174): an unknown code is refused before the byte count is judged. -/
def execCommandUnknown (_code : Byte) (rest : List Byte) (s : State) : Out :=
  let t := shiftStatus s
  if s.st.state = .reset then .next t
  else match s.host.slot, rest with
    | .busy _, _ => .next t
    | _, tag :: _ :: _ => .next (refuse .unknown { t with host.slot := .busy tag })
    | _, _ => .next t

/-! ## Settings (R7) -/

/-- A signed 16-bit value. -/
def signed16 (l : List Byte) : Int := beInt16 l

/-- Setting number `n` applies to a role (R7). -/
def settingApplies (n : Nat) (r : Role) : Bool :=
  match n with
  | 5 => r = .line || r = .supervisor
  | 6 => r = .line
  | 7 => r = .line
  | _ => true

/-- The settings with setting `n` at `v`, or nothing where `v` is outside its range (R7). Give-on-depart is written
as 1 for on and 0 for off (notes/assumptions/46.md). -/
def Settings.write (p : Settings) (n : Nat) (v : Int) : Option Settings :=
  match n with
  | 1 => if -10 ≤ v ∧ v ≤ 60 ∧ v + 4 < p.tHigh then some { p with tLow := v } else none
  | 2 => if p.tLow + 5 ≤ v ∧ v ≤ 100 then some { p with tHigh := v } else none
  | 3 => if 40 ≤ v ∧ v ≤ 110 ∧ v + 5 ≤ p.tShut then some { p with tCrit := v } else none
  | 4 => if p.tCrit + 5 ≤ v ∧ v ≤ 125 then some { p with tShut := v } else none
  | 5 => if 0 ≤ v ∧ v ≤ 500 then some { p with base := v.toNat } else none
  | 6 => if 0 ≤ v ∧ v ≤ 4096 then some { p with reserve := v.toNat } else none
  | 7 => if v = 0 ∨ v = 1 then some { p with giveOnDepart := decide (v = 1) } else none
  | 8 => if 0 ≤ v ∧ v ≤ 10 then some { p with intMin := v.toNat } else none
  | _ => none

/-- What a write of setting `n` changes besides (R66, R82, R84). -/
def settingWritten (n : Nat) (s : State) : State :=
  match n with
  | 1 => updateDemand s
  | 2 => updateDemand s
  | 3 => { s with cool.critCount := 0, cool.clearCount := 0 }
  | 4 => { s with cool.shutCount := 0 }
  | _ => s

def judgeSet (p : List Byte) (s : State) : State :=
  let n := fieldAt p 0 1
  if s.st.state ≠ .setup then refuse .wrongState s
  else if settingApplies n (role s) = false then refuse .wrongRole s
  else match s.st.settings.write n (signed16 (p.drop 1)) with
    | none => refuse .range s
    | some q => reply .ok [] (settingWritten n { s with st.settings := q })

/-- SET (R7). -/
def execSet (rest : List Byte) (s : State) : Out := transact 3 judgeSet rest s

/-! ## Station commands (R8, R13, R18, R49, R176) -/

/-- TRANSFERS-EXHAUSTED is raised again at each JOIN taken while no transfer number is left (R119), after the
notices of the JOIN itself (DESIGN CHOICE, notes/assumptions/63.md). -/
def reportExhausted (s : State) : State :=
  if s.seat.next = max32 then raiseOwn .transfersExhausted [] s else s

/-- JOIN taken in SETUP (R8): reception begins (R37). -/
def joinUp (s : State) : State :=
  resendAll (enterJoining .join (silenceUnarmed (buildOwn { s with link := startLink s.now s.link })))

/-- JOIN by station state (R8, R13). STATE-CHANGED is raised before TRANSFERS-EXHAUSTED (DESIGN CHOICE,
notes/assumptions/63.md). -/
def judgeJoin (_ : List Byte) (s : State) : State :=
  if s.st.ejectOpen then refuse .wrongState s
  else match s.st.state with
    | .setup => reportExhausted (joinUp (reply .accepted [] s))
    | .departed =>
      if s.cool.thermal = .shutdown then refuse .wrongState s
      else reportExhausted (rejoin .join (reply .accepted [] s))
    | .reset => refuse .wrongState s
    | .joining => refuse .wrongState s
    | .active => refuse .wrongState s
    | .isolated => refuse .wrongState s
    | .departing => refuse .wrongState s

/-- JOIN (R8, R13). -/
def execJoin (rest : List Byte) (s : State) : Out := transact 0 judgeJoin rest s

def judgeDepart (_ : List Byte) (s : State) : State :=
  match s.st.state with
  | .active => enterDeparting .departCommand false (reply .accepted [] s)
  | .isolated => enterDeparting .departCommand false (reply .accepted [] s)
  | .joining => reply .accepted [] { s with st.pend := .command }
  | .reset => refuse .wrongState s
  | .setup => refuse .wrongState s
  | .departing => refuse .wrongState s
  | .departed => refuse .wrongState s

/-- DEPART (R10, R13). -/
def execDepart (rest : List Byte) (s : State) : Out := transact 0 judgeDepart rest s

/-- Every entry other than the station's own becomes EMPTY (R50). -/
def emptyPeers (s : State) : State := (peers s).foldl (fun s a => setEntry a .empty s) s

/-- LINK-RESTART taken (R18, R31, R50, R99, R108, R126, R158); the ROLLCALL of the entry into JOINING is due even
from JOINING (R41). -/
def restart (s : State) : State :=
  let s := restartZoning (stopAsking (emptyPeers { s with link := restartLink s.now s.link }))
  let s := resendAll (restartGoodRun (retarget (enterJoining .linkRestart (silenceUnarmed s))))
  { s with announce := true }

def judgeRestart (_ : List Byte) (s : State) : State :=
  match s.st.state with
  | .joining => restart (reply .ok [] s)
  | .active => restart (reply .ok [] s)
  | .isolated => if s.st.clash then refuse .wrongState s else restart (reply .ok [] s)
  | .reset => refuse .wrongState s
  | .setup => refuse .wrongState s
  | .departing => refuse .wrongState s
  | .departed => refuse .wrongState s

/-- LINK_RESTART (R18). -/
def execLinkRestart (rest : List Byte) (s : State) : Out := transact 0 judgeRestart rest s

def judgeForget (p : List Byte) (s : State) : State :=
  match addrOf (fieldAt p 0 1) with
  | none => refuse .range s
  | some a =>
    if a = ownAddr s then refuse .range s
    else match entryAt s a with
      | .empty => refuse .wrongState s
      | .known .present _ _ => refuse .wrongState s
      | .known .lost _ _ => changeEntry a .empty id (reply .ok [] s)
      | .known .gone _ _ => changeEntry a .empty id (reply .ok [] s)

/-- FORGET_PEER (R49). -/
def execForgetPeer (rest : List Byte) (s : State) : Out := transact 1 judgeForget rest s

/-- The forced-fans flag is set on or off (R83). Before JOIN, when no view change is handed on, a FAN station's
target follows a change of the flag here (R83, notes/assumptions/58.md). -/
def forceFans (on : Bool) (s : State) : State :=
  let t := updateDemand { s with cool.forced := on }
  if (ownRecorded s).isNone ∧ s.cool.forced ≠ on then retarget t else t

/-- The command's byte is 1 for on and 0 for off (notes/assumptions/46.md). -/
def judgeForce (p : List Byte) (s : State) : State :=
  match fieldAt p 0 1 with
  | 0 => reply .ok [] (forceFans false s)
  | 1 => reply .ok [] (forceFans true s)
  | _ => refuse .range s

/-- FORCE_FANS (R83, R176). -/
def execForceFans (rest : List Byte) (s : State) : Out := transact 1 judgeForce rest s

/-! ## Port commands (R129 to R131, R162) -/

/-- The states in which PORT-CANCEL, PORT-RELEASE, PORT-ATTACH and PORT-DETACH are taken. -/
def portStates (s : State) : Bool :=
  match s.st.state with
  | .joining => true | .active => true | .isolated => true
  | .reset => false | .setup => false | .departing => false | .departed => false

/-- The order of the port commands (section 8.3): role, station state, port number, then the port's own state. -/
def onPort (taken : Bool) (n : Nat) (act : Port → State → State) (s : State) : State :=
  if role s ≠ .line then refuse .wrongRole s
  else if taken = false then refuse .wrongState s
  else match portAt s n with
    | none => refuse .range s
    | some p => act p s

/-- A draw clamped to 5 to 150 (R129). -/
def clampDraw (d : Nat) : Nat := max 5 (min 150 d)

/-- PORT-REQUEST on a DARK port (R129). -/
def requestPort (n draw priority : Nat) (p : Port) (s : State) : State :=
  let d := clampDraw draw
  reply .ok (b1 d ++ bBool (d ≠ draw))
    { setPort n { p with state := .queued, req := some { draw := d, priority } } s with
      port.queue := s.port.queue ++ [{ port := n, fresh := true }] }

def judgeRequest (p : List Byte) (s : State) : State :=
  let n := fieldAt p 0 1
  let priority := fieldAt p 3 1
  onPort (s.st.state = .active) n (fun q s =>
    if 3 < priority then refuse .range s
    else if q.state = .dark then requestPort n (fieldAt p 1 2) priority q s
    else refuse .wrongState s) s

/-- PORT_REQUEST (R129). -/
def execPortRequest (rest : List Byte) (s : State) : Out := transact 4 judgeRequest rest s

def judgeCancel (p : List Byte) (s : State) : State :=
  let n := fieldAt p 0 1
  onPort (portStates s) n (fun q s =>
    if q.state = .queued then reply .ok [] (darkenPort n (removeEntry n s)) else refuse .wrongState s) s

/-- PORT_CANCEL (R130). -/
def execPortCancel (rest : List Byte) (s : State) : Out := transact 1 judgeCancel rest s

def judgeRelease (p : List Byte) (s : State) : State :=
  let n := fieldAt p 0 1
  onPort (portStates s) n (fun q s =>
    match q.state with
    | .lighting => reply .ok [] (dimPort .released n s)
    | .lit => reply .ok [] (dimPort .released n s)
    | .shed => reply .ok [] (darkenPort n (removeEntry n s))
    | .dark => refuse .wrongState s
    | .queued => refuse .wrongState s
    | .dimming => refuse .wrongState s) s

/-- PORT_RELEASE (R131). -/
def execPortRelease (rest : List Byte) (s : State) : Out := transact 1 judgeRelease rest s

/-- The code of a port's filter record's state, which the reply to a taken attach or detach gives (R162). -/
def filterReply (n : Nat) (s : State) : State :=
  match portAt s n with
  | none => reply .ok [] s
  | some p => reply .ok (b1 p.filter.state.code) s

/-- The attached node is set or cleared and a load is owed (R162, R163). -/
def setNode (n : Nat) (node : Option Nat) (q : Port) (s : State) : State :=
  filterReply n (serveFilters (oweLoad n (setPort n { q with node } s)))

def judgeAttach (p : List Byte) (s : State) : State :=
  let n := fieldAt p 0 1
  let node := fieldAt p 1 8
  onPort (portStates s) n (fun q s =>
    if node = 0 then refuse .range s
    else if q.inService then setNode n (some node) q s
    else refuse .wrongState s) s

/-- PORT_ATTACH (R162). -/
def execPortAttach (rest : List Byte) (s : State) : Out := transact 9 judgeAttach rest s

def judgeDetach (p : List Byte) (s : State) : State :=
  let n := fieldAt p 0 1
  onPort (portStates s) n (fun q s => if q.inService then setNode n none q s else refuse .wrongState s) s

/-- PORT_DETACH (R162). -/
def execPortDetach (rest : List Byte) (s : State) : Out := transact 1 judgeDetach rest s

/-! ## Seat commands (R112 to R114): answered OK when the seat record is written -/

def judgeInstall (p : List Byte) (s : State) : State :=
  let count := fieldAt p 0 2
  let serial := fieldAt p 2 4
  if role s ≠ .supervisor then refuse .wrongRole s
  else if s.st.state ≠ .active then refuse .wrongState s
  else if count = 0 ∨ 4096 < count ∨ serial ≤ s.seat.serial ∨ seatCap < owned s + count then refuse .range s
  else touchSeat [.reply] { s with seat.free := s.seat.free + count, seat.serial := serial }

/-- SEAT_INSTALL (R112). -/
def execSeatInstall (rest : List Byte) (s : State) : Out := transact 6 judgeInstall rest s

/-- SEAT-WITHDRAW is judged by the station state and then by its count (R113; the order is a DESIGN CHOICE,
notes/assumptions/73.md). -/
def judgeWithdraw (p : List Byte) (s : State) : State :=
  let count := fieldAt p 0 2
  if s.st.state = .departing then refuse .wrongState s
  else if count = 0 ∨ 4096 < count ∨ s.seat.free < count then refuse .range s
  else touchSeat [.reply] { s with seat.free := s.seat.free - count }

/-- SEAT_WITHDRAW (R113). -/
def execSeatWithdraw (rest : List Byte) (s : State) : Out := transact 2 judgeWithdraw rest s

def judgeReclaim (p : List Byte) (s : State) : State :=
  let x := fieldAt p 0 4
  match escrowOf s x with
  | none => refuse .wrongState s
  | some e =>
    if e.stranded then touchSeat [.reply] (dropEscrow x { s with seat.free := s.seat.free + e.count })
    else refuse .wrongState s

/-- SEAT_RECLAIM (R114). -/
def execSeatReclaim (rest : List Byte) (s : State) : Out := transact 4 judgeReclaim rest s

/-! ## Zoning commands (R144, R145) -/

/-- Role and station state of the draft commands (R143, R144), the role judged first (DESIGN CHOICE,
notes/assumptions/73.md). -/
def onDraft (act : State → State) (s : State) : State :=
  if zoning s = false then refuse .wrongRole s
  else if s.st.state ≠ .active then refuse .wrongState s
  else act s

/-- The reply to a taken draft command: zone count and entry count of the draft after it (R144). -/
def draftReply (s : State) : State := reply .ok (b2 (zoneCount s.zone.draft) ++ b2 s.zone.draft.length) s

/-- ZONE_DRAFT_CLEAR (R144). -/
def execZoneDraftClear (rest : List Byte) (s : State) : Out :=
  transact 0 (fun _ => onDraft fun s => draftReply { s with zone.draft := [] }) rest s

/-- A new member the draft has no room for (R144). -/
def draftFull (e : ZEntry) (z : ZoneSet) : Bool :=
  1024 ≤ z.length || 64 ≤ memberCount z e.zone || (memberCount z e.zone = 0 && 128 ≤ zoneCount z)

def readEntry (p : List Byte) : ZEntry := { zone := fieldAt p 0 2, node := fieldAt p 2 8 }

def addMember (e : ZEntry) (s : State) : State :=
  if e.zone = 0 ∨ e.node = 0 then refuse .range s
  else if e ∈ s.zone.draft then draftReply s
  else if draftFull e s.zone.draft then refuse .range s
  else draftReply { s with zone.draft := insertEntry e s.zone.draft }

/-- ZONE_DRAFT_ADD (R144). -/
def execZoneDraftAdd (rest : List Byte) (s : State) : Out :=
  transact 10 (fun p => onDraft (addMember (readEntry p))) rest s

def removeMember (e : ZEntry) (s : State) : State :=
  if e.zone = 0 ∨ e.node = 0 then refuse .range s
  else draftReply { s with zone.draft := s.zone.draft.filter fun x => x ≠ e }

/-- ZONE_DRAFT_REMOVE (R144). -/
def execZoneDraftRemove (rest : List Byte) (s : State) : Out :=
  transact 10 (fun p => onDraft (removeMember (readEntry p))) rest s

/-- The voter list of a publish: PRESENT LINE and SUPERVISOR peers, in address order (R145). -/
def voters (s : State) : List Addr :=
  (peers s).filter fun a => presentAs s a .line || presentAs s a .supervisor

/-- A ZONE-PUBLISH taken (R145); the received count of segment progress stays 0 at the originator
(notes/assumptions/55.md). -/
def publish (s : State) : State :=
  let gen := max s.zone.gen s.zone.lastProposed + 1
  let z := s.zone.draft
  let s := touchZone [.zoneOpen gen] { s with
    zone.draft := [], zone.lastProposed := gen,
    zone.results := (voters s).map fun a => { voter := a, verdict := none } }
  match overCapacity z s with
  | some p => zoneResult gen (some (ownAddr s)) abandonedCode Reason.capacity.code (b1 p) s
  | none =>
    { s with
      zone.staged := z, zone.lock := .publishing, zone.origin := some (ownAddr s), zone.proposed := some gen,
      zone.segCount := ceilDiv z.length 5, zone.received := 0, zone.check := setCheck z }

def judgePublish (_ : List Byte) (s : State) : State :=
  if zoning s = false then refuse .wrongRole s
  else if s.st.state ≠ .active then refuse .wrongState s
  else if s.zone.lock ≠ .free ∨ s.zone.commitPending then refuse .busy s
  else if s.zone.draft = [] ∨ max32 ≤ max s.zone.gen s.zone.lastProposed then refuse .range s
  else publish (reply .accepted [] s)

/-- ZONE_PUBLISH (R145). -/
def execZonePublish (rest : List Byte) (s : State) : Out := transact 0 judgePublish rest s

end Sys2Proof.Machine
end

