-- ==== Sys2Proof/Machine/ExecRead.lean ====
section
/-! DEFINITION. Meanings of the reads: tables, notices, counters and status (R177, R178). The byte layouts that
the manual leaves open are those of notes/assumptions/13.md. -/

namespace Sys2Proof.Machine

open Sys2Proof.Config

/-! ## Fields -/

/-- An item in use on the role, or NONE in its width. -/
def orNone (inUse : Bool) (l : List Byte) : List Byte := if inUse then l else l.map fun _ => 0xFF#8

/-- A moment as ms since reset release, or all ones where there is none. -/
def bTime : Option Nat → List Byte
  | none => b4 max32
  | some t => b4 (timeMs t)

def bLeft (now : Nat) (timer : Option Nat) : List Byte := b2 (leftMs now timer)

/-! ## Tables (R177) -/

/-- The table of a code (R177). -/
def Table.ofCode : Nat → Option Table
  | 0x00 => some .settings | 0x01 => some .view | 0x02 => some .ports | 0x03 => some .queue
  | 0x04 => some .history | 0x05 => some .filters | 0x06 => some .escrow | 0x07 => some .receipts
  | 0x08 => some .rotors | 0x09 => some .active | 0x0A => some .draft | 0x0B => some .staged
  | 0x0C => some .results | _ => none

/-- A table is in use on a role (R177). -/
def Table.usedOn (t : Table) (r : Role) : Bool :=
  match t with
  | .settings => true | .view => true | .escrow => true | .receipts => true
  | .ports => r = .line | .queue => r = .line | .history => r = .line | .filters => r = .line
  | .rotors => r = .fan
  | .active => r = .line || r = .supervisor
  | .draft => r = .line || r = .supervisor
  | .staged => r = .line || r = .supervisor
  | .results => r = .line || r = .supervisor

/-- The value of a setting as SET writes it (R7). -/
def settingValue (p : Settings) (n : Nat) : Int :=
  match n with
  | 1 => p.tLow
  | 2 => p.tHigh
  | 3 => p.tCrit
  | 4 => p.tShut
  | 5 => p.base
  | 6 => p.reserve
  | 7 => if p.giveOnDepart then 1 else 0
  | _ => p.intMin

/-- The settings that apply to the role, in R7's order (notes/assumptions/14.md). -/
def settingRecords (s : State) : List (List Byte) :=
  ([1, 2, 3, 4, 5, 6, 7, 8].filter fun n => settingApplies n (role s)).map fun n =>
    b1 n ++ b2i (settingValue s.st.settings n)

/-- Recorded fields, in R42's order. -/
def Roll.record (f : Roll) : List Byte :=
  b1 f.state.code ++ b1 (Role.code f.role) ++ b1 f.thermal.code ++ bTemp f.hottest ++ b1 f.demand ++ bBool f.forced
    ++ b4 f.claim ++ b4 f.tent ++ b4 f.offer ++ bOpt (f.supply.map SupplyState.code) ++ bOpt f.duty ++ bOpt f.failed
    ++ b2 f.giveable ++ b4 f.gen ++ b1 f.lock.code ++ bOpt (f.origin.map (·.val)) ++ b4 (f.proposed.getD 0)
    ++ bBool f.faultHeld

/-- A chassis-view entry (R43): state, age, recorded fields. -/
def viewRecord (s : State) (a : Addr) : List Byte :=
  match entryAt s a with
  | .empty => b1 0 ++ b2 0
  | .known p _ f => b1 p.code ++ b2 (ageMs s a) ++ f.record

/-- A filter record (R161). -/
def Filter.record (f : Filter) : List Byte :=
  b1 f.state.code ++ bOpt (f.mode.map Mode.code) ++ b2 f.entries ++ b4 f.gen ++ bBool f.dirty

/-- A port record with its filter record (R127, R161). -/
def Port.record (n : Nat) (p : Port) : List Byte :=
  b1 n ++ b1 p.state.code ++ bOpt (p.req.map (·.draw)) ++ bOpt (p.req.map (·.priority)) ++ bBool p.seat
    ++ b8 (p.node.getD 0) ++ p.filter.record ++ bTime p.startAt

def QEntry.record (e : QEntry) : List Byte := b1 e.port ++ b1 (if e.fresh then 0 else 1)

/-- An escrow entry (section 7.1). -/
def Escrow.record (now : Nat) (e : Escrow) : List Byte :=
  b4 e.xfer ++ b1 e.rcpt.val ++ b2 e.count ++ bOpt e.ask ++ b1 e.tries ++ bLeft now e.timer ++ bBool e.unanswered
    ++ b1 (if e.stranded then 1 else 0)

/-- A rotor record (R95). -/
def Rotor.record (i : Nat) (r : Rotor) : List Byte :=
  b1 i ++ b1 r.state.code ++ b1 r.low ++ b1 r.good ++ b2 r.speed ++ bTime r.skipEnd

/-- A result entry (R151). -/
def Vote.record (v : Vote) : List Byte :=
  b1 v.voter.val ++ (match v.verdict with
    | none => b1 noneByte ++ b1 noneByte ++ b1 noneByte
    | some (d, r, p) => b1 d.code ++ b1 r.code ++ bOpt p)

/-- The records of a table as they stand (R177). -/
def tableRecords (t : Table) (s : State) : List (List Byte) :=
  match t with
  | .settings => settingRecords s
  | .view => (List.finRange 32).map (viewRecord s)
  | .ports => s.port.recs.zipIdx.map fun x => x.1.record x.2
  | .queue => s.port.queue.map QEntry.record
  | .history => s.port.history.map fun t => b4 (timeMs t)
  | .filters => s.filt.queue.map b1
  | .escrow => s.seat.escrow.map (Escrow.record s.now)
  | .receipts => (List.finRange 32).map fun a => b1 a.val ++ b4 s.seat.receipts[a]
  | .rotors => s.cool.rotors.zipIdx.map fun x => x.1.record x.2
  | .active => s.zone.active.map entryBytes
  | .draft => s.zone.draft.map entryBytes
  | .staged => s.zone.staged.map entryBytes
  | .results => s.zone.results.map Vote.record

/-- A table reply: index of the first record, record count, end flag, records (R177). -/
def tableReply (first : Nat) (recs : List (List Byte)) (last : Bool) : List Byte :=
  b2 first ++ b1 recs.length ++ bBool last ++ recs.flatten

/-- Up to four records from index `i`; the cursor moves past them, and the end flag says that no record stands
there (R177). With no record, the index given is the cursor's (DESIGN CHOICE, notes/assumptions/66.md). -/
def readFrom (t : Table) (i : Nat) (s : State) : State :=
  let all := tableRecords t s
  let recs := (all.drop i).take 4
  let next := i + recs.length
  let last := decide (all.length ≤ next)
  reply .ok (tableReply i recs last) { s with host.cursor := some { table := t, next := next, ended := last } }

/-- A READ-TABLE that is refused clears the cursor (R177). -/
def clearCursor (s : State) : State := { s with host.cursor := none }

/-- READ-TABLE is judged by its table, by the role and then by its index (R177; the order of the last two is a DESIGN
CHOICE, notes/assumptions/73.md). -/
def judgeReadTable (p : List Byte) (s : State) : State :=
  let i := fieldAt p 1 2
  match Table.ofCode (fieldAt p 0 1) with
  | none => refuse .range (clearCursor s)
  | some t =>
    if t.usedOn (role s) = false then refuse .wrongRole (clearCursor s)
    else if (tableRecords t s).length ≤ i ∧ 0 < i + (tableRecords t s).length then refuse .range (clearCursor s)
    else readFrom t i s

/-- READ_TABLE (R177). -/
def execReadTable (rest : List Byte) (s : State) : Out := transactWith clearCursor 3 judgeReadTable rest s

/-- READ-NEXT reads on from the cursor; past the end it gives no records and the cursor's index (R177;
notes/assumptions/66.md). -/
def judgeReadNext (_ : List Byte) (s : State) : State :=
  match s.host.cursor with
  | none => refuse .wrongState s
  | some c => if c.ended then reply .ok (tableReply c.next [] true) s else readFrom c.table c.next s

/-- READ_NEXT (R177). -/
def execReadNext (rest : List Byte) (s : State) : Out := transact 0 judgeReadNext rest s

/-! ## Notices and counters (R178) -/

/-- The head notice, where there is one, and the overflow count (R178). -/
def judgeReadNotice (_ : List Byte) (s : State) : State :=
  let st := if s.host.notices.length = noticeCap then Status.full else Status.ok
  let data := (match s.host.notices with | [] => [] | n :: _ => n.bytes) ++ b1 s.host.overflow
  reply st data (dropNotice { s with host.overflow := 0 })

/-- READ_NOTICE (R178). -/
def execReadNotice (rest : List Byte) (s : State) : Out := transact 0 judgeReadNotice rest s

/-- The eleven link counters in R40's order. -/
def Counters.bytes (c : Counters) : List Byte :=
  b2 c.sent ++ b2 c.received ++ b2 c.collisions ++ b2 c.drops ++ b2 c.badCheck ++ b2 c.runt ++ b2 c.giant
    ++ b2 c.overrun ++ b2 c.unknownKind ++ b2 c.holdsSent ++ b2 c.holdsReceived

def judgeReadCounters (p : List Byte) (s : State) : State :=
  match fieldAt p 0 1 with
  | 0 => reply .ok s.link.counters.bytes s
  | 1 => reply .ok s.link.counters.bytes { s with link.counters := Counters.zero }
  | _ => refuse .range s

/-- READ_COUNTERS (R40, R178). -/
def execReadCounters (rest : List Byte) (s : State) : Out := transact 1 judgeReadCounters rest s

/-! ## Status (R178) -/

def stationStatus (s : State) : List Byte :=
  b1 (ownAddr s).val ++ b1 (Role.code (role s)) ++ b1 (Redundancy.code s.st.straps.redund) ++ b1 s.st.straps.cls.val
    ++ b1 (if s.st.straps.eightRotors then 8 else 4) ++ b1 s.st.state.code ++ bBool s.st.ejectOpen ++ bBool s.st.ready
    ++ bBool s.st.pwroff ++ bBool s.st.clash ++ b1 s.dep.kind.code ++ bOpt (s.dep.step.map DepStep.code)

/-- R54, R55. -/
def viewStatus (s : State) : List Byte := bBool s.view.faultLow ++ bBool s.view.faultSet ++ bBool s.view.pull

/-- R78. -/
def budgetStatus (s : State) : List Byte :=
  let line : Bool := role s = .line
  let supply : Bool := role s = .supply
  b4 s.budget.usable ++ b4 s.budget.margined ++ b1 s.budget.counted ++ b1 (if s.budget.redundant then 0 else 1)
    ++ b1 s.budget.repCoverage.code ++ orNone (!supply) (b4 s.budget.runSum)
    ++ orNone (!supply) (bBool s.budget.exhausted) ++ b4 s.budget.claim ++ orNone line (b4 s.budget.tent)
    ++ orNone line (bBool s.budget.window.isSome ++ bLeft s.now s.budget.window ++ bBool s.budget.retry.isSome)
    ++ bBool s.budget.heldView.isSome ++ orNone supply (b2 s.budget.derate ++ b4 s.budget.offer)

/-- A rotor's state and measured speed, NONE for a position without a rotor record. -/
def rotorStatus (s : State) (i : Nat) : List Byte :=
  match s.cool.rotors[i]? with
  | none => [0xFF#8, 0xFF#8, 0xFF#8]
  | some r => b1 r.state.code ++ b2 r.speed

/-- R80, R83, R90, R98. -/
def coolingStatus (s : State) : List Byte :=
  let fan : Bool := role s = .fan
  readingBytes s.cool.readings ++ bTemp s.cool.hottest ++ b1 s.cool.demand ++ b1 s.cool.critCount
    ++ b1 s.cool.clearCount ++ b1 s.cool.shutCount ++ b1 s.cool.thermal.code ++ bBool s.cool.forced
    ++ orNone fan (b1 s.cool.target ++ b1 (failedRotors s)) ++ (List.range 8).flatMap (rotorStatus s)

/-- The ms the good-run conditions have held, up to 2000 (R100). -/
def goodRunMs (s : State) : Nat :=
  match s.sup.goodRun with
  | .off => 0
  | .running d => 2000 - leftMs s.now (some d)
  | .complete => 2000

/-- R100, R105 to R107. -/
def supplyStatus (s : State) : List Byte :=
  orNone (role s = .supply)
    (bBool s.sup.inOk ++ bBool s.sup.outOk ++ bBool s.sup.earlyWarn ++ bBool s.sup.outputLost ++ b2 (goodRunMs s)
      ++ bBool s.sup.enable ++ b4 (16 * s.sup.loadCode) ++ b1 s.sup.loadCode ++ bBool s.sup.overEpisode)

/-- R109. -/
def seatStatus (s : State) : List Byte :=
  b2 (owned s) ++ b2 s.seat.free ++ b2 s.seat.bound ++ b2 (escrowTotal s.seat.escrow) ++ b2 (giveable s)

def portsIn (s : State) (t : PortState) : Nat := (s.port.recs.filter fun p => p.state = t).length

/-- R141. -/
def portStatus (s : State) : List Byte :=
  let head := s.port.queue.head?
  orNone (role s = .line)
    (b1 (portsIn s .dark) ++ b1 (portsIn s .queued) ++ b1 (portsIn s .lighting) ++ b1 (portsIn s .lit)
      ++ b1 (portsIn s .dimming) ++ b1 (portsIn s .shed) ++ b1 (freshCount s)
      ++ b1 (s.port.queue.length - freshCount s) ++ bOpt (head.map (·.port))
      ++ bOpt (head.map fun e => if e.fresh then 0 else 1) ++ bTime (nextBoundary s.now s.port.history))

/-- R158. -/
def zoneStatus (s : State) : List Byte :=
  orNone (zoning s)
    (b1 s.zone.lock.code ++ bOpt (s.zone.origin.map (·.val)) ++ b4 (s.zone.proposed.getD 0) ++ b1 s.zone.segCount
      ++ b1 s.zone.received ++ bBool s.zone.commitPending ++ bLeft s.now s.zone.segTimer
      ++ bLeft s.now s.zone.voteTimer ++ bLeft s.now s.zone.orphanTimer ++ bLeft s.now s.zone.resend)

/-- R167. -/
def filterStatus (s : State) : List Byte :=
  orNone (role s = .line)
    (b1 s.filt.queue.length ++ bOpt (s.filt.flight.map (·.port))
      ++ bOpt (s.filt.flight.map fun l => if l.second then 2 else 1) ++ bBool s.filt.sweep)

/-- Every reported item, by block in chapter order; the link has none (R178). -/
def statusBytes (s : State) : List Byte :=
  stationStatus s ++ viewStatus s ++ budgetStatus s ++ coolingStatus s ++ supplyStatus s ++ seatStatus s
    ++ portStatus s ++ zoneStatus s ++ filterStatus s

/-- READ_STATUS (R178). -/
def execReadStatus (rest : List Byte) (s : State) : Out :=
  transact 0 (fun _ s => reply .ok (statusBytes s) s) rest s

end Sys2Proof.Machine
end

