-- ==== Sys2Proof/Machine/ExecSense.lean ====
section
/-! DEFINITION. Meanings of the sensor sample and the rotor check (chapter 5), of the supply lines (chapter 6),
and of the fan duty timers. -/

namespace Sys2Proof.Machine

open Sys2Proof.Config

/-! ## The sensor sample (R80) -/

/-- One sample, in R80's order; entering SHUTDOWN acts in the same step (R87), and a SUPPLY station's figures
follow the state after it (R107), so that SUPPLY-OVERLOAD is the sample's last notice (DESIGN CHOICE,
notes/assumptions/69.md). Before JOIN a FAN station recomputes its target at every sample (R90). -/
def takeSample (r : Sensors) (s : State) : State :=
  let was := s.cool.thermal
  let s := judgeThermal (updateCounts (takeReadings r { s with cool.sampleAt := some (s.now + ms 250) }))
  let s := if s.cool.thermal = .shutdown ∧ was ≠ .shutdown then enterShutdown s else s
  let s := supplySample r.loadCode.toNat s
  if (ownRecorded s).isNone then retarget s else s

/-- SENSOR_SAMPLE (R80). -/
def execSensorSample (r : Sensors) (s : State) : Out :=
  expiryStep (during (s.st.state ≠ .reset) s.cool.sampleAt) (takeSample r) s

/-! ## The rotor check (R95 to R98) -/

def rotorStateAt (i : Nat) (s : State) : Option RotorState := (s.cool.rotors[i]?).map (·.state)

/-- A change of a rotor's state is one event: the target follows the new count, the own entry follows its blocks,
and its change is handed on as a view change with a re-evaluation of its own and the step's ROLLCALL, be it that
another rotor's change in the same check undoes it (R41, R53, R98). -/
def rotorEvent (i : Nat) (f : State → State) (s : State) : State :=
  let t := f s
  if rotorStateAt i t = rotorStateAt i s then t else propagate rounds (reevaluate (retarget (noteChange t)))

/-- The rotors measured one after another, by ascending index (notes/assumptions/60.md); a discarded measurement is
judged by the last duty change before the check (notes/assumptions/20.md). -/
def measureAll (pulses : List Nat) (expected lastDuty : Nat) (s : State) : State :=
  (List.range s.cool.rotors.length).foldl (fun s i =>
    match s.cool.rotors[i]? with
    | none => s
    | some r => if skipsRotor s.now lastDuty r then s
        else rotorEvent i (measureRotor i (pulses[i]?.getD 0) expected) s) s

/-- The presence of each rotor, by ascending index (notes/assumptions/60.md). -/
def judgeAllPresence (present : List Bool) (expected : Nat) (s : State) : State :=
  (List.range s.cool.rotors.length).foldl (fun s i =>
    rotorEvent i (judgePresence i (present[i]?.getD false) expected) s) s

/-- One check: presence of every rotor, then the measurements. -/
def checkRotors (r : RotorPins) (s : State) : State :=
  let s := { s with cool.checkAt := some (s.now + ms 1000) }
  let expected := expectedSpeed s.st.straps s.cool.duty
  measureAll r.pulses expected s.cool.lastDuty (judgeAllPresence r.present expected s)

/-- ROTOR_CHECK (R95). -/
def execRotorCheck (r : RotorPins) (s : State) : Out :=
  expiryStep (during (role s = .fan ∧ s.st.state ≠ .reset) s.cool.checkAt) (checkRotors r) s

/-! ## Fan duty timers (R93) -/

def holdEnd (r : Ramp) : Option Nat := match r with | .holding d => some d | .steady => none | .stepping _ => none

def stepEnd (r : Ramp) : Option Nat := match r with | .stepping d => some d | .steady => none | .holding _ => none

/-- FAN_HOLD_EXPIRE (R93). -/
def execFanHoldExpire (s : State) : Out := expiryStep (holdEnd s.cool.ramp) stepDown s

/-- FAN_STEP_EXPIRE (R93). -/
def execFanStepExpire (s : State) : Out := expiryStep (stepEnd s.cool.ramp) stepDown s

/-! ## The supply lines (R100 to R102) -/

/-- The supply monitor reads its lines: a SUPPLY station out of RESET. -/
def monitors (s : State) : Bool := role s = .supply && s.st.state ≠ .reset

/-- IN_OK_CHANGE (R100 to R102). -/
def execInOkChange (high : Bool) (s : State) : Out :=
  if monitors s ∧ s.sup.inOk ≠ high then
    stepOf (fun s =>
      let s := updateGoodRun { s with sup.inOk := high }
      if high then inputRose s else inputFell s) s
  else .next s

/-- OUT_OK_CHANGE (R100). -/
def execOutOkChange (high : Bool) (s : State) : Out :=
  if monitors s ∧ s.sup.outOk ≠ high then
    stepOf (fun s => updateGoodRun (if high then { s with sup.outOk := true, sup.lostMeasure := none, sup.outputLost := false }
      else { s with sup.outOk := false, sup.lostMeasure := some (s.now + ms 5) })) s
  else .next s

/-- EARLY_WARN_CHANGE (R100, R101). -/
def execEarlyWarnChange (asserted : Bool) (s : State) : Out :=
  if monitors s ∧ s.sup.earlyWarn ≠ asserted then
    stepOf (fun s =>
      let s := updateGoodRun { s with sup.earlyWarn := asserted }
      if asserted then warned s else s) s
  else .next s

/-- OUTPUT_LOST_EXPIRE (R100, R101). -/
def execOutputLostExpire (s : State) : Out :=
  expiryStep s.sup.lostMeasure (fun s => outputWentLost { s with sup.lostMeasure := none, sup.outputLost := true }) s

def goodRunEnd (g : GoodRun) : Option Nat := match g with | .running d => some d | .off => none | .complete => none

/-- GOOD_RUN_COMPLETE (R100, R101). -/
def execGoodRunComplete (s : State) : Out :=
  expiryStep (goodRunEnd s.sup.goodRun) (fun s => goodRunDone { s with sup.goodRun := .complete }) s

end Sys2Proof.Machine
end

