-- ==== Sys2Proof/Machine/ExecFrames.lean ====
section
/-! DEFINITION. Meanings of the twelve frame kinds' takings from the head of the receive queue (R36), less HOLD,
which never enters it. -/

namespace Sys2Proof.Machine

open Sys2Proof.Config

/-- The head of the receive queue, of kind `k`, leaves the queue and acts; with another head, or none, the event
does not occur (notes/assumptions/31.md). -/
def takeHead (k : Kind) (act : RxFrame → State → State) (s : State) : Out :=
  match s.link.rx with
  | [] => .next s
  | f :: rest => if f.kind = k then stepOf (act f) { s with link.rx := rest } else .next s

/-! ## Frames of the chassis view (R45, R47, R48) -/

/-- The entry a ROLLCALL gives; its age goes on from the frame's validation (R46), or starts now (R45). -/
def heardEntry (was : Entry) (now : Nat) (f : Roll) : Entry :=
  match was with
  | .empty => .known .present now f
  | .known _ heard _ => .known .present heard f

/-- PEER-ARRIVED, where the entry's state or role calls for it (R45). -/
def arrived (src : Addr) (was : Entry) (f : Roll) (s : State) : State :=
  match was with
  | .empty => raise .peerArrived src.val (b1 (Role.code f.role) ++ b1 0) s
  | .known .present _ g =>
    if g.role = f.role then s
    else raise .peerArrived src.val (b1 (Role.code f.role) ++ b1 (Role.code g.role) ++ b1 4) s
  | .known .lost _ _ => raise .peerArrived src.val (b1 (Role.code f.role) ++ b1 Presence.lost.code) s
  | .known .gone _ _ => raise .peerArrived src.val (b1 (Role.code f.role) ++ b1 Presence.gone.code) s

/-- A ROLLCALL that passes its checks acts on its sender's entry (R45). -/
def takeRollcall (src : Addr) (payload : List Byte) (s : State) : State :=
  match Roll.read payload with
  | none => s
  | some f =>
    let was := entryAt s src
    changeEntry src (heardEntry was s.now f) (arrived src was f) s

/-- ROLLCALL_TAKEN (R45). -/
def execRollcallTaken (s : State) : Out := takeHead .rollcall (fun f => takeRollcall f.src f.payload) s

/-- A SUPPLY-DROP sets the sender's recorded offer to 0 and supply state to WARNING (R48). -/
def takeDrop (src : Addr) (s : State) : State :=
  match entryAt s src with
  | .empty => s
  | .known p heard f =>
    if f.role = .supply then
      changeEntry src (.known p heard { f with offer := 0, supply := some .warning }) id s
    else s

/-- SUPPLY_DROP_TAKEN (R48). -/
def execSupplyDropTaken (s : State) : Out := takeHead .supplyDrop (fun f => takeDrop f.src) s

/-- A DEPART makes a PRESENT or LOST entry GONE (R47). -/
def takeDepart (src : Addr) (s : State) : State :=
  match entryAt s src with
  | .empty => s
  | .known .gone _ _ => s
  | .known _ heard f =>
      changeEntry src (.known .gone heard f) (raise .peerGone src.val (b1 (Role.code f.role))) s

/-- DEPART_TAKEN (R47). -/
def execDepartTaken (s : State) : Out := takeHead .depart (fun f => takeDepart f.src) s

/-! ## Seat frames (R117, R118, R121 to R123, R125) -/

/-- SEAT_ASK_TAKEN (R117). -/
def execSeatAskTaken (s : State) : Out :=
  takeHead .seatAsk (fun f s => if sending s then
    match readAsk f.payload with
    | none => s
    | some a => takeAsk f.src a.1 a.2 s
    else s) s

/-- A SEAT-GIVE counts toward pending answers and, at its recipient, is judged (R118, R121). -/
def takeGive (src : Addr) (g : GiveFields) (s : State) : State :=
  if g.rcpt = src then s
  else
    let s := countGive src g s
    if g.rcpt = ownAddr s then acceptGive src g.xfer g.count s else s

/-- SEAT_GIVE_TAKEN (R118, R121, R122). -/
def execSeatGiveTaken (s : State) : Out :=
  takeHead .seatGive (fun f s => if sending s then
    match readGive f.payload with
    | none => s
    | some g => takeGive f.src g s
    else s) s

/-- SEAT_ACK_TAKEN (R123). -/
def execSeatAckTaken (s : State) : Out :=
  takeHead .seatAck (fun f s => if sending s then
    match readAck f.payload with
    | none => s
    | some a => takeAck f.src a.1 s
    else s) s

/-! ## Zoning frames (R148 to R153) -/

/-- Zoning frames are taken by LINE and SUPERVISOR stations, in every receiving state but DEPARTED (R36, R157). -/
def takesZoning (s : State) : Bool := zoning s && sending s

/-- ZONE_OPEN_TAKEN (R148). -/
def execZoneOpenTaken (s : State) : Out :=
  takeHead .zoneOpen (fun f s =>
    if takesZoning s then
      receiveOpen f.src (fieldAt f.payload 0 4) (fieldAt f.payload 4 1) (fieldAt f.payload 5 4) s
    else s) s

/-- ZONE_SEG_TAKEN (R149, R150). -/
def execZoneSegTaken (s : State) : Out :=
  takeHead .zoneSeg (fun f s =>
    if takesZoning s then
      receiveSeg f.src (fieldAt f.payload 0 4) (fieldAt f.payload 4 1) (readEntries (f.payload.drop 6)) s
    else s) s

/-- ZONE_VOTE_TAKEN (R151); a verdict or reason without a name is ignored (notes/assumptions/23.md). -/
def execZoneVoteTaken (s : State) : Out :=
  takeHead .zoneVote (fun f s =>
    if takesZoning s then
      match Verdict.ofCode (fieldAt f.payload 4 1), Reason.ofCode (fieldAt f.payload 5 1) with
      | some v, some r => takeVote f.src (fieldAt f.payload 0 4) v r (inRange 0 254 (fieldAt f.payload 6 1)) s
      | _, _ => s
    else s) s

/-- ZONE_COMMIT_TAKEN (R153). -/
def execZoneCommitTaken (s : State) : Out :=
  takeHead .zoneCommit (fun f s =>
    if takesZoning s then receiveCommit f.src (fieldAt f.payload 0 4) s else s) s

/-- ZONE_ABANDON_TAKEN (R153). -/
def execZoneAbandonTaken (s : State) : Out :=
  takeHead .zoneAbandon (fun f s =>
    if takesZoning s then receiveAbandon f.src (fieldAt f.payload 0 4) (fieldAt f.payload 4 1) s else s) s

end Sys2Proof.Machine
end

