-- ==== Sys2Proof/Machine/ExecTimers.lean ====
section
/-! DEFINITION. Meanings of the timers' expiries, of the store's completion and of the filter channel's
acknowledgement. -/

namespace Sys2Proof.Machine

open Sys2Proof.Config

/-! ## The retained store (R15) -/

/-- An action that waited for a write takes place (R15). -/
def runWait (s : State) (w : Wait) : State :=
  match w with
  | .give x => offerGive x s
  | .ack g x c fresh =>
    let s := sendNormal (.seatAck g x c) s
    if fresh then raise .seatsReceived g.val (xferDetail x c) s else s
  | .reply => answer .ok [] s
  | .zoneOpen gen =>
    if s.zone.lock = .publishing ∧ s.zone.proposed = some gen then sendZone (publishFrames gen s.zone.staged) s else s
  | .commit => commitEffect s

/-- A write of the seat record has completed: the actions that waited for it take place in the order in which they
began to wait (R15, R121; the order is a DESIGN CHOICE, notes/assumptions/72.md). -/
def seatWritten (s : State) : State :=
  s.store.seat.waiting.foldl runWait { s with store.seat := s.store.seat.finish }

/-- The same for the zoning record (R15; DESIGN CHOICE, notes/assumptions/72.md). -/
def zoningWritten (s : State) : State :=
  s.store.zoning.waiting.foldl runWait { s with store.zoning := s.store.zoning.finish }

/-- STORE_WRITE_COMPLETE (R15); with no write of the record in flight the event does not occur. -/
def execStoreWriteComplete (r : RecordId) (s : State) : Out :=
  match r with
  | .seat => if s.store.seat.writing.isSome then stepOf seatWritten s else .next s
  | .zoning => if s.store.zoning.writing.isSome then stepOf zoningWritten s else .next s

/-! ## The chassis view and the station state -/

/-- ROLLCALL_PERIOD_EXPIRE (R41). -/
def execRollcallPeriodExpire (s : State) : Out :=
  expiryStep s.view.period (fun s => offerRollcall (ownRoll s) { s with view.period := none }) s

/-- When a peer's entry reaches 1000 ms of age (R46): only a PRESENT entry has such an end. -/
def ageEnd (p : Addr) (s : State) : Option Nat :=
  match entryAt s p with
  | .known .present heard _ => if p = ownAddr s then none else some (heard + ms 1000)
  | .known .lost _ _ => none
  | .known .gone _ _ => none
  | .empty => none

/-- The entry becomes LOST (R46). -/
def loseEntry (p : Addr) (s : State) : State :=
  match entryAt s p with
  | .empty => s
  | .known _ heard f => changeEntry p (.known .lost heard f) (raise .peerLost p.val (b1 (Role.code f.role))) s

/-- PEER_AGE_EXPIRE (R46). -/
def execPeerAgeExpire (p : Addr) (s : State) : Out := expiryStep (ageEnd p s) (loseEntry p) s

/-- The silence timer's expiry (R11). -/
def silenceExpired (s : State) : State :=
  let armed := s.st.silenceArmed
  let s := { s with st.silence := none, st.silenceArmed := false }
  if armed then isolate .silence s else s

/-- SILENCE_TIMER_EXPIRE (R11). -/
def execSilenceTimerExpire (s : State) : Out := expiryStep s.st.silence silenceExpired s

/-- The end of JOINING (R10). -/
def joiningOver (s : State) : State :=
  match s.st.pend with
  | .none => enterActive s
  | .command => enterDeparting .departCommand false s
  | .eject => enterDeparting .eject false s

/-- JOINING_TIMER_EXPIRE (R10). -/
def execJoiningTimerExpire (s : State) : Out := expiryStep (during (s.st.state = .joining) s.st.joinTimer) joiningOver s

/-! ## Admission (R75, R76, R133) -/

/-- The re-check at the end of a settle window (R75, R76); the total is tested first, so that a failed one starts
the retry timer whatever the gates (notes/assumptions/48.md). -/
def recheck (s : State) : State :=
  match s.port.queue with
  | [] => closeWindow s
  | e :: _ =>
    if s.budget.margined < recheckTotal (liveView s) (ownAddr s).val (prospective s e.port) then
      { closeWindow s with budget.retry := some (s.now + ms 100) }
    else if s.zone.lock = .applying ∨ (e.fresh ∧ s.seat.free = 0) then closeWindow s
    else closeWindow (startHead s)

/-- The window's end: a re-evaluation, then the re-check unless the re-evaluation has closed the window
(notes/assumptions/24.md). -/
def windowOver (s : State) : State :=
  let was := s.budget.window
  let s := reevaluate s
  if s.budget.window = was then recheck s else s

/-- SETTLE_WINDOW_EXPIRE (R75). -/
def execSettleWindowExpire (s : State) : Out := expiryStep (during (s.st.state = .active) s.budget.window) windowOver s

/-- RETRY_TIMER_EXPIRE (R76). -/
def execRetryTimerExpire (s : State) : Out :=
  expiryStep s.budget.retry (fun s => examineGates { s with budget.retry := none }) s

/-- HISTORY_BOUNDARY: the boundary passes and the gates of the head are examined (R133, R134). -/
def execHistoryBoundary (s : State) : Out :=
  expiryStep s.port.boundary (fun s => examineGates { s with port.boundary := none }) s

/-! ## Asking, answering, resending (R116, R118, R120, R124) -/

def outstandingEnd (p : AskPhase) : Option Nat :=
  match p with | .outstanding d => some d | .idle => none | .spacing _ => none

def spacingEnd (p : AskPhase) : Option Nat :=
  match p with | .spacing d => some d | .idle => none | .outstanding _ => none

/-- OUTSTANDING runs out (R116). -/
def outstandingOver (s : State) : State :=
  { s with seat.phase := if isShort s then .spacing (s.now + ms (if s.seat.firstAsk then 2000 else 1500)) else .idle }

/-- ASK_OUTSTANDING_EXPIRE (R116). -/
def execAskOutstandingExpire (s : State) : Out := expiryStep (outstandingEnd s.seat.phase) outstandingOver s

/-- SPACING runs out (R115, R116). -/
def spacingOver (s : State) : State :=
  let s := { s with seat.phase := .idle }
  if isShort s then
    if headFresh s then offerAsk s else { s with seat.phase := .spacing (s.now + ms 2000) }
  else s

/-- ASK_SPACING_EXPIRE (R116). -/
def execAskSpacingExpire (s : State) : Out := expiryStep (spacingEnd s.seat.phase) spacingOver s

def answerFor (asker : Addr) (s : State) : Option Answer := s.seat.answers.find? (·.asker = asker)

/-- ANSWER_DELAY_EXPIRE (R118). -/
def execAnswerDelayExpire (asker : Addr) (s : State) : Out :=
  match answerFor asker s with
  | none => .next s
  | some a => stepOf (giveAnswer a) (reach a.ends s)

/-- ESCROW-UNANSWERED at the timer's end after the eighth send, once (R120). -/
def judgeUnanswered (x : Nat) (s : State) : State :=
  match escrowOf s x with
  | none => s
  | some e =>
    if e.tries = 8 ∧ e.unanswered = false then
      raiseOwn .escrowUnanswered (b4 x ++ b1 e.rcpt.val ++ b2 e.count) (mapEscrow x (fun e => { e with unanswered := true }) s)
    else s

/-- An escrow entry's timer runs out: the notice of the eighth send, stranding, and the next SEAT-GIVE (R120,
R124). That ESCROW-UNANSWERED goes ahead of ESCROW-STRANDED is a DESIGN CHOICE (notes/assumptions/62.md). -/
def escrowOver (e : Escrow) (s : State) : State := offerGive e.xfer (judgeEscrow (judgeUnanswered e.xfer s) e)

/-- ESCROW_TIMER_EXPIRE (R120). -/
def execEscrowTimerExpire (x : Nat) (s : State) : Out :=
  match escrowOf s x with
  | none => .next s
  | some e => expiryStep e.timer (escrowOver e) s

/-! ## Ports (R136, R137) -/

/-- The end of a port's LIGHTING or DIMMING timer. -/
def portTimer (t : PortState) (n : Nat) (s : State) : Option Nat :=
  match portAt s n with
  | none => none
  | some p => if p.state = t then p.timer else none

/-- A LIGHTING port becomes LIT (R136). -/
def becomeLit (n : Nat) (s : State) : State :=
  match portAt s n with
  | none => s
  | some p => raise .portLit n (reqDetail p ++ bBool p.restored) (setPort n { p with state := .lit, timer := none } s)

/-- LIGHTING_TIMER_EXPIRE (R136). -/
def execLightingTimerExpire (n : Nat) (s : State) : Out := expiryStep (portTimer .lighting n s) (becomeLit n) s

/-- A DIMMING port becomes DARK; PORT-DARK unless departure dimmed it (R137). -/
def dimmingOver (n : Nat) (s : State) : State :=
  match portAt s n with
  | none => s
  | some p =>
    let s := darkenPort n s
    match p.dimCause with
    | .released => raise .portDark n (b1 0) s
    | .filterFault => raise .portDark n (b1 1) s
    | .departure => s

/-- DIMMING_TIMER_EXPIRE (R137). -/
def execDimmingTimerExpire (n : Nat) (s : State) : Out := expiryStep (portTimer .dimming n s) (dimmingOver n) s

/-! ## Zoning (R146, R149, R151, R154) -/

/-- SEGMENT_TIMER_EXPIRE (R149). -/
def execSegmentTimerExpire (s : State) : Out :=
  expiryStep (during (s.zone.lock = .receiving) s.zone.segTimer) (refuseSet .incomplete none) s

/-- The voters without a verdict. -/
def unvoted (s : State) : List Addr := (s.zone.results.filter (·.verdict.isNone)).map (·.voter)

/-- VOTE_WINDOW_EXPIRE (R151, R152). -/
def execVoteWindowExpire (s : State) : Out :=
  expiryStep (during (s.zone.lock = .collecting ∧ s.zone.commitPending = false) s.zone.voteTimer) (fun s => abandon .noVote (addrList 3 (unvoted s)) s) s

/-- The code of an entry's state (R43). -/
def entryCode (e : Entry) : Nat :=
  match e with
  | .empty => 0
  | .known p _ _ => p.code

/-- The orphan timer's expiry (R154). -/
def orphaned (s : State) : State :=
  let state := match s.zone.origin with
    | none => 0
    | some a => entryCode (entryAt s a)
  raise .zoneOrphaned (s.zone.proposed.getD 0) (bOpt (s.zone.origin.map (·.val)) ++ b1 state) (freeLock s)

/-- ORPHAN_TIMER_EXPIRE (R154). -/
def execOrphanTimerExpire (s : State) : Out :=
  expiryStep (during (s.zone.lock = .ready ∧ s.zone.commitPending = false) s.zone.orphanTimer) orphaned s

/-- ZONE_RESEND_TIMER_EXPIRE (R146). -/
def execZoneResendTimerExpire (s : State) : Out :=
  expiryStep s.zone.resend (fun s => pumpZone s.zone.outbox { s with zone.resend := none }) s

/-! ## The filter channel (R165) -/

/-- FILTER_ACK (R165): only an acknowledgement naming the load's port acts. -/
def execFilterAck (n : Nat) (s : State) : Out :=
  match s.filt.flight with
  | none => .next s
  | some l =>
    if l.port = n then stepOf (fun s => serveFilters (if l.ignored then endIgnored s else endTaken l s)) s
    else .next s

/-- A try's 20 ms end (R165, R166). -/
def tryOver (l : Flight) (s : State) : State :=
  if l.ignored then serveFilters (endIgnored s)
  else if l.second then serveFilters (endTimedOut l s)
  else { s with filt.flight := some { l with second := true, ends := s.now + ms 20 } }

/-- FILTER_TRY_EXPIRE (R165). -/
def execFilterTryExpire (s : State) : Out :=
  match s.filt.flight with
  | none => .next s
  | some l => stepOf (tryOver l) (reach l.ends s)

/-! ## Departure (R171, R172) -/

/-- DEPARTURE_TIMER_EXPIRE (R172). -/
def execDepartureTimerExpire (s : State) : Out :=
  expiryStep (during (s.st.state = .departing) s.dep.timer) forceDeparture s

/-- DEPART_RETRY_EXPIRE (R171): with the wait over DEPART is offered again as the step ends. -/
def execDepartRetryExpire (s : State) : Out := expiryStep s.dep.retry (fun s => { s with dep.retry := none }) s

/-! ## INT (R180) -/

/-- INT_DEASSERT_INTERVAL_EXPIRE (R180). -/
def execIntDeassertIntervalExpire (s : State) : Out :=
  expiryStep s.host.intOff (fun s => { s with host.intOff := none, host.int := !s.host.notices.isEmpty }) s

end Sys2Proof.Machine
end

