-- ==== Sys2Proof/Machine/Dispatch.lean ====
section
/-! DEFINITION. `exec`: one arm for each command. -/

namespace Sys2Proof.Machine

def exec (i : Instr) (s : State) : Host.Outcome State Fault Refusal :=
  match i with
  | .resetAssert kind => Sys2Proof.Machine.execResetAssert kind s
  | .resetRelease pins => Sys2Proof.Machine.execResetRelease pins s
  | .ejectPinChange isOpen => Sys2Proof.Machine.execEjectPinChange isOpen s
  | .ejectJudgedOpen => Sys2Proof.Machine.execEjectJudgedOpen s
  | .ejectJudgedClosed => Sys2Proof.Machine.execEjectJudgedClosed s
  | .faultLineChange isLow => Sys2Proof.Machine.execFaultLineChange isLow s
  | .faultConditionSet => Sys2Proof.Machine.execFaultConditionSet s
  | .faultConditionClear => Sys2Proof.Machine.execFaultConditionClear s
  | .sensorSample r => Sys2Proof.Machine.execSensorSample r s
  | .rotorCheck r => Sys2Proof.Machine.execRotorCheck r s
  | .inOkChange high => Sys2Proof.Machine.execInOkChange high s
  | .outOkChange high => Sys2Proof.Machine.execOutOkChange high s
  | .earlyWarnChange asserted => Sys2Proof.Machine.execEarlyWarnChange asserted s
  | .outputLostExpire => Sys2Proof.Machine.execOutputLostExpire s
  | .goodRunComplete => Sys2Proof.Machine.execGoodRunComplete s
  | .storeWriteComplete rec => Sys2Proof.Machine.execStoreWriteComplete rec s
  | .lineActivityEnd bits lead => Sys2Proof.Machine.execLineActivityEnd bits lead s
  | .txGapComplete => Sys2Proof.Machine.execTxGapComplete s
  | .txCollision => Sys2Proof.Machine.execTxCollision s
  | .jamEnd => Sys2Proof.Machine.execJamEnd s
  | .txFrameComplete => Sys2Proof.Machine.execTxFrameComplete s
  | .backoffExpire q => Sys2Proof.Machine.execBackoffExpire q s
  | .holdCounterExpire => Sys2Proof.Machine.execHoldCounterExpire s
  | .holdGuardExpire => Sys2Proof.Machine.execHoldGuardExpire s
  | .rollcallTaken => Sys2Proof.Machine.execRollcallTaken s
  | .supplyDropTaken => Sys2Proof.Machine.execSupplyDropTaken s
  | .departTaken => Sys2Proof.Machine.execDepartTaken s
  | .seatAskTaken => Sys2Proof.Machine.execSeatAskTaken s
  | .seatGiveTaken => Sys2Proof.Machine.execSeatGiveTaken s
  | .seatAckTaken => Sys2Proof.Machine.execSeatAckTaken s
  | .zoneOpenTaken => Sys2Proof.Machine.execZoneOpenTaken s
  | .zoneSegTaken => Sys2Proof.Machine.execZoneSegTaken s
  | .zoneVoteTaken => Sys2Proof.Machine.execZoneVoteTaken s
  | .zoneCommitTaken => Sys2Proof.Machine.execZoneCommitTaken s
  | .zoneAbandonTaken => Sys2Proof.Machine.execZoneAbandonTaken s
  | .rollcallPeriodExpire => Sys2Proof.Machine.execRollcallPeriodExpire s
  | .peerAgeExpire peer => Sys2Proof.Machine.execPeerAgeExpire peer s
  | .silenceTimerExpire => Sys2Proof.Machine.execSilenceTimerExpire s
  | .joiningTimerExpire => Sys2Proof.Machine.execJoiningTimerExpire s
  | .settleWindowExpire => Sys2Proof.Machine.execSettleWindowExpire s
  | .retryTimerExpire => Sys2Proof.Machine.execRetryTimerExpire s
  | .fanHoldExpire => Sys2Proof.Machine.execFanHoldExpire s
  | .fanStepExpire => Sys2Proof.Machine.execFanStepExpire s
  | .askOutstandingExpire => Sys2Proof.Machine.execAskOutstandingExpire s
  | .askSpacingExpire => Sys2Proof.Machine.execAskSpacingExpire s
  | .answerDelayExpire asker => Sys2Proof.Machine.execAnswerDelayExpire asker s
  | .escrowTimerExpire xfer => Sys2Proof.Machine.execEscrowTimerExpire xfer s
  | .lightingTimerExpire port => Sys2Proof.Machine.execLightingTimerExpire port s
  | .dimmingTimerExpire port => Sys2Proof.Machine.execDimmingTimerExpire port s
  | .historyBoundary => Sys2Proof.Machine.execHistoryBoundary s
  | .segmentTimerExpire => Sys2Proof.Machine.execSegmentTimerExpire s
  | .voteWindowExpire => Sys2Proof.Machine.execVoteWindowExpire s
  | .orphanTimerExpire => Sys2Proof.Machine.execOrphanTimerExpire s
  | .zoneResendTimerExpire => Sys2Proof.Machine.execZoneResendTimerExpire s
  | .filterAck port => Sys2Proof.Machine.execFilterAck port s
  | .filterTryExpire => Sys2Proof.Machine.execFilterTryExpire s
  | .departureTimerExpire => Sys2Proof.Machine.execDepartureTimerExpire s
  | .departRetryExpire => Sys2Proof.Machine.execDepartRetryExpire s
  | .intDeassertIntervalExpire => Sys2Proof.Machine.execIntDeassertIntervalExpire s
  | .fetch reads => Sys2Proof.Machine.execFetch reads s
  | .set rest => Sys2Proof.Machine.execSet rest s
  | .join rest => Sys2Proof.Machine.execJoin rest s
  | .depart rest => Sys2Proof.Machine.execDepart rest s
  | .linkRestart rest => Sys2Proof.Machine.execLinkRestart rest s
  | .forgetPeer rest => Sys2Proof.Machine.execForgetPeer rest s
  | .forceFans rest => Sys2Proof.Machine.execForceFans rest s
  | .portRequest rest => Sys2Proof.Machine.execPortRequest rest s
  | .portCancel rest => Sys2Proof.Machine.execPortCancel rest s
  | .portRelease rest => Sys2Proof.Machine.execPortRelease rest s
  | .portAttach rest => Sys2Proof.Machine.execPortAttach rest s
  | .portDetach rest => Sys2Proof.Machine.execPortDetach rest s
  | .seatInstall rest => Sys2Proof.Machine.execSeatInstall rest s
  | .seatWithdraw rest => Sys2Proof.Machine.execSeatWithdraw rest s
  | .seatReclaim rest => Sys2Proof.Machine.execSeatReclaim rest s
  | .zoneDraftClear rest => Sys2Proof.Machine.execZoneDraftClear rest s
  | .zoneDraftAdd rest => Sys2Proof.Machine.execZoneDraftAdd rest s
  | .zoneDraftRemove rest => Sys2Proof.Machine.execZoneDraftRemove rest s
  | .zonePublish rest => Sys2Proof.Machine.execZonePublish rest s
  | .readTable rest => Sys2Proof.Machine.execReadTable rest s
  | .readNext rest => Sys2Proof.Machine.execReadNext rest s
  | .readNotice rest => Sys2Proof.Machine.execReadNotice rest s
  | .readCounters rest => Sys2Proof.Machine.execReadCounters rest s
  | .readStatus rest => Sys2Proof.Machine.execReadStatus rest s
  | .commandUnknown code rest => Sys2Proof.Machine.execCommandUnknown code rest s

end Sys2Proof.Machine
end

