-- ==== Sys2Proof/Machine/Lines.lean ====
section
/-! DEFINITION. The module lines ML0 to ML47 (R3): what each is bound to by the held straps, and what the station
does on it. -/

namespace Sys2Proof.Machine

/-- The functions of R3's table. -/
inductive LineUse where
  | portEnable (port : Nat)
  /-- A LINE station's line past its fitted ports. -/
  | heldLow
  | tach (rotor : Nat)
  | pwm
  | rotorPresent (rotor : Nat)
  | inOk
  | outOk
  | earlyWarn
  | outputEnable
  /-- A bit of the measured-load code. -/
  | loadCode (bit : Nat)
  /-- No function for the role: an input whose level is not used. -/
  | unused
  deriving DecidableEq, Repr

/-- A rotor's line: its function where the rotor is in use (R3). -/
def rotorLine (p : Straps) (rotor : Nat) (u : Nat → LineUse) : LineUse :=
  if rotor < fittedRotors p then u rotor else .unused

/-- The function of line `n` for the held straps (R3). -/
def lineUse (p : Straps) (n : Fin 48) : LineUse :=
  match p.role with
  | .line => if n.val < fittedPorts p then .portEnable n.val else .heldLow
  | .fan =>
    if n.val < 8 then rotorLine p n.val .tach
    else if n.val < 12 then .pwm
    else if n.val < 20 then rotorLine p (n.val - 12) .rotorPresent
    else .unused
  | .supply =>
    if n.val = 0 then .inOk
    else if n.val = 1 then .outOk
    else if n.val = 2 then .earlyWarn
    else if n.val = 3 then .outputEnable
    else if n.val < 12 then .loadCode (n.val - 4)
    else .unused
  | .supervisor => .unused

/-- The direction of a function (R3): an output is `true`. -/
def LineUse.isOutput : LineUse → Bool
  | .portEnable _ => true
  | .heldLow => true
  | .pwm => true
  | .outputEnable => true
  | .tach _ => false
  | .rotorPresent _ => false
  | .inOk => false
  | .outOk => false
  | .earlyWarn => false
  | .loadCode _ => false
  | .unused => false

/-- What the station does on a line. -/
inductive LineDrive where
  /-- Not driven. -/
  | input
  | low
  | high
  /-- A PWM output at this duty in percent. -/
  | duty (percent : Nat)
  deriving DecidableEq, Repr

def LineDrive.level (b : Bool) : LineDrive := if b then .high else .low

/-- What is driven on a line of a function out of RESET (R3). -/
def LineUse.drive (u : LineUse) (s : State) : LineDrive :=
  match u with
  | .portEnable n => .level (Sys2Proof.Machine.portEnable s n)
  | .heldLow => .low
  | .pwm => .duty s.cool.duty
  | .outputEnable => .level s.sup.enable
  | .tach _ => .input
  | .rotorPresent _ => .input
  | .inOk => .input
  | .outOk => .input
  | .earlyWarn => .input
  | .loadCode _ => .input
  | .unused => .input

/-- The safe value of a line while reset is asserted (R3, R5): the outputs that R5 names are driven, and every other
line is an input. -/
def LineUse.safe (u : LineUse) : LineDrive :=
  match u with
  | .portEnable _ => .low
  | .heldLow => .low
  | .pwm => .duty 100
  | .outputEnable => .low
  | .tach _ => .input
  | .rotorPresent _ => .input
  | .inOk => .input
  | .outOk => .input
  | .earlyWarn => .input
  | .loadCode _ => .input
  | .unused => .input

/-- What the station does on line `n` (R3, R5). -/
def lineDrive (s : State) (n : Fin 48) : LineDrive :=
  let u := lineUse s.st.straps n
  if s.st.state = .reset then u.safe else u.drive s

end Sys2Proof.Machine
end

