-- ==== Sys2Proof/Safety.lean ====
section
/-! DEFINITION. What counts as a safe state: the bounds and the promises that claims are stated in. -/

namespace Sys2Proof.Machine

/-- The escrow entries of a seat record: four at most, one for a recipient (section 7.1, R119). -/
structure SeatRecord.slotsHold (r : SeatRecord) : Prop where
  four : r.escrow.length ≤ Config.escrowCap
  once : (r.escrow.map (·.rcpt)).Nodup

/-- Every queue and count within its size (R27, R28, R36, R40, R132, R179); one ROLLCALL at most in the normal queue,
and contents held only while it is on the line (R29); the load queue holds each QUEUED port once, and a load whose
result counts is a LOADING port's (R161, R163); the escrow list, by its own entries and by every stored or
half-written record, four entries with one for a recipient. -/
structure Capacity (s : State) : Prop where
  urgent : s.link.urgent.length ≤ Config.urgentCap
  normal : s.link.normal.length ≤ Config.normalCap
  oneRollcall : s.link.normal.countP isRollcall ≤ 1
  heldOnLine : s.link.held ≠ none → rollcallOnLine s.link = true
  outbox : ∀ m ∈ s.zone.outbox, isRollcall m = false
  portQueue : s.port.queue.length ≤ fittedPorts s.st.straps
  loadQueue : s.filt.queue.Nodup
  queued : ∀ n, n ∈ s.filt.queue ↔ ∃ p, portAt s n = some p ∧ p.filter.state = .queued
  loading : ∀ l, s.filt.flight = some l → l.ignored = false →
    ∃ p, portAt s l.port = some p ∧ p.filter.state = .loading
  escrow : (seatRecord s).slotsHold
  escrowA : ∀ c, s.store.seat.a = some c → c.contents.slotsHold
  escrowB : ∀ c, s.store.seat.b = some c → c.contents.slotsHold
  escrowWriting : ∀ r, s.store.seat.writing = some r → r.slotsHold
  receive : s.link.rx.length ≤ Config.receiveCap
  notices : s.host.notices.length ≤ Config.noticeCap
  overflow : s.host.overflow ≤ 255
  sent : s.link.counters.sent ≤ 65535
  received : s.link.counters.received ≤ 65535
  collisions : s.link.counters.collisions ≤ 65535
  drops : s.link.counters.drops ≤ 65535
  badCheck : s.link.counters.badCheck ≤ 65535
  runt : s.link.counters.runt ≤ 65535
  giant : s.link.counters.giant ≤ 65535
  overrun : s.link.counters.overrun ≤ 65535
  unknownKind : s.link.counters.unknownKind ≤ 65535
  holdsSent : s.link.counters.holdsSent ≤ 65535
  holdsReceived : s.link.counters.holdsReceived ≤ 65535

/-- What the dedicated pins promise of the station state and the thermal state: READY exactly while DEPARTED;
PWROFF exactly from thermal SHUTDOWN on every role but FAN; a station in SHUTDOWN departing or departed; INT only
with a notice to read, and with one wherever no minimum deassertion interval is under way (R13, R14, R87, R134,
R180). -/
structure PinsHold (s : State) : Prop where
  ready : s.st.ready = true ↔ s.st.state = .departed
  pwroff : s.st.pwroff = true ↔ s.cool.thermal = .shutdown ∧ role s ≠ .fan
  shutdown : s.cool.thermal = .shutdown → s.st.state = .departing ∨ s.st.state = .departed
  intEmpty : s.host.int = true → s.host.notices ≠ []
  intAsserted : s.host.notices ≠ [] → s.host.intOff = none → s.host.int = true

/-- The claim, the increment, the FAULT pull and the own entry stand as their blocks have them, no ROLLCALL is due of a
change, and from JOIN on a FAN station's target is that of the view as it stands (R41, R44, R54, R66, R74, R90). -/
structure OwnEntry (s : State) : Prop where
  claim : s.budget.claim = steadyClaim s
  tent : s.budget.tent = tentative s
  pull : s.view.pull = pulls s
  entry : ∀ f, ownRecorded s = some f → f = ownRoll s
  announced : s.announce = false
  target : role s = .fan → ownRecorded s ≠ none → s.cool.target = fanTarget s

/-- The seats a stored seat record holds. -/
def SeatRecord.total (r : SeatRecord) : Nat := r.freeCount + (r.escrow.map (·.count)).sum

/-- No station owns more than 4096 seats, by its counts and by every stored or half-written record (R109). -/
structure SeatLimit (s : State) : Prop where
  owned : owned s ≤ Config.seatCap
  copyA : ∀ c, s.store.seat.a = some c → c.contents.total ≤ Config.seatCap
  copyB : ∀ c, s.store.seat.b = some c → c.contents.total ≤ Config.seatCap
  writing : ∀ r, s.store.seat.writing = some r → r.total ≤ Config.seatCap

/-- A port of this state holds a seat (R111). -/
def PortState.seated : PortState → Bool
  | .lighting => true | .lit => true | .dimming => true | .shed => true
  | .dark => false | .queued => false

/-- The port table, the activation queue and the bound seats agree (R111, R127, R132). -/
structure PortsAgree (s : State) : Prop where
  fitted : s.port.recs.length = fittedPorts s.st.straps
  once : (s.port.queue.map (·.port)).Nodup
  entry : ∀ e ∈ s.port.queue, ∃ p, portAt s e.port = some p ∧ p.state = if e.fresh then .queued else .shed
  queued : ∀ n p, portAt s n = some p → p.state = .queued ∨ p.state = .shed → ∃ e ∈ s.port.queue, e.port = n
  seat : ∀ n p, portAt s n = some p → p.seat = p.state.seated
  bound : s.seat.bound = (s.port.recs.filter fun p => p.seat).length

/-- The active generation that the retained store holds (R16, R143). -/
def storedGen (s : State) : Nat := (s.store.zoning.load ZoneRecord.blank).gen

/-- The active generation a station out of RESET holds: the stored one, and 0 on FAN and SUPPLY (R16, R143). -/
def heldGen (s : State) : Nat := if zoning s then storedGen s else 0

/-- The zoning lock has a set under way whose proposed generation is to become the active one. -/
def Lock.proposes : Lock → Bool
  | .publishing => true | .collecting => true | .ready => true
  | .free => false | .receiving => false | .applying => false

/-- What keeps the active generation from falling: it is the stored one (0 on FAN and SUPPLY, whose zoning unit is at
rest), a set under way proposes a greater one,
and a write that carries another generation is that of the commit under way (R15, R143, R150, R152, R153). -/
structure ZoneHold (s : State) : Prop where
  stored : s.st.state ≠ .reset → s.zone.gen = heldGen s
  reset : s.st.state = .reset ∨ zoning s = false → s.zone.lock = .free ∧ s.zone.commitPending = false
  resetStore : s.st.state = .reset ∨ zoning s = false → s.store.zoning.writing = none ∧ s.store.zoning.waiting = [] ∧
    s.store.zoning.waitingNext = [] ∧ s.store.zoning.changed = false
  proposed : s.zone.lock.proposes = true → ∃ g, s.zone.proposed = some g ∧ s.zone.gen < g
  pending : s.zone.commitPending = true → s.zone.lock = .collecting ∨ s.zone.lock = .ready
  waits : s.zone.commitPending = true ↔ Wait.commit ∈ s.store.zoning.waiting ++ s.store.zoning.waitingNext
  once : Wait.commit ∈ s.store.zoning.waiting → Wait.commit ∉ s.store.zoning.waitingNext
  idle : s.store.zoning.writing = none → s.store.zoning.waiting = []
  writing : ∀ r, s.store.zoning.writing = some r →
    if Wait.commit ∈ s.store.zoning.waiting then s.zone.proposed = some r.gen else r.gen = s.zone.gen
  staged : s.zone.staged ≠ [] → s.zone.lock.proposes = true ∨ s.zone.lock = .receiving

/-- What a SUPPLY station keeps: the offer its state and derate give; the good-run measure on exactly while its
conditions hold; an overload run or episode only in GOOD; the output enable only from JOINING to DEPARTING (R59,
R100, R105, R107). -/
structure SupplyHold (s : State) : Prop where
  offer : role s = .supply → s.budget.offer = offerOf (ratedOutput s.st.straps) s.budget.derate s.sup.state
  run : role s = .supply → (s.sup.goodRun ≠ .off ↔ goodRunHolds s = true)
  overload : role s = .supply → s.sup.state ≠ .good → s.sup.overRun = none ∧ s.sup.overEpisode = false
  enable : role s = .supply → s.sup.enable = true → sending s = true

/-- Every setting within its range, and the thresholds apart (R7). -/
structure SettingsHold (s : State) : Prop where
  tLow : -10 ≤ s.st.settings.tLow ∧ s.st.settings.tLow ≤ 60
  tHigh : s.st.settings.tLow + 5 ≤ s.st.settings.tHigh ∧ s.st.settings.tHigh ≤ 100
  tCrit : 40 ≤ s.st.settings.tCrit ∧ s.st.settings.tCrit ≤ 110
  tShut : s.st.settings.tCrit + 5 ≤ s.st.settings.tShut ∧ s.st.settings.tShut ≤ 125
  base : s.st.settings.base ≤ 500
  reserve : s.st.settings.reserve ≤ 4096
  intMin : s.st.settings.intMin ≤ 10

/-- Starts into LIGHTING are paced: four recorded at most, each 10 ms or more after the one before it, none in the
future, and while a settle window is open the history allows a start (R133, R134). -/
structure PaceHold (s : State) : Prop where
  four : s.port.history.length ≤ 4
  apart : s.port.history.Pairwise fun a b => a + Config.ms 10 ≤ b
  past : ∀ t ∈ s.port.history, t ≤ s.now
  window : s.budget.window.isSome = true → historyAllows s.now s.port.history = true

/-- Nothing is left to follow in the state: the own entry stands, no departure moves on and every changed record is
being written. -/
structure Quiet (s : State) : Prop where
  own : OwnEntry s
  still : s.st.state ≠ .departing
  seat : s.store.seat.changed = true → s.store.seat.writing ≠ none
  zoning : s.store.zoning.changed = true → s.store.zoning.writing ≠ none

/-! ## What a command leaves alone -/

/-- The link apart from its engine, its normal queue and held ROLLCALL contents. -/
structure LinkKept (s t : State) : Prop where
  rx : t.link.rx = s.link.rx
  counters : t.link.counters = s.link.counters
  hold : t.link.hold = s.link.hold
  guard : t.link.guard = s.link.guard
  idleFrom : t.link.idleFrom = s.link.idleFrom
  listenFrom : t.link.listenFrom = s.link.listenFrom
  ownUntil : t.link.ownUntil = s.link.ownUntil
  draws : t.draws = s.draws

/-- The thermal unit apart from the fan duty, with the rotor table and the sensed FAULT line. -/
structure SenseKept (s t : State) : Prop where
  readings : t.cool.readings = s.cool.readings
  hottest : t.cool.hottest = s.cool.hottest
  demand : t.cool.demand = s.cool.demand
  forced : t.cool.forced = s.cool.forced
  counts : t.cool.critCount = s.cool.critCount ∧ t.cool.clearCount = s.cool.clearCount ∧
    t.cool.shutCount = s.cool.shutCount
  thermal : t.cool.thermal = s.cool.thermal
  rotors : t.cool.rotors = s.cool.rotors
  timers : t.cool.sampleAt = s.cool.sampleAt ∧ t.cool.checkAt = s.cool.checkAt
  fault : t.view.faultLow = s.view.faultLow ∧ t.view.faultMeasure = s.view.faultMeasure ∧
    t.view.faultSet = s.view.faultSet

/-- The seat account apart from the asking. -/
structure SeatsKept (s t : State) : Prop where
  free : t.seat.free = s.seat.free
  bound : t.seat.bound = s.seat.bound
  escrow : t.seat.escrow = s.seat.escrow
  receipts : t.seat.receipts = s.seat.receipts
  next : t.seat.next = s.seat.next
  serial : t.seat.serial = s.seat.serial
  answers : t.seat.answers = s.seat.answers

/-- The module port apart from its notice queue and INT. -/
structure PortKept (s t : State) : Prop where
  slot : t.host.slot = s.host.slot
  cursor : t.host.cursor = s.host.cursor
  out : t.host.out = s.host.out

/-- What only its own commands change: the settings and straps, the active and draft sets, the generations, the
receipts and the serial. -/
structure DurableKept (s t : State) : Prop where
  settings : t.st.settings = s.st.settings
  straps : t.st.straps = s.st.straps
  active : t.zone.active = s.zone.active
  gen : t.zone.gen = s.zone.gen
  lastProposed : t.zone.lastProposed = s.zone.lastProposed
  draft : t.zone.draft = s.zone.draft
  receipts : t.seat.receipts = s.seat.receipts
  serial : t.seat.serial = s.seat.serial

/-- The link, the thermal unit, the module port and the durable items, each as its structure above says. -/
def Aside (s t : State) : Prop := LinkKept s t ∧ SenseKept s t ∧ PortKept s t ∧ DurableKept s t

/-- The supply state moved to `x` for a cause: outside GOOD the offer is 0, SUPPLY-STATE is raised where the notice
queue has room, and one SUPPLY-DROP joined the urgent queue if `drop` (R59, R103, R104). -/
structure SupplyMoved (s t : State) (x : SupplyState) (c : SupplyCause) (drop : Bool) : Prop where
  state : t.sup.state = x
  offer : x ≠ .good → t.budget.offer = 0
  urgent : t.link.urgent = s.link.urgent ++ (if drop then [.supplyDrop] else [])
  notice : s.host.notices.length < Config.noticeCap → ∃ n ∈ t.host.notices, n.kind = .supplyState ∧
    n.subject = (ownAddr s).val ∧ n.detail = b1 s.sup.state.code ++ b1 x.code ++ b1 c.code
  aside : Aside s t

/-- The events that the supply monitor judges the supply state by (R100, R101). -/
def supplyEvent : Instr → Bool
  | .inOkChange _ => true
  | .outOkChange _ => true
  | .earlyWarnChange _ => true
  | .outputLostExpire => true
  | .goodRunComplete => true
  | _ => false

/-- The entries of every other station. -/
def PeersKept (s t : State) : Prop := ∀ a, a ≠ ownAddr s → entryAt t a = entryAt s a

/-- The frames of a transmit queue other than its ROLLCALL, whose contents a later offer may replace (R29). -/
def withoutRollcall (l : List Msg) : List Msg := l.filter fun m => !isRollcall m

/-- The frame `m` at the head of queue `q`, ahead of `l`, has left it. In the normal queue frames may have joined
behind `l`, and a ROLLCALL's contents may have been replaced, in the same step; outside DEPARTING only the last segment
of a publish brings a frame with its end. The DEPART of a DEPARTED station leaves both queues empty. A HOLD's guard is
given its 5 ms (R24, R26, R29, R30, R38). -/
structure HeadGone (s t : State) (q : TxQueue) (m : Msg) (l : List Msg) : Prop where
  urgent : q = .urgent → (m = .depart → s.st.state ≠ .departed) → t.link.urgent = l
  normal : q = .normal → (m = .depart → s.st.state ≠ .departed) → ∃ new,
    withoutRollcall t.link.normal = withoutRollcall l ++ new ∧
      ((∀ g k es, m ≠ .zoneSeg g k es) → s.st.state ≠ .departing → new = [])
  other : (m = .depart → s.st.state ≠ .departed) →
    (q = .normal → t.link.urgent = s.link.urgent) ∧
      (q = .urgent → (∀ g k es, m ≠ .zoneSeg g k es) → s.st.state ≠ .departing →
        withoutRollcall t.link.normal = withoutRollcall s.link.normal)
  depart : m = .depart → s.st.state = .departed → t.link.urgent = [] ∧ t.link.normal = []
  guard : m.kind = .hold → s.link.guard = .armed → t.link.guard = .running (t.now + Config.ms 5)

/-- A zoning frame has been offered: it is in the normal queue or waits to be offered again; with none waiting before
it and room in the queue, it is in the queue (R146). -/
structure ZoneOffered (s t : State) (m : Msg) : Prop where
  either : m ∈ t.link.normal ∨ m ∈ t.zone.outbox
  queued : s.zone.outbox = [] → s.zone.resend = none → s.link.normal.length < Config.normalCap → m ∈ t.link.normal

/-- A set under way has ended at the station: the lock is FREE, nothing is staged, and the active set and its
generation stand (R150, R152, R153). -/
structure SetEnded (s t : State) : Prop where
  lock : t.zone.lock = .free
  staged : t.zone.staged = []
  active : t.zone.active = s.zone.active
  gen : t.zone.gen = s.zone.gen

/-- A set fails check 2 of R150: an entry with zone or identity 0, an entry out of order, or more than 128 zones, 64
members in a zone or 1024 entries. -/
def malformedSet (z : ZoneSet) : Prop :=
  (∃ e ∈ z, e.zone = 0 ∨ e.node = 0) ∨
    ¬ z.Pairwise (fun a b => a.zone < b.zone ∨ (a.zone = b.zone ∧ a.node < b.node)) ∨
    128 < (z.map (·.zone)).toFinset.card ∨ (∃ id, 64 < (z.filter fun e => e.zone = id).length) ∨ 1024 < z.length

/-- The demand that the entry at an address counts in a FAN station's target, the own one being the current demand
(R89). -/
def targetDemand (s : State) (a : Addr) : Nat :=
  if a = ownAddr s then s.cool.demand
  else match entryAt s a with
    | .empty => 0
    | .known .present _ f => f.demand
    | .known .lost _ f => f.demand
    | .known .gone _ _ => 0

/-- The failed rotors that the entry at an address counts in a FAN station's target (R89). -/
def targetRotors (s : State) (a : Addr) : Nat :=
  if a = ownAddr s then (s.cool.rotors.filter fun r => r.state = .failed).length
  else match entryAt s a with
    | .empty => 0
    | .known .present _ f => if f.role = .fan then f.failed.getD 0 else 0
    | .known .lost _ f => if f.role = .fan then f.failed.getD 0 else 0
    | .known .gone _ _ => 0

/-- The missing trays, 0 or 1, that the entry at an address counts in a FAN station's target (R89). -/
def targetMissing (s : State) (a : Addr) : Nat :=
  if a = ownAddr s then 0
  else match entryAt s a with
    | .empty => 0
    | .known .present _ _ => 0
    | .known .lost _ f => if f.role = .fan then 1 else 0
    | .known .gone _ f => if f.role = .fan then 1 else 0

/-- The demand that R82's table gives for a hottest temperature. -/
structure DemandIs (p : Settings) (forced : Bool) (hottest : Option Int) (d : Nat) : Prop where
  forcedOn : forced = true → d = 100
  invalid : forced = false → hottest = none → d = 100
  low : ∀ T, forced = false → hottest = some T → T ≤ p.tLow → d = 30
  high : ∀ T, forced = false → hottest = some T → p.tLow < T → p.tHigh ≤ T → d = 100
  between : ∀ T : Int, forced = false → hottest = some T → p.tLow < T → T < p.tHigh →
    (d : Int) = 30 + ⌈((70 * (T - p.tLow) : Int) : Rat) / ((p.tHigh - p.tLow : Int) : Rat)⌉

/-- W of R63: the tenths of a watt that the station's ports count, by port state. -/
def portTenths (s : State) : Nat :=
  (s.port.recs.map fun p => (p.req.map (·.draw)).getD 0 * match p.state with
    | .lighting => 3 | .lit => 1 | .dimming => 1 | .dark => 0 | .queued => 0 | .shed => 0).sum

/-- The effective values that the power budget unit reads at an address (R51, R57). -/
def effAt (s : State) (a : Addr) : Option Eff := ((budgetView s)[a.val]?).join

/-- The offer that the entry at an address brings to the usable capacity: a SUPPLY entry's, and 0 elsewhere (R60). -/
def suppliedAt (s : State) (a : Addr) : Nat :=
  match effAt s a with
  | none => 0
  | some x => if x.role = .supply then x.offer else 0

/-- The place of a role in the coverage order (R68). -/
def coverageClass : Role → Nat
  | .supervisor => 0 | .fan => 1 | .line => 2 | .supply => 3

/-- What the entry at an address adds to the running sum at the own entry: its claim, where it is ranked at or ahead of
the own entry, by class and then by address (R68). -/
def claimAhead (s : State) (a : Addr) : Nat :=
  match effAt s a with
  | none => 0
  | some x =>
    if x.role ≠ .supply ∧ (coverageClass x.role < coverageClass (role s) ∨
        (x.role = role s ∧ a.val ≤ (ownAddr s).val)) then x.claim else 0

/-- What the entry at an address adds to the first check's total: its claim and its increment, SUPPLY entries and the
own entry counting 0 (R73). -/
def claimAtFirst (s : State) (a : Addr) : Nat :=
  match effAt s a with
  | none => 0
  | some x => if a = ownAddr s ∨ x.role = .supply then 0 else x.claim + x.tent

/-- What the entry at an address adds to the re-check's total: its claim, and on a LINE entry with a lower address its
increment; the own entry counts 0 (R75). -/
def claimAtRecheck (s : State) (a : Addr) : Nat :=
  match effAt s a with
  | none => 0
  | some x =>
    if a = ownAddr s then 0
    else x.claim + if x.role = .line ∧ a.val < (ownAddr s).val then x.tent else 0

/-- A port's priority; 3 is the lowest (R129). -/
def Port.rank (p : Port) : Nat :=
  match p.req with
  | none => 0
  | some r => r.priority

/-- Port `m`, with record `p`, goes before port `n`, with record `q`, in shed order (R138). -/
def shedBefore (m : Nat) (p : Port) (n : Nat) (q : Port) : Prop := q.rank < p.rank ∨ (q.rank = p.rank ∧ n < m)

/-- The action waits for a write of the seat record (R119, R121, R112 to R114). -/
def Wait.ofSeats : Wait → Bool
  | .give _ => true
  | .ack _ _ _ _ => true
  | .reply => true
  | .zoneOpen _ => false
  | .commit => false

/-- What the station does on a line at its safe values, by role: every output low, the PWM outputs at full duty, and
every other line an input (R3, R5). -/
def safeLine (r : Role) (n : Fin 48) : LineDrive :=
  match r with
  | .line => .low
  | .supervisor => .input
  | .fan => if 8 ≤ n.val ∧ n.val < 12 then .duty 100 else .input
  | .supply => if n.val = 3 then .low else .input

/-! ## The module port's transactions -/

/-- A transaction that carries a command is judged: out of RESET, no command executing (R174). -/
def Judges (s : State) : Prop := s.st.state ≠ .reset ∧ ∀ g, s.host.slot ≠ .busy g

/-- The command was answered: the reply stands in the slot, and the status byte was shifted out. -/
def Replied (s t : State) (st : Status) (tag : Byte) (data : List Byte) : Prop :=
  t.host.slot = .reply { status := st, tag := tag, data := data } ∧ t.host.out = [statusByte s]

/-- The bytes after the code byte of a transaction that carries a command of known code. -/
def hostRest : Instr → Option (List Byte)
  | .set r => some r
  | .join r => some r
  | .depart r => some r
  | .linkRestart r => some r
  | .forgetPeer r => some r
  | .forceFans r => some r
  | .portRequest r => some r
  | .portCancel r => some r
  | .portRelease r => some r
  | .portAttach r => some r
  | .portDetach r => some r
  | .seatInstall r => some r
  | .seatWithdraw r => some r
  | .seatReclaim r => some r
  | .zoneDraftClear r => some r
  | .zoneDraftAdd r => some r
  | .zoneDraftRemove r => some r
  | .zonePublish r => some r
  | .readTable r => some r
  | .readNext r => some r
  | .readNotice r => some r
  | .readCounters r => some r
  | .readStatus r => some r
  | _ => none

/-- The payload length of each command of known code (section 12.6). -/
def hostLength : Instr → Option Nat
  | .set _ => some 3
  | .join _ => some 0
  | .depart _ => some 0
  | .linkRestart _ => some 0
  | .forgetPeer _ => some 1
  | .forceFans _ => some 1
  | .portRequest _ => some 4
  | .portCancel _ => some 1
  | .portRelease _ => some 1
  | .portAttach _ => some 9
  | .portDetach _ => some 1
  | .seatInstall _ => some 6
  | .seatWithdraw _ => some 2
  | .seatReclaim _ => some 4
  | .zoneDraftClear _ => some 0
  | .zoneDraftAdd _ => some 10
  | .zoneDraftRemove _ => some 10
  | .zonePublish _ => some 0
  | .readTable _ => some 3
  | .readNext _ => some 0
  | .readNotice _ => some 0
  | .readCounters _ => some 1
  | .readStatus _ => some 0
  | _ => none

/-- The next state a command gives, where it gives one. -/
def nextOf (o : Out) (s : State) : State :=
  match o with
  | .next t => t
  | .fault _ => s
  | .refused _ => s

end Sys2Proof.Machine
end

