-- ==== Sys2Proof/WellFormed.lean ====
section
/-! DEFINITION. Which command terms the hardware can present: the checks on the data a command carries from
outside. `exec` answers on every term; these say which of them stand for something real. -/

namespace Sys2Proof

/-- A run of `n` recessive bits stands in the activity. -/
def recessiveRun (n : Nat) : Nat → List Bool → Bool
  | run, [] => n ≤ run
  | run, b :: l => n ≤ run || recessiveRun n (if b then run + 1 else 0) l

/-- Line activity runs from its first dominant bit to its last, and holds no run of eight recessive bits, which
would have ended it (R19). -/
def goodActivity (bits : List Bool) : Bool :=
  bits.head? = some false && bits.getLast? = some false && !recessiveRun 8 0 bits

/-- The activity and its closing run do not end before the clock (R19). -/
def goodLead (bits : List Bool) (lead : Nat) : Bool := lead ≤ bits.length + 8

/-- Eight rotor-present inputs (R3). -/
def goodPresent (l : List Bool) : Bool := l.length = 8

/-- Eight tach counts, each giving a speed of at most 65535 rpm (R95). -/
def goodPulses (l : List Nat) : Bool := l.length = 8 && l.all fun n => n ≤ 2184

/-- A port number (R127). -/
def goodPort (n : Nat) : Bool := n < 48

/-- A transfer number that a give can carry (section 7.3). -/
def goodXfer (x : Nat) : Bool := 1 ≤ x && x < max32

/-- The codes of the command envelope, FETCH among them (section 12.6). -/
def commandCodes : List Byte :=
  [0x00, 0x01, 0x02, 0x03, 0x04, 0x05, 0x06, 0x10, 0x11, 0x12, 0x13, 0x14, 0x20, 0x21, 0x22,
   0x30, 0x31, 0x32, 0x33, 0x40, 0x41, 0x42, 0x43, 0x44]

/-- The first byte of the SPI transaction a host command stands for (section 12.6). -/
def Instr.hostCode : Instr → Option Byte
  | .fetch _ => some 0x00
  | .set _ => some 0x01
  | .join _ => some 0x02
  | .depart _ => some 0x03
  | .linkRestart _ => some 0x04
  | .forgetPeer _ => some 0x05
  | .forceFans _ => some 0x06
  | .portRequest _ => some 0x10
  | .portCancel _ => some 0x11
  | .portRelease _ => some 0x12
  | .portAttach _ => some 0x13
  | .portDetach _ => some 0x14
  | .seatInstall _ => some 0x20
  | .seatWithdraw _ => some 0x21
  | .seatReclaim _ => some 0x22
  | .zoneDraftClear _ => some 0x30
  | .zoneDraftAdd _ => some 0x31
  | .zoneDraftRemove _ => some 0x32
  | .zonePublish _ => some 0x33
  | .readTable _ => some 0x40
  | .readNext _ => some 0x41
  | .readNotice _ => some 0x42
  | .readCounters _ => some 0x43
  | .readStatus _ => some 0x44
  | .commandUnknown code _ => some code
  | _ => none

/-- The command term can stand for something real. -/
def Instr.wellFormed : Instr → Bool
  | .resetRelease p => goodPresent p.rotorPresent
  | .rotorCheck r => goodPresent r.present && goodPulses r.pulses
  | .lineActivityEnd bits lead => goodActivity bits && goodLead bits lead
  | .escrowTimerExpire x => goodXfer x
  | .lightingTimerExpire n => goodPort n
  | .dimmingTimerExpire n => goodPort n
  | .filterAck n => goodPort n
  | .commandUnknown code _ => code ∉ commandCodes
  | _ => true

end Sys2Proof
end

