-- ==== Sys2Proof/Certificates/Slice0/Obligations.lean ====
section
/-! DEFINITION. The statements for the provers. A statement that names an operation of the model (a shared
function such as `fanTarget`) takes that operation as the reading of the rule it cites. -/

open Sys2Proof Sys2Proof.Machine Sys2Proof.Config

/-! ## The machine as a whole -/

/-- A step runs the command at the front of the queue on the state with the queue's rest. The queue of commands is
the model's own (notes/assumptions/1.md). -/
def Obligations.StepRunsFrontCommand : Prop :=
  ∀ (c : Instr) (rest : List Instr) (s : State), s.pending = c :: rest →
    step s = exec c { s with pending := rest }

/-- Every invariant stated below holds while power-on reset is asserted. The straps, pins and store of that state
are the model's choice (notes/assumptions/3.md). -/
def Obligations.InvariantsHoldAtReset : Prop :=
  Capacity State.reset ∧ PinsHold State.reset ∧ OwnEntry State.reset ∧ SeatLimit State.reset ∧
    PortsAgree State.reset ∧ ZoneHold State.reset ∧ SupplyHold State.reset ∧ SettingsHold State.reset ∧
    PaceHold State.reset

/-- No queue and no counter outgrows its size: the transmit and receive queues, the activation and load queues, the
escrow list in the part and in its store, the notices and the link counters; and the normal queue holds one ROLLCALL
at most (R27 to R29, R36, R40, R119, R132, R163, R179). -/
def Obligations.CapacityKept : Prop := ∀ s t, PortsAgree s → Capacity s → step s = .next t → Capacity t

/-- READY, PWROFF and INT keep their promises, and a station in SHUTDOWN is departing or departed (R13, R14, R85,
R87, R180). -/
def Obligations.PinsKept : Prop := ∀ s t, PinsHold s → step s = .next t → PinsHold t

/-- The own entry, the claims, the FAULT pull and a FAN station's target follow their blocks in the same step (R44,
R54, R66, R74, R90). -/
def Obligations.OwnEntryKept : Prop := ∀ s t, OwnEntry s → step s = .next t → OwnEntry t

/-- At every station the owned count never exceeds 4096, resets included (R15, R16, R109). -/
def Obligations.SeatLimitKept : Prop := ∀ s t, SeatLimit s → step s = .next t → SeatLimit t

/-- Queue, port states and bound seats agree after every step (R111, R127, R132). -/
def Obligations.PortsAgreeKept : Prop := ∀ s t, PortsAgree s → step s = .next t → PortsAgree t

/-- The commit discipline of the zoning unit and its record is kept (R15, R143, R150, R152, R153). -/
def Obligations.ZoneHoldKept : Prop := ∀ s t, ZoneHold s → step s = .next t → ZoneHold t

/-- The active generation never falls, in the part or in its store, across every event and every reset (R143):
outside RESET a LINE or SUPERVISOR part holds the stored generation and a FAN or SUPPLY part 0, and the stored
generation of a step's end is at least that of its beginning. -/
def Obligations.GenerationNeverFalls : Prop :=
  ∀ s t, ZoneHold s → step s = .next t →
    storedGen s ≤ storedGen t ∧ (s.st.state ≠ .reset → s.zone.gen = heldGen s) ∧
      (t.st.state ≠ .reset → t.zone.gen = heldGen t)

/-- The supply monitor's offer, measures, overload and output enable keep their rules (R59, R100, R105, R107). -/
def Obligations.SupplyHoldKept : Prop := ∀ s t, SupplyHold s → step s = .next t → SupplyHold t

/-- Every setting stays within its range, and the thresholds stay apart (R7). -/
def Obligations.SettingsKept : Prop := ∀ s t, SettingsHold s → step s = .next t → SettingsHold t

/-- Starts stay paced: 10 ms or more between two, and 200 ms or more between a start and the fourth before it, so
that no 200 ms interval sees more than four (R133). -/
def Obligations.PaceKept : Prop :=
  ∀ s t, PaceHold s → step s = .next t → PaceHold t ∧
    ∀ a l x, s.port.history = a :: l → l.length = 3 → t.port.history = l ++ [x] → a + ms 200 ≤ x

/-- A receipt never falls but by a reset, which loads the stored ones (R16, R121). -/
def Obligations.ReceiptsNeverFall : Prop :=
  ∀ (c : Instr) (s t : State) (g : Addr), (∀ k, c ≠ .resetAssert k) → (∀ p, c ≠ .resetRelease p) →
    exec c s = .next t → s.seat.receipts[g] ≤ t.seat.receipts[g]

/-! ## Resets and pins -/

/-- RESET_ASSERT puts every block at its reset value and every module line at its safe value, keeps the complete
copies of the retained store and abandons the writes in flight (R3, R5, R15, R17). That a reset asserted within a
reset sets its own cause is the model's reading (notes/assumptions/28.md, DEDUCED); that the safe values are those of
the role held before the reset, that no departure step is held and that the waiting commands stand is the model's choice
(notes/assumptions/59.md, 65.md, 1.md). -/
def Obligations.ResetAssertClears : Prop :=
  ∀ (k : ResetKind) (s : State), ∃ t, exec (.resetAssert k) s = .next t ∧
    t.st.state = .reset ∧ t.st.resetCause = k ∧ t.st.ready = false ∧ t.st.pwroff = false ∧ t.st.pend = .none ∧
    t.st.clash = false ∧ t.st.joinTimer = none ∧ t.st.silence = none ∧ t.link = Link.clear ∧
    (∀ a, entryAt t a = .empty) ∧ t.view.pull = false ∧ t.view.faultSet = false ∧ t.view.period = none ∧
      t.budget.derate = 700 ∧ t.budget.offer = 0 ∧ t.budget.window = none ∧ t.budget.retry = none ∧
    t.cool.demand = 100 ∧ t.cool.duty = 100 ∧ t.cool.thermal = .normal ∧ t.cool.forced = false ∧
    t.cool.critCount = 0 ∧ t.cool.clearCount = 0 ∧ t.cool.shutCount = 0 ∧
    t.sup.enable = false ∧ t.sup.goodRun = .off ∧ t.seat.bound = 0 ∧ t.seat.phase = .idle ∧ t.seat.answers = [] ∧
    t.port.queue = [] ∧ t.port.history = [] ∧ (∀ p ∈ t.port.recs, p = Port.clear) ∧
    t.zone.lock = .free ∧ t.zone.draft = [] ∧ t.zone.staged = [] ∧ t.zone.commitPending = false ∧
    t.zone.outbox = [] ∧ t.filt.queue = [] ∧ t.filt.flight = none ∧ t.filt.sweep = false ∧
    t.dep.kind = .none ∧ t.dep.step = none ∧ t.dep.timer = none ∧
    t.host.slot = .idle ∧ t.host.cursor = none ∧ t.host.notices = [] ∧ t.host.overflow = 0 ∧ t.host.int = false ∧
    t.store.seat.a = s.store.seat.a ∧ t.store.seat.b = s.store.seat.b ∧ t.store.seat.writing = none ∧
    t.store.zoning.a = s.store.zoning.a ∧ t.store.zoning.b = s.store.zoning.b ∧ t.store.zoning.writing = none ∧
    (∀ n, lineDrive t n = safeLine s.st.straps.role n) ∧ t.pending = s.pending

/-- RESET_RELEASE samples the straps and the lines, sets the defaults, raises RESET-CAUSE and then STORE-BLANK for
each record without a complete copy, loads the store with every escrow entry SENDING and its tries and timer clear,
starts the FAULT, output-lost, sample and rotor-check measures, and enters SETUP with every module line at its safe
value (R1, R3, R6, R7, R16, R55, R80, R95, R97, R108, R126, R143). That the seat record's STORE-BLANK comes before
the zoning record's is the model's choice (notes/assumptions/69.md). -/
def Obligations.ResetReleaseEntersSetup : Prop :=
  ∀ (p : ReleasePins) (s : State), s.st.state = .reset → ∃ t, exec (.resetRelease p) s = .next t ∧
    t.st.state = .setup ∧ t.st.straps = p.straps ∧ t.st.settings = Settings.default p.straps.role ∧
    t.st.ejectOpen = p.ejectOpen ∧ t.st.ejectMeasure = none ∧ t.view.faultLow = p.faultLow ∧ t.now = 0 ∧
    t.view.faultSet = false ∧ t.view.faultMeasure = (if p.faultLow then some (ms 500) else none) ∧
    (t.host.notices.map fun n => (n.kind, n.subject, n.time, n.detail)) =
      (.resetCause, p.straps.slot.val, 0, b1 (ResetKind.code s.st.resetCause)) ::
        ((if s.store.seat.current.isNone then [(.storeBlank, p.straps.slot.val, 0, b1 0)] else []) ++
          (if s.store.zoning.current.isNone then [(.storeBlank, p.straps.slot.val, 0, b1 1)] else [])) ∧
    t.host.overflow = 0 ∧ t.host.int = true ∧
    t.seat.free = (s.store.seat.load SeatRecord.blank).freeCount ∧ t.seat.bound = 0 ∧
    t.seat.escrow = ((s.store.seat.load SeatRecord.blank).escrow.map fun e =>
      { xfer := e.xfer, rcpt := e.rcpt, count := e.count, ask := none, tries := 0, timer := none,
        unanswered := false, stranded := false }) ∧
    t.seat.receipts = (s.store.seat.load SeatRecord.blank).receipts ∧
    t.seat.next = (s.store.seat.load SeatRecord.blank).next ∧
    t.seat.serial = (s.store.seat.load SeatRecord.blank).serial ∧
    (p.straps.role = .line ∨ p.straps.role = .supervisor →
      t.zone.active = (s.store.zoning.load ZoneRecord.blank).active ∧
      t.zone.gen = (s.store.zoning.load ZoneRecord.blank).gen ∧
      t.zone.lastProposed = (s.store.zoning.load ZoneRecord.blank).lastProposed) ∧
    (p.straps.role = .fan ∨ p.straps.role = .supply → t.zone.active = [] ∧ t.zone.gen = 0) ∧ t.store = s.store ∧
    t.cool.sampleAt = some (ms 250) ∧ t.cool.duty = 100 ∧ t.cool.lastDuty = 0 ∧
    (p.straps.role = .fan → t.cool.checkAt = some (ms 1000)) ∧ t.cool.rotors.length = fittedRotors p.straps ∧
    (∀ (i : Nat) (r : Rotor), t.cool.rotors[i]? = some r → r.low = 0 ∧ r.good = 0 ∧
      (p.rotorPresent[i]? = some true → r.state = .ok) ∧ (p.rotorPresent[i]? = some false → r.state = .absent)) ∧
    (p.straps.role = .supply → t.sup.state = (if p.inOk then .starting else .absent) ∧ t.sup.enable = false ∧
      t.sup.inOk = p.inOk ∧ t.sup.outOk = p.outOk ∧ t.sup.earlyWarn = p.earlyWarn ∧ t.sup.outputLost = false ∧
      t.sup.lostMeasure = (if p.outOk then none else some (ms 5)) ∧ t.sup.goodRun = .off ∧ t.sup.loadCode = 0) ∧
    t.port.recs = List.replicate (fittedPorts p.straps) Port.clear ∧
    (∀ n, lineDrive t n = safeLine p.straps.role n)

/-- A change of the EJECT pin starts its 20 ms measure again (R14); a change of the sensed FAULT line starts the 500
ms measure toward the condition the line does not yet have, and stops it otherwise (R55). Of the module lines ML0 to
ML47, out of RESET, those that the held role gives an output function are driven as R3's table has it, and every other
line is an input (R3). -/
def Obligations.PinEdgesRestartMeasures : Prop :=
  ∀ (b : Bool) (s : State), s.st.state ≠ .reset →
    (s.st.ejectPin ≠ b → exec (.ejectPinChange b) s =
      .next { s with st.ejectPin := b, st.ejectMeasure := some (s.now + ms 20) }) ∧
    (s.view.faultLow ≠ b → exec (.faultLineChange b) s =
      .next { s with view.faultLow := b,
                     view.faultMeasure := if b = s.view.faultSet then none else some (s.now + ms 500) }) ∧
    (role s = .line → PortsAgree s → ∀ n : Fin 48,
      (lineDrive s n = .high ∨ lineDrive s n = .low) ∧ (lineDrive s n = .high ↔
        ∃ p, portAt s n.val = some p ∧ (p.state = .lighting ∨ p.state = .lit)) ∧
      (n.val < 24 + 8 * s.st.straps.cls.val → lineUse s.st.straps n = .portEnable n.val) ∧
      (24 + 8 * s.st.straps.cls.val ≤ n.val → lineUse s.st.straps n = .heldLow)) ∧
    (role s = .fan → ∀ n : Fin 48,
      (8 ≤ n.val ∧ n.val ≤ 11 → lineUse s.st.straps n = .pwm ∧ lineDrive s n = .duty s.cool.duty) ∧
      (n.val ≤ 7 → lineUse s.st.straps n = if n.val ≤ 3 ∨ s.st.straps.eightRotors then .tach n.val else .unused) ∧
      (12 ≤ n.val ∧ n.val ≤ 19 → lineUse s.st.straps n =
        if n.val ≤ 15 ∨ s.st.straps.eightRotors then .rotorPresent (n.val - 12) else .unused) ∧
      (20 ≤ n.val → lineUse s.st.straps n = .unused) ∧ (n.val ≤ 7 ∨ 12 ≤ n.val → lineDrive s n = .input)) ∧
    (role s = .supply → ∀ n : Fin 48,
      (n.val = 0 → lineUse s.st.straps n = .inOk) ∧ (n.val = 1 → lineUse s.st.straps n = .outOk) ∧
      (n.val = 2 → lineUse s.st.straps n = .earlyWarn) ∧
      (n.val = 3 → lineUse s.st.straps n = .outputEnable ∧ lineDrive s n = if s.sup.enable then .high else .low) ∧
      (4 ≤ n.val ∧ n.val ≤ 11 → lineUse s.st.straps n = .loadCode (n.val - 4)) ∧
      (12 ≤ n.val → lineUse s.st.straps n = .unused) ∧ (n.val ≠ 3 → lineDrive s n = .input)) ∧
    (role s = .supervisor → ∀ n : Fin 48, lineUse s.st.straps n = .unused ∧ lineDrive s n = .input)

/-- EJECT judged open departs an ACTIVE or ISOLATED station and marks a JOINING one; judged closed, it withdraws
that mark, and a DEPARTED station that is not in SHUTDOWN rejoins (R10, R13, R14). When the step ends is the model's
choice (notes/assumptions/2.md). -/
def Obligations.EjectJudged : Prop :=
  ∀ (s : State) (d : Nat), s.st.ejectMeasure = some d →
    (s.st.ejectPin = true → ∃ t, exec .ejectJudgedOpen s = .next t ∧ t.now = max s.now d ∧ Aside s t ∧
      t.st.ejectOpen = true ∧ t.st.ejectMeasure = none ∧
      (s.st.state = .active ∨ s.st.state = .isolated →
        (t.st.state = .departing ∨ t.st.state = .departed) ∧ t.dep.kind = .orderly) ∧
      (s.st.state = .joining → t.st.state = .joining ∧
        t.st.pend = if s.st.pend = .none then .eject else s.st.pend) ∧
      (s.st.state = .setup ∨ s.st.state = .departed → t.st.state = s.st.state)) ∧
    (s.st.ejectPin = false → ∃ t, exec .ejectJudgedClosed s = .next t ∧ t.now = max s.now d ∧ Aside s t ∧
      t.st.ejectOpen = false ∧ t.st.ejectMeasure = none ∧
      (s.st.state = .joining → t.st.state = .joining ∧
        t.st.pend = if s.st.pend = .eject then .none else s.st.pend) ∧
      (s.st.state = .departed → t.st.state =
        if s.cool.thermal = .shutdown then .departed else if s.st.clash then .isolated else .joining) ∧
      (s.st.state = .setup ∨ s.st.state = .active ∨ s.st.state = .isolated → t.st.state = s.st.state))

/-- The chassis fault condition becomes SET and CLEAR at the end of its measure; SET forces a FAN station to duty
100 (R55, R91). When the step ends is the model's choice (notes/assumptions/2.md), and so is that its notice comes
first in the step (notes/assumptions/69.md). -/
def Obligations.FaultConditionFollowsLine : Prop :=
  ∀ (s : State) (d : Nat), s.view.faultMeasure = some d →
    (s.view.faultLow = true → s.view.faultSet = false → ∃ t, exec .faultConditionSet s = .next t ∧
      t.now = max s.now d ∧ LinkKept s t ∧ PortKept s t ∧ DurableKept s t ∧ t.view.faultSet = true ∧
      t.view.faultMeasure = none ∧ t.view.faultLow = true ∧
      (role s = .fan → s.cool.forcing = false → t.cool.duty = 100 ∧ t.cool.forcing = true) ∧
      (s.host.notices.length < noticeCap → ∃ n ∈ t.host.notices, n.kind = .faultOn ∧ n.time = timeMs t.now)) ∧
    (s.view.faultLow = false → s.view.faultSet = true → ∃ t, exec .faultConditionClear s = .next t ∧
      t.now = max s.now d ∧ LinkKept s t ∧ PortKept s t ∧ DurableKept s t ∧ t.view.faultSet = false ∧
      t.view.faultMeasure = none ∧ t.view.faultLow = false ∧
      (role s = .fan → s.st.state = .active → s.cool.thermal ≠ .shutdown → t.cool.forcing = false) ∧
      (s.host.notices.length < noticeCap → ∃ n ∈ t.host.notices, n.kind = .faultOff ∧ n.time = timeMs t.now))

/-! ## Thermal unit, fans and rotors -/

/-- A sample sets the readings, the hottest, the demand by R82's table and the three counts by R84's, and the next
sample is 250 ms later; a SUPPLY station's derate, load and offer follow (R58, R59, R80 to R82, R84, R106). When the
step ends is the model's choice (notes/assumptions/2.md). -/
def Obligations.SampleSetsFigures : Prop :=
  ∀ (r : Sensors) (s : State) (d : Nat), s.st.state ≠ .reset → s.cool.sampleAt = some d →
    ∃ t, exec (.sensorSample r) s = .next t ∧ t.now = max s.now d ∧ t.cool.sampleAt = some (t.now + ms 250) ∧
      (∀ T : Int, (t.cool.readings.s0 = some T ↔ r.s0 = some T ∧ -40 ≤ T ∧ T ≤ 150) ∧
        (t.cool.readings.s1 = some T ↔ r.s1 = some T ∧ -40 ≤ T ∧ T ≤ 150) ∧
        (t.cool.readings.s2 = some T ↔ r.s2 = some T ∧ -40 ≤ T ∧ T ≤ 150) ∧
        (t.cool.readings.s3 = some T ↔ r.s3 = some T ∧ -40 ≤ T ∧ T ≤ 150)) ∧
      (∀ (l : List (Option Int)) (T : Int),
        l = [t.cool.readings.s0, t.cool.readings.s1, t.cool.readings.s2, t.cool.readings.s3] →
          (t.cool.hottest = some T ↔ some T ∈ l ∧ ∀ U, some U ∈ l → U ≤ T)) ∧ t.cool.sampled = true ∧
      (s.cool.forced = true → t.cool.demand = 100) ∧
      (s.cool.forced = false → t.cool.hottest = none → t.cool.demand = 100) ∧
      (t.cool.hottest = none → t.cool.critCount = min 8 (s.cool.critCount + 1) ∧ t.cool.clearCount = 0 ∧
        t.cool.shutCount = 0) ∧
      (∀ T : Int, t.cool.hottest = some T →
        (s.cool.forced = false → T ≤ s.st.settings.tLow → t.cool.demand = 30) ∧
        (s.cool.forced = false → s.st.settings.tLow < T → s.st.settings.tHigh ≤ T → t.cool.demand = 100) ∧
        (s.cool.forced = false → s.st.settings.tLow < T → T < s.st.settings.tHigh → (t.cool.demand : Int) = 30 +
          ⌈((70 * (T - s.st.settings.tLow) : Int) : Rat) / ((s.st.settings.tHigh - s.st.settings.tLow : Int) : Rat)⌉) ∧
        t.cool.critCount = (if s.st.settings.tCrit ≤ T then min 8 (s.cool.critCount + 1) else 0) ∧
        t.cool.clearCount = (if T ≤ s.st.settings.tCrit - 3 then min 8 (s.cool.clearCount + 1) else 0) ∧
        t.cool.shutCount = (if s.st.settings.tShut ≤ T then min 8 (s.cool.shutCount + 1) else 0)) ∧
      t.cool.rotors = s.cool.rotors ∧ PortKept s t ∧ DurableKept s t ∧ t.link.counters = s.link.counters ∧
      t.link.rx = s.link.rx ∧
      (role s = .supply → t.budget.derate = derateOf t.cool.hottest ∧ t.sup.loadCode = r.loadCode.toNat ∧
        t.budget.offer = offerOf (ratedOutput s.st.straps) t.budget.derate t.sup.state)

/-- The thermal state after a sample, by the state before it and the counts after it; SHUTDOWN entered departs the
station and, but on FAN, drives PWROFF; in DEPARTING an orderly departure becomes forced, and in one forced already the
10 ms wait for room runs on with no DEPART offered (R13, R85, R87, R172). -/
def Obligations.ThermalStateJudged : Prop :=
  ∀ (r : Sensors) (s t : State) (d : Nat), s.st.state ≠ .reset → s.cool.sampleAt = some d →
    exec (.sensorSample r) s = .next t →
      t.cool.thermal = (match s.cool.thermal with
        | .shutdown => Thermal.shutdown
        | .normal => if t.cool.critCount = 8 then (if t.cool.shutCount = 8 then .shutdown else .critical) else .normal
        | .critical => if t.cool.shutCount = 8 then .shutdown
            else if t.cool.clearCount = 8 then .normal else .critical) ∧
      (s.cool.thermal ≠ .shutdown → t.cool.thermal = .shutdown →
        (t.st.state = .departing ∨ t.st.state = .departed) ∧ (role s ≠ .fan → t.st.pwroff = true) ∧
        (s.st.state = .departing → s.dep.kind = .orderly → t.dep.kind = .forced ∧ t.dep.timer = none) ∧
        (s.st.state = .departing → s.dep.kind = .forced → s.dep.step = some .departWait → s.dep.retry ≠ none →
          t.st.state = .departing ∧ t.dep = s.dep ∧
            withoutRollcall t.link.normal = withoutRollcall s.link.normal))

/-- A check judges presence, then measures: an OK rotor that is present and not in a skip period is measured, and
its third consecutive low measurement makes it FAILED; a FAILED one recovers at its fifth consecutive good one; one
that is not present is ABSENT with speed 0; an ABSENT one that is present again is OK with a skip period of 3 s of its
own. From JOINING onward a check in which a rotor changes its state offers a ROLLCALL and restarts its period, be it that
another rotor's change leaves the failed-rotor count and the claim as they were (R41, R95 to R98). That every
measurement of a check is judged by the duty and the last duty change as they stood before it, and that a discarded one
leaves the measured speed, is the model's reading (notes/assumptions/20.md, DEDUCED, unsafe); when the step ends is the
model's choice (notes/assumptions/2.md). -/
def Obligations.RotorCheckJudges : Prop :=
  ∀ (r : RotorPins) (s : State) (d : Nat), role s = .fan → s.st.state ≠ .reset → s.cool.checkAt = some d →
    ∃ t, exec (.rotorCheck r) s = .next t ∧ t.now = max s.now d ∧ LinkKept s t ∧ PortKept s t ∧ DurableKept s t ∧
    t.cool.checkAt = some (t.now + ms 1000) ∧
      t.cool.rotors.length = s.cool.rotors.length ∧
      ((∃ (i : Nat) (x y : Rotor), s.cool.rotors[i]? = some x ∧ t.cool.rotors[i]? = some y ∧ x.state ≠ y.state) →
        sending s = true → s.st.state ≠ .departing → ownRecorded s ≠ none →
          t.view.period = some (t.now + ms 250) ∧
          (s.link.normal.length < normalCap → t.link.normal.any isRollcall = true)) ∧
      ∀ (i : Nat) (x : Rotor), s.cool.rotors[i]? = some x →
        let low : Prop := 30 * (r.pulses[i]?.getD 0) * 100 < ratedSpeed s.st.straps * s.cool.duty / 100 * 70
        ((r.present[i]?.getD false) = false → x.state ≠ .absent →
          t.cool.rotors[i]? = some { x with state := .absent, low := 0, good := 0, speed := 0 }) ∧
        ((r.present[i]?.getD false) = false → x.state = .absent → t.cool.rotors[i]? = some x) ∧
        ((r.present[i]?.getD false) = true → x.state = .absent → t.cool.rotors[i]? =
          some { x with state := .ok, low := 0, good := 0, skipEnd := some (t.now + ms 3000) }) ∧
        ((r.present[i]?.getD false) = true → x.state ≠ .absent → skipsRotor t.now s.cool.lastDuty x = true →
          t.cool.rotors[i]? = some x) ∧
        ((r.present[i]?.getD false) = true → x.state = .ok → skipsRotor t.now s.cool.lastDuty x = false → ¬ low →
          t.cool.rotors[i]? = some { x with low := 0, speed := 30 * (r.pulses[i]?.getD 0) }) ∧
        ((r.present[i]?.getD false) = true → x.state = .ok → skipsRotor t.now s.cool.lastDuty x = false → low →
          x.low < 2 → t.cool.rotors[i]? = some { x with low := x.low + 1, speed := 30 * (r.pulses[i]?.getD 0) }) ∧
        ((r.present[i]?.getD false) = true → x.state = .ok → skipsRotor t.now s.cool.lastDuty x = false → low →
          2 ≤ x.low → t.cool.rotors[i]? =
            some { x with state := .failed, low := 0, good := 0, speed := 30 * (r.pulses[i]?.getD 0) }) ∧
        ((r.present[i]?.getD false) = true → x.state = .failed → skipsRotor t.now s.cool.lastDuty x = false → low →
          t.cool.rotors[i]? = some { x with good := 0, speed := 30 * (r.pulses[i]?.getD 0) }) ∧
        ((r.present[i]?.getD false) = true → x.state = .failed → skipsRotor t.now s.cool.lastDuty x = false → ¬ low →
          x.good < 4 → t.cool.rotors[i]? = some { x with good := x.good + 1, speed := 30 * (r.pulses[i]?.getD 0) }) ∧
        ((r.present[i]?.getD false) = true → x.state = .failed → skipsRotor t.now s.cool.lastDuty x = false → ¬ low →
          4 ≤ x.good → t.cool.rotors[i]? =
            some { x with state := .ok, low := 0, good := 0, speed := 30 * (r.pulses[i]?.getD 0) })

/-- The fan target by R89's steps, from the own demand and rotors alone until JOIN; an unforced ramp follows a higher
target at once and waits 10 s before a lower one; at the end of HOLDING, and of each STEPPING interval, the duty falls
by up to 5 toward the target, and the next step is 2 s later while the target lies lower still (R89 to R94). That the own
failed rotors count before JOIN too, in the clause for `ownRecorded s = none`, is the model's reading and not R99's words
(notes/assumptions/21.md, DEDUCED, unsafe); when the step ends is the model's choice (notes/assumptions/2.md). -/
def Obligations.FanDutySteps : Prop :=
  (∀ s : State, ownRecorded s = none →
    fanTarget s = max 30 (min 100 (s.cool.demand + 10 * (s.cool.rotors.filter fun r => r.state = .failed).length))) ∧
  (∀ (s : State) (base : Nat), ownRecorded s ≠ none →
    ((∃ a h f, a ≠ ownAddr s ∧ entryAt s a = .known .lost h f ∧ f.role = .line) →
      base = max 80 (Finset.univ.sup (targetDemand s))) →
    ((¬ ∃ a h f, a ≠ ownAddr s ∧ entryAt s a = .known .lost h f ∧ f.role = .line) →
      base = Finset.univ.sup (targetDemand s)) →
    fanTarget s = max 30 (min 100 (base + 10 * ∑ a, targetRotors s a + 30 * ∑ a, targetMissing s a))) ∧
  (∀ s : State, role s = .fan → ∃ t, t = retarget s ∧ t.cool.target = fanTarget s ∧
    (s.cool.forcing = true → t.cool.duty = s.cool.duty ∧ t.cool.ramp = s.cool.ramp) ∧
    (s.cool.forcing = false → s.cool.duty < t.cool.target →
      t.cool.duty = t.cool.target ∧ t.cool.ramp = .steady ∧ t.cool.lastDuty = s.now) ∧
    (s.cool.forcing = false → t.cool.target = s.cool.duty →
      t.cool.duty = s.cool.duty ∧ t.cool.ramp = .steady ∧ t.cool.lastDuty = s.cool.lastDuty) ∧
    (s.cool.forcing = false → t.cool.target < s.cool.duty → t.cool.duty = s.cool.duty ∧
      t.cool.lastDuty = s.cool.lastDuty ∧
      t.cool.ramp = if s.cool.ramp = .steady then .holding (s.now + ms 10000) else s.cool.ramp)) ∧
  ∀ (s : State) (d : Nat), role s = .fan → s.st.state = .active → s.cool.forcing = false →
    s.cool.target = fanTarget s → s.cool.target < s.cool.duty →
    ∀ c : Instr, (c = .fanHoldExpire ∧ s.cool.ramp = .holding d) ∨ (c = .fanStepExpire ∧ s.cool.ramp = .stepping d) →
      ∃ t, exec c s = .next t ∧ t.now = max s.now d ∧
      t.cool.duty = s.cool.duty - min 5 (s.cool.duty - s.cool.target) ∧
        t.cool.target = s.cool.target ∧ t.cool.lastDuty = t.now ∧
        t.cool.ramp = (if s.cool.target < t.cool.duty then .stepping (t.now + ms 2000) else .steady) ∧
        t.cool.forcing = false ∧ SenseKept s t ∧ SeatsKept s t ∧ t.st = s.st ∧ t.zone = s.zone ∧ PortKept s t

/-! ## Power budget -/

/-- R58: the derate by temperature; INVALID until the first sample; recomputed at every sample. -/
def Obligations.DerateByTemperature : Prop :=
  derateOf none = 700 ∧ (∀ T : Int, T ≤ 40 → derateOf (some T) = 1000) ∧
    (∀ T : Int, 41 ≤ T → T ≤ 60 → (derateOf (some T) : Int) = 1000 - 15 * (T - 40)) ∧
    (∀ T : Int, 60 < T → derateOf (some T) = 700) ∧
    (∀ (p : ReleasePins) (s t : State), s.st.state = .reset → exec (.resetRelease p) s = .next t →
      t.cool.hottest = none) ∧
    (∀ (c : Instr) (s t : State), (∀ r, c ≠ .sensorSample r) → s.cool.hottest = none → exec c s = .next t →
      t.cool.hottest = none) ∧
    (∀ (r : Sensors) (s t : State) (d : Nat), s.st.state ≠ .reset → role s = .supply → s.cool.sampleAt = some d →
      exec (.sensorSample r) s = .next t →
        t.budget.derate = derateOf t.cool.hottest ∧
        (validReading r.s0 = none → validReading r.s1 = none → validReading r.s2 = none → validReading r.s3 = none →
          t.cool.hottest = none))

/-- R61: U' is U less its margin rounded up, and coverage, the first check and the re-check compare against it. -/
def Obligations.MarginedCapacity : Prop :=
  (∀ u : Nat, (marginedOf u : Int) = (u : Int) + ⌊-(3 * (u : Rat)) / 100⌋) ∧
    marginedOf 0 = 0 ∧ marginedOf 100 = 97 ∧ marginedOf 18000 = 17460 ∧
    (∀ s : State, (compute s).budget.margined = marginedOf (compute s).budget.usable ∧
      (role s ≠ .supply → ((compute s).budget.coverage = .covered ↔
        (compute s).budget.runSum ≤ (compute s).budget.margined))) ∧
    (∀ (s : State) (e : QEntry) (q : List QEntry), s.port.queue = e :: q → s.budget.window = none →
      (examineGates s).budget.window ≠ none →
        firstTotal (liveView s) (ownAddr s).val (prospective s e.port) ≤ s.budget.margined) ∧
    (∀ (s : State) (e : QEntry) (q : List QEntry), s.port.queue = e :: q →
      (recheck s).port.history ≠ s.port.history →
        recheckTotal (liveView s) (ownAddr s).val (prospective s e.port) ≤ s.budget.margined)

/-- R63 to R65: the steady claim of each role, and no increment on SUPPLY. -/
def Obligations.SteadyClaims : Prop :=
  ∀ s : State, OwnEntry s → PortsAgree s →
    (role s = .supervisor → s.budget.claim = s.st.settings.base) ∧
    (role s = .supply → s.budget.claim = 0 ∧ s.budget.tent = 0) ∧
    (role s = .line → (s.budget.claim : Int) = s.st.settings.base + ⌈(portTenths s : Rat) / 10⌉) ∧
    (role s = .fan → (s.budget.claim : Int) = 15 + (s.cool.rotors.filter fun r => r.state = .ok).length *
      ⌈((20 * (s.st.straps.cls.val + 1) * s.cool.duty ^ 3 : Nat) : Rat) / 1000000⌉)

/-- What a re-evaluation computes and sheds. The effective values by R51's table, of the held view for peers in
ISOLATED; usable capacity by R60's table; the running sum in rank order. Shedding takes the lowest priority first and
then the highest port number, one port at a time with the claim recomputed after each, and ends when the station is
COVERED or no port is in service; a COVERED station sheds nothing (R51, R56, R57, R60, R68, R70, R138). -/
def Obligations.PowerBudgetComputed : Prop :=
  (∀ (s : State) (a : Addr), s.budget.heldView = none → effAt s a = match entryAt s a with
    | .empty => none
    | .known .present _ f => some ⟨f.role, f.claim, f.tent, if f.role = .supply then f.offer else 0⟩
    | .known .lost _ f => if f.role = .supply then some ⟨.supply, 0, 0, 0⟩ else some ⟨f.role, f.claim, f.tent, 0⟩
    | .known .gone _ f => some ⟨f.role, 0, 0, 0⟩) ∧
  (∀ (s : State) (v : List (Option Eff)) (a : Addr), s.budget.heldView = some v → v.length = 32 →
    (a ≠ ownAddr s → effAt s a = (v[a.val]?).join) ∧
    (a = ownAddr s → effAt s a = effAt { s with budget.heldView := none } a)) ∧
  (∀ s : State, (budgetView s).length ≤ 32 →
    (compute s).budget.counted = (Finset.univ.filter fun a => 0 < suppliedAt s a).card ∧
    (s.st.straps.redund = .n →
      (compute s).budget.usable = ∑ a, suppliedAt s a ∧ (compute s).budget.redundant = true) ∧
    (s.st.straps.redund = .nPlusOne → 2 ≤ (compute s).budget.counted →
      (compute s).budget.usable + Finset.univ.sup (suppliedAt s) = ∑ a, suppliedAt s a ∧
        (compute s).budget.redundant = true) ∧
    (s.st.straps.redund = .nPlusOne → (compute s).budget.counted ≤ 1 →
      (compute s).budget.usable = ∑ a, suppliedAt s a ∧ (compute s).budget.redundant = false) ∧
    (role s = .supply → (compute s).budget.coverage = .none) ∧
    (role s ≠ .supply → (compute s).budget.runSum = ∑ a, claimAhead s a ∧
      (compute s).budget.coverage =
        if ∑ a, claimAhead s a ≤ (compute s).budget.margined then .covered else .uncovered)) ∧
  (∀ (s : State) (n : Nat), firstToShed s = some n ↔
    ∃ q, portAt s n = some q ∧ (q.state = .lighting ∨ q.state = .lit) ∧
      ∀ m p, portAt s m = some p → p.state = .lighting ∨ p.state = .lit → m ≠ n → shedBefore n q m p) ∧
  (∀ (s : State) (n : Nat) (p : Port), portAt s n = some p → p.state = .lighting ∨ p.state = .lit →
    (∃ p', portAt (shedPort n s) n = some p' ∧ p'.state = .shed ∧ p'.timer = none ∧ p'.req = p.req ∧
      p'.seat = p.seat ∧ p'.node = none) ∧
    (∀ m, m ≠ n → portAt (shedPort n s) m = portAt s m) ∧
    (shedPort n s).port.queue = { port := n, fresh := false } :: s.port.queue ∧
    (shedPort n s).port.history = s.port.history ∧ (shedPort n s).seat = s.seat ∧
    (p.filter.state = .queued → n ∉ (shedPort n s).filt.queue) ∧
    (s.host.notices.length < noticeCap → ∃ x ∈ (shedPort n s).host.notices, x.kind = .portShed ∧ x.subject = n ∧
      x.detail = (match p.req with | none => b1 0 ++ b1 0 | some r => b1 r.draw ++ b1 r.priority) ++
        b1 p.state.code)) ∧
  (∀ (k n : Nat) (s : State), s.budget.coverage = .uncovered → firstToShed s = some n →
    shedAll (k + 1) s = shedAll k (compute (refresh (shedPort n s)))) ∧
  ∀ s t : State, role s = .line → s.st.state = .active → t = reevaluate s →
    (t.budget.coverage = .covered ∨ ∀ n p, portAt t n = some p → p.state ≠ .lighting ∧ p.state ≠ .lit) ∧
    ((compute (refresh s)).budget.coverage ≠ .uncovered → t.port.recs = s.port.recs ∧ t.port.queue = s.port.queue) ∧
    ((compute (refresh s)).budget.coverage = .uncovered → ∀ n q, firstToShed s = some n →
      portAt t n = some q → q.state = .shed) ∧
    ∀ n m p q, portAt s n = some p → p.state = .lighting ∨ p.state = .lit → portAt s m = some q →
      q.state = .lighting ∨ q.state = .lit → shedBefore n p m q →
      (∃ q', portAt t m = some q' ∧ q'.state = .shed) → ∃ p', portAt t n = some p' ∧ p'.state = .shed

/-- The prospective claim is the own claim with the head's port counted at 3 × its draw; the first check adds to it every
other entry's claim and increment, SUPPLY entries counting 0, and the re-check every other entry's claim and the
increments of the LINE entries with lower addresses (R73, R75); that the re-check leaves no role's claim out is the
model's reading (notes/assumptions/34.md, DEDUCED, unsafe). When a settle window ends it is no longer open. A head that passes the re-check then is started: its entry leaves
the queue, its start is recorded, a fresh one's seat is bound, and its port is LIGHTING for 100 ms. A re-check whose
total is too large withdraws the increment and starts the retry timer with 100 ms; one that finds gate 2 or 4 shut
withdraws the increment and starts no timer; in both the head stays (R75, R76, R111, R133, R135). That the total is
tested before the gates is the model's choice (notes/assumptions/48.md), as is when the step ends
(notes/assumptions/2.md). -/
def Obligations.SettleWindowEnds : Prop :=
  (∀ (s : State) (n : Nat) (p : Port) (r : PortReq), role s = .line → portAt s n = some p →
    p.state = .queued ∨ p.state = .shed → p.req = some r →
    (prospective s n : Int) = s.st.settings.base + ⌈((portTenths s + 3 * r.draw : Nat) : Rat) / 10⌉) ∧
  (∀ (s : State) (d' : Nat), s.budget.heldView = none →
    firstTotal (liveView s) (ownAddr s).val d' = d' + ∑ a, claimAtFirst s a ∧
    recheckTotal (liveView s) (ownAddr s).val d' = d' + ∑ a, claimAtRecheck s a) ∧
  ∀ (s : State) (d : Nat), s.st.state = .active → s.budget.window = some d →
    ∃ t, exec .settleWindowExpire s = .next t ∧ t.now = max s.now d ∧ t.budget.window ≠ some d ∧
      t.st = s.st ∧ t.zone = s.zone ∧ LinkKept s t ∧ SenseKept s t ∧ PortKept s t ∧
      (∀ (u : State) (e : QEntry) (q : List QEntry), u = reevaluate (reach d s) → u.budget.window = some d →
        u.port.queue = e :: q → s.zone.lock ≠ .applying →
        recheckTotal (liveView u) (ownAddr u).val (prospective u e.port) ≤ u.budget.margined →
          (e.fresh = true → 0 < u.seat.free →
            t.port.history.getLast? = some t.now ∧ t.seat.free + 1 = u.seat.free ∧ t.seat.bound = u.seat.bound + 1) ∧
          (e.fresh = false → t.port.history.getLast? = some t.now ∧ t.seat.free = u.seat.free ∧
            t.seat.bound = u.seat.bound)) ∧
      (∀ (u : State) (e : QEntry) (q : List QEntry) (p : Port), u = reevaluate (reach d s) →
        u.budget.window = some d → u.port.queue = e :: q → s.zone.lock ≠ .applying → role s = .line →
        s.budget.heldView = none → (e.fresh = true → 0 < u.seat.free) → portAt u e.port = some p →
        recheckTotal (liveView u) (ownAddr u).val (prospective u e.port) ≤ u.budget.margined →
          t.budget.window = none ∧ t.budget.tent = 0 ∧ t.port.queue = q ∧
          ∃ p', portAt t e.port = some p' ∧ p'.state = .lighting ∧ p'.timer = some (t.now + ms 100) ∧
            p'.startAt = some t.now ∧ p'.seat = true ∧ p'.req = p.req) ∧
      (∀ (u : State) (e : QEntry) (q : List QEntry), u = reevaluate (reach d s) → u.budget.window = some d →
        u.port.queue = e :: q →
        (u.budget.margined < recheckTotal (liveView u) (ownAddr u).val (prospective u e.port) →
          t.budget.window = none ∧ t.budget.tent = 0 ∧ t.budget.retry = some (t.now + ms 100) ∧
            t.port.queue = e :: q ∧ t.port.history = s.port.history) ∧
        (recheckTotal (liveView u) (ownAddr u).val (prospective u e.port) ≤ u.budget.margined →
          s.zone.lock = .applying ∨ (e.fresh = true ∧ u.seat.free = 0) →
          t.budget.window = none ∧ t.budget.tent = 0 ∧ t.budget.retry = s.budget.retry ∧ t.port.queue = e :: q ∧
            t.port.history = s.port.history))

/-- At the end of the retry time, and at a history boundary, the gates of the head are examined: with all open and a
first check that passes, its total as SettleWindowEnds gives it, the settle window opens for 40 ms. The boundary is
passed once (R73, R74, R76, R133, R134).
When the step ends is the model's choice (notes/assumptions/2.md). -/
def Obligations.GatesExamined : Prop :=
  ∀ (s : State) (d : Nat) (c : Instr),
    (c = .retryTimerExpire ∧ s.budget.retry = some d) ∨
      (c = .historyBoundary ∧ s.port.boundary = some d) →
    ∃ t, exec c s = .next t ∧ t.now = max s.now d ∧ Aside s t ∧ (c = .retryTimerExpire → t.budget.retry = none) ∧
      (c = .historyBoundary → t.port.boundary = none) ∧
      (∀ (u : State) (e : QEntry) (q : List QEntry),
        u = (if c = .retryTimerExpire then { reach d s with budget.retry := none }
          else { reach d s with port.boundary := none }) →
        s.port.queue = e :: q → OwnEntry s → PortsAgree s → role s = .line → s.budget.heldView = none →
        s.budget.margined = marginedOf (usableOf s.st.straps.redund (countedOffers (liveView s))).1 →
        gatesOpen e u = true →
        firstTotal (liveView s) (ownAddr s).val (prospective s e.port) ≤ s.budget.margined →
          t.budget.window = some (t.now + ms 40) ∧ t.port.queue = s.port.queue)

/-! ## Supply stations -/

/-- The supply lines as they are read, and the two measures (R100). When the step ends is the model's choice
(notes/assumptions/2.md). -/
def Obligations.SupplyLinesRead : Prop :=
  ∀ s : State, role s = .supply → s.st.state ≠ .reset →
    (∀ b, s.sup.inOk ≠ b → ∃ t, exec (.inOkChange b) s = .next t ∧ t.sup.inOk = b ∧ t.sup.outOk = s.sup.outOk ∧
      t.sup.earlyWarn = s.sup.earlyWarn ∧ t.now = s.now ∧ Aside s t) ∧
    (∀ b, s.sup.outOk ≠ b → ∃ t, exec (.outOkChange b) s = .next t ∧ t.sup.outOk = b ∧ t.sup.inOk = s.sup.inOk ∧
      t.sup.lostMeasure = (if b then none else some (s.now + ms 5)) ∧ (b = true → t.sup.outputLost = false) ∧
      t.now = s.now ∧ Aside s t) ∧
    (∀ b, s.sup.earlyWarn ≠ b → ∃ t, exec (.earlyWarnChange b) s = .next t ∧ t.sup.earlyWarn = b ∧
      t.sup.inOk = s.sup.inOk ∧ t.sup.outOk = s.sup.outOk ∧ t.now = s.now ∧ Aside s t) ∧
    (∀ d, s.sup.lostMeasure = some d → ∃ t, exec .outputLostExpire s = .next t ∧ t.sup.lostMeasure = none ∧
      t.sup.outputLost = true ∧ t.now = max s.now d ∧ Aside s t) ∧
    (∀ d, s.sup.goodRun = .running d → s.st.state ≠ .departing → ∃ t, exec .goodRunComplete s = .next t ∧
      t.sup.goodRun = .complete ∧ t.now = max s.now d ∧ Aside s t)

/-- R101's table, while the output enable is high and the SHUTDOWN latch clear: each row's state, cause and
SUPPLY-DROP, and a GOOD supply's derated offer; an event not listed for a state leaves the state and offers nothing.
With the output enable low the state follows IN_OK alone; with the latch set no event moves it (R59, R101 to R104).
That SUPPLY-STATE comes first in the step is the model's choice (notes/assumptions/69.md). -/
def Obligations.SupplyStateMoves : Prop :=
  (∀ s : State, role s = .supply → s.sup.enable = true → s.cool.thermal ≠ .shutdown → sending s = true →
    s.st.state ≠ .departing → s.link.urgent.length < urgentCap →
    (s.sup.state = .absent → s.sup.inOk = false →
      ∃ t, exec (.inOkChange true) s = .next t ∧ SupplyMoved s t .starting .inputUp false) ∧
    (s.sup.state = .good ∨ s.sup.state = .starting → s.sup.earlyWarn = false →
      ∃ t, exec (.earlyWarnChange true) s = .next t ∧ SupplyMoved s t .warning .earlyWarn true) ∧
    (s.sup.state = .good → s.sup.inOk = true →
      ∃ t, exec (.inOkChange false) s = .next t ∧ SupplyMoved s t .warning .inputDown true) ∧
    (∀ d, s.sup.state = .good → s.sup.lostMeasure = some d →
      ∃ t, exec .outputLostExpire s = .next t ∧ SupplyMoved s t .failed .outputLost true) ∧
    (∀ d, s.sup.state = .warning → s.sup.inOk = true → s.sup.lostMeasure = some d →
      ∃ t, exec .outputLostExpire s = .next t ∧ SupplyMoved s t .failed .outputLost false) ∧
    (s.sup.state = .starting ∨ s.sup.state = .warning ∨ s.sup.state = .failed →
      (s.sup.inOk = true → s.sup.outputLost = true →
        ∃ t, exec (.inOkChange false) s = .next t ∧ SupplyMoved s t .absent .inputDown false) ∧
      (∀ d, s.sup.inOk = false → s.sup.lostMeasure = some d →
        ∃ t, exec .outputLostExpire s = .next t ∧ SupplyMoved s t .absent .inputDown false) ∧
      (∀ d, s.sup.goodRun = .running d → ∃ t, exec .goodRunComplete s = .next t ∧
        SupplyMoved s t .good .outputGood false ∧
        t.budget.offer = ratedOutput s.st.straps * s.budget.derate / 1000)) ∧
    (∀ c t, (c = .inOkChange true ∧ s.sup.state ≠ .absent) ∨ (c = .inOkChange false ∧ s.sup.state = .absent) ∨
        (c = .inOkChange false ∧ s.sup.state ≠ .good ∧ s.sup.outputLost = false) ∨
        (c = .earlyWarnChange true ∧ s.sup.state ≠ .good ∧ s.sup.state ≠ .starting) ∨ c = .earlyWarnChange false ∨
        (∃ b, c = .outOkChange b) ∨ (c = .outputLostExpire ∧ s.sup.state = .absent) ∨
        (c = .outputLostExpire ∧ s.sup.inOk = true ∧ (s.sup.state = .starting ∨ s.sup.state = .failed)) ∨
        (c = .goodRunComplete ∧ (s.sup.state = .good ∨ s.sup.state = .absent)) →
      exec c s = .next t → t.sup.state = s.sup.state ∧ t.link.urgent = s.link.urgent ∧ Aside s t)) ∧
  (∀ (s t : State) (c : Instr), role s = .supply → s.st.state ≠ .reset → s.st.state ≠ .departing →
    s.cool.thermal ≠ .shutdown → s.sup.enable = false → supplyEvent c = true → exec c s = .next t →
      t.sup.state = (if c = .inOkChange true ∧ s.sup.inOk = false then .starting
        else if c = .inOkChange false ∧ s.sup.inOk = true then .absent else s.sup.state) ∧
      t.link.urgent = s.link.urgent ∧ Aside s t) ∧
  (∀ (s t : State) (c : Instr), role s = .supply → s.st.state ≠ .departing → s.cool.thermal = .shutdown →
    supplyEvent c = true → exec c s = .next t →
      t.sup.state = s.sup.state ∧ t.sup.enable = s.sup.enable ∧ t.link.urgent = s.link.urgent ∧ Aside s t)

/-! ## Retained store -/

/-- A completed write makes its contents the record's current copy; then what waited for it takes place: the first
SEAT-GIVE of an entry, the SEAT-ACK of a give with its SEATS-RECEIVED, the OK of a host command, the ZONE-OPEN and
segments of a publish still under way, each into the normal queue where it has room, and a commit (R15, R119 to R121,
R146, R152, R153). -/
def Obligations.StoreWriteCompletes : Prop :=
  ∀ s : State,
    (∀ r, s.store.seat.writing = some r → ∃ t, exec (.storeWriteComplete .seat) s = .next t ∧
      t.store.seat.current.map (·.contents) = some r ∧ LinkKept s t ∧ SenseKept s t ∧
      (∀ g, Wait.reply ∈ s.store.seat.waiting → s.host.slot = .busy g →
        t.host.slot = .reply { status := .ok, tag := g, data := [] }) ∧
      (sending s = true → (∀ w ∈ s.store.seat.waiting, w.ofSeats = true) →
        s.link.normal.length + s.store.seat.waiting.length ≤ normalCap →
        (∀ x e, Wait.give x ∈ s.store.seat.waiting → escrowOf s x = some e → e.stranded = false →
          (∀ m ∈ s.link.normal, isGiveOf x m = false) → Msg.seatGive x e.rcpt e.ask e.count ∈ t.link.normal) ∧
        (∀ g x n fresh, Wait.ack g x n fresh ∈ s.store.seat.waiting → Msg.seatAck g x n ∈ t.link.normal)) ∧
      (∀ g x n, Wait.ack g x n true ∈ s.store.seat.waiting → (∀ w ∈ s.store.seat.waiting, w.ofSeats = true) →
        s.host.notices.length + s.store.seat.waiting.length ≤ noticeCap →
        ∃ y ∈ t.host.notices, y.kind = .seatsReceived ∧ y.subject = g.val ∧ y.detail = b4 x ++ b2 n)) ∧
    (∀ r, s.store.zoning.writing = some r → ∃ t, exec (.storeWriteComplete .zoning) s = .next t ∧
      t.store.zoning.current.map (·.contents) = some r ∧ LinkKept s t ∧ SenseKept s t ∧
      (∀ g, Wait.commit ∈ s.store.zoning.waiting → s.zone.commitPending = true → s.zone.proposed = some g →
        t.zone.active = s.zone.staged ∧ t.zone.gen = g ∧ t.zone.commitPending = false ∧ t.zone.staged = [] ∧
        (t.zone.lock = .applying ∨ t.zone.lock = .free)) ∧
      (∀ g, s.store.zoning.waiting = [.zoneOpen g] → sending s = true → s.st.state ≠ .departing →
        (s.zone.lock = .publishing → s.zone.proposed = some g → s.zone.resend = none → s.zone.outbox = [] →
          ∀ l, l = Msg.zoneOpen g (ceilDiv s.zone.staged.length 5) (setCheck s.zone.staged) ::
              (List.range (ceilDiv s.zone.staged.length 5)).map
                (fun k => Msg.zoneSeg g (k + 1) ((s.zone.staged.drop (5 * k)).take 5)) →
            t.zone.outbox = l.drop (normalCap - s.link.normal.length) ∧
            withoutRollcall t.link.normal =
              withoutRollcall s.link.normal ++ l.take (normalCap - s.link.normal.length) ∧
            t.zone.resend = if l.length ≤ normalCap - s.link.normal.length then none else some (t.now + ms 10)) ∧
        (¬ (s.zone.lock = .publishing ∧ s.zone.proposed = some g) →
          t.zone = s.zone ∧ withoutRollcall t.link.normal = withoutRollcall s.link.normal)))

/-! ## The peer link -/

/-- The first and the last dominant bit of activity go, and then the dominant bit after five recessive ones, each run of
recessive bits standing as it is; whole bytes are read most significant bit first, and a part-byte at the end is ignored;
so the line bits of a frame give its bytes. Fewer than 8 bytes are a runt, more than 64 a giant; a valid frame has the
delimiter, a destination of 0 to 31 or ALL, a source of 0 to 31, its payload's length and the check over destination to
payload, and all else is a bad check (R19, R21, R33); that a run of six or seven recessive bits has no stuff bit after it
is the model's reading (notes/assumptions/8.md, DEDUCED, unsafe). Activity that is no valid frame is counted by its
fault. Not judged is what ends while the station's own attempt
is on the line, what was on it when reception began, and what its own attempt left (R32, R33, R37, R40). That the
command gives the bits sent after its own step's beginning by `lead`, that what is left of a collision is told by an
end within the station's own attempt or jam or by another station's jam, and that the line counts as idle from the
last bit, is the model's choice (notes/assumptions/7.md), as is when the step ends (notes/assumptions/2.md). -/
def Obligations.LineErrorsCounted : Prop :=
  (∀ (m n : Nat) (body : List Bool), activityBytes (List.replicate m true ++ false :: (body ++ false ::
    List.replicate n true)) = bitsBytes (unstuff 0 body)) ∧
  (∀ bits : List Bool, (bits.filter fun b => !b).length ≤ 1 → activityBytes bits = []) ∧
  (∀ (k : Nat) (x : List Bool), unstuff 0 (List.replicate k true) = List.replicate k true ∧
    unstuff 0 (List.replicate k true ++ false :: x) =
      List.replicate k true ++ (if k = 5 then [] else [false]) ++ unstuff 0 x) ∧
  (∀ (l : List Byte) (part : List Bool), part.length < 8 →
    bitsBytes ((l.flatMap fun b => (List.range 8).map fun i => b.toNat.testBit (7 - i)) ++ part) = l) ∧
  (∀ l : List Byte, activityBytes (lineBits l) = l) ∧
  (∀ l : List Byte, crc16 l = (l.flatMap fun b => (List.range 8).map fun i => b.toNat.testBit (7 - i)).foldl
    (fun c b => if b = decide (32768 ≤ c) then 2 * c % 65536 else (2 * c % 65536) ^^^ 0x1021) 0xFFFF) ∧
  (∀ l : List Byte,
    (judgeActivity l = .runt ↔ l.length < 8) ∧ (judgeActivity l = .giant ↔ 64 < l.length) ∧
    (∀ dest src code payload, judgeActivity l = .valid dest src code payload ↔
      (dest < 32 ∨ dest = 0x3F) ∧ code < 256 ∧ payload.length ≤ 56 ∧ ∃ (c : List Byte) (hi lo : Byte),
        c = [BitVec.ofNat 8 dest, BitVec.ofNat 8 src.val, BitVec.ofNat 8 code, BitVec.ofNat 8 payload.length] ++ payload ∧
        l = [0xD5#8, 0x2B#8] ++ c ++ [hi, lo] ∧ 256 * hi.toNat + lo.toNat = crc16 c) ∧
    (judgeActivity l = .badCheck ↔ 8 ≤ l.length ∧ l.length ≤ 64 ∧
      ∀ dest src code payload, judgeActivity l ≠ .valid dest src code payload)) ∧
  ∀ (bits : List Bool) (lead : Nat) (s : State), receiving s = true →
    (discards bits lead s = false → ∃ t, exec (.lineActivityEnd bits lead) s = .next t ∧
      (judgeActivity (activityBytes bits) = .runt ∨ judgeActivity (activityBytes bits) = .giant ∨
        judgeActivity (activityBytes bits) = .badCheck →
        t.now = max s.now (s.now + (bits.length + 8 - lead)) ∧ t.link.idleFrom = t.now - 8 ∧
        t.link.rx = s.link.rx ∧ PeersKept s t ∧ SenseKept s t ∧ PortKept s t ∧ DurableKept s t) ∧
      (judgeActivity (activityBytes bits) = .runt →
        t.link.counters = { s.link.counters with runt := min 65535 (s.link.counters.runt + 1) }) ∧
      (judgeActivity (activityBytes bits) = .giant →
        t.link.counters = { s.link.counters with giant := min 65535 (s.link.counters.giant + 1) }) ∧
      (judgeActivity (activityBytes bits) = .badCheck →
        t.link.counters = { s.link.counters with badCheck := min 65535 (s.link.counters.badCheck + 1) })) ∧
    (discards bits lead s = true → exec (.lineActivityEnd bits lead) s =
      .next { s with now := max s.now (s.now + (bits.length + 8 - lead)),
                     link.idleFrom := max s.now (s.now + (bits.length + 8 - lead)) - 8 }) ∧
    (discards bits lead s = true ↔
      (∃ q start l, s.link.engine = .send q start l) ∨ (∃ q d, s.link.engine = .jam q d) ∨
      s.now < s.link.listenFrom + lead ∨
      ∃ e, s.link.ownUntil = some e ∧ (s.now + bits.length ≤ e + lead ∨
        (s.now < e + lead ∧ (∀ b ∈ bits.reverse.take 9, b = false) ∧
          ∀ dest src code payload, judgeActivity (activityBytes bits) ≠ .valid dest src code payload)))

/-- A valid frame of a peer, whatever its destination and kind, restarts the silence timer, armed if a peer is
PRESENT, refreshes its sender's age and brings an ISOLATED station without an address clash back to JOINING. One to
this station or to all, of known kind and good length, joins the receive queue, or is counted as an overrun with eight
there; of unknown kind or bad length, it is counted as such; to another station, it is not counted. A HOLD loads the
hold counter. The own address as source is a clash, reported once (R11, R12, R34 to R36, R39, R46). What is taken in,
and when a frame ends, is the model's choice (notes/assumptions/7.md, 2.md). -/
def Obligations.ValidFrameReceived : Prop :=
  ∀ (bits : List Bool) (lead : Nat) (s : State) (dest code : Nat) (src : Addr) (payload : List Byte),
    receiving s = true → discards bits lead s = false →
    judgeActivity (activityBytes bits) = .valid dest src code payload →
    (src ≠ ownAddr s → ∃ t, exec (.lineActivityEnd bits lead) s = .next t ∧
      t.now = max s.now (s.now + (bits.length + 8 - lead)) ∧
      t.st.silence = some (t.now + ms 2000) ∧
      (t.st.silenceArmed = true ↔ ∃ a h f, a ≠ ownAddr s ∧ entryAt s a = .known .present h f) ∧
      SenseKept s t ∧ PortKept s t ∧ DurableKept s t ∧
      (s.st.state = .isolated → s.st.clash = false → t.st.state = .joining) ∧
      (entryAt s src = .empty → entryAt t src = .empty) ∧
      (∀ p h f, entryAt s src = .known p h f → entryAt t src = .known p t.now f) ∧
      (∀ a, a ≠ ownAddr s → a ≠ src → entryAt t a = entryAt s a) ∧
      (dest ≠ (ownAddr s).val → dest ≠ 0x3F → t.link.rx = s.link.rx ∧ t.link.counters = s.link.counters) ∧
      (dest = (ownAddr s).val ∨ dest = 0x3F →
        ((∀ k, Kind.ofCode code = some k → lengthOk k payload = false) → t.link.rx = s.link.rx ∧
          t.link.counters = { s.link.counters with unknownKind := min 65535 (s.link.counters.unknownKind + 1) }) ∧
        (∀ k, Kind.ofCode code = some k → lengthOk k payload = true →
          (k ≠ .hold → s.link.rx.length < receiveCap →
            t.link.rx = s.link.rx ++ [{ src := src, kind := k, payload := payload }] ∧
            t.link.counters = { s.link.counters with received := min 65535 (s.link.counters.received + 1) }) ∧
          (k ≠ .hold → receiveCap ≤ s.link.rx.length → t.link.rx = s.link.rx ∧
            t.link.counters = { s.link.counters with overrun := min 65535 (s.link.counters.overrun + 1) }) ∧
          (k = .hold → t.link.rx = s.link.rx ∧ t.link.counters = { s.link.counters with
            received := min 65535 (s.link.counters.received + 1),
            holdsReceived := min 65535 (s.link.counters.holdsReceived + 1) }) ∧
          (k = .hold → 1 ≤ fieldAt payload 0 1 → fieldAt payload 0 1 ≤ 50 →
            t.link.hold = some (t.now - 8 + ms (fieldAt payload 0 1)))))) ∧
    (src = ownAddr s → ∃ t, exec (.lineActivityEnd bits lead) s = .next t ∧
      t.st.clash = true ∧ t.st.silence = s.st.silence ∧ SenseKept s t ∧ PortKept s t ∧ DurableKept s t ∧
      PeersKept s t ∧ t.link.rx = s.link.rx ∧ t.link.counters = s.link.counters ∧
      (s.st.clash = false →
        (s.st.state = .joining ∨ s.st.state = .active → t.st.state = .isolated) ∧
        (s.host.notices.length + 1 < noticeCap →
          ∃ n ∈ t.host.notices, n.kind = .addressClash ∧ n.subject = (ownAddr s).val)) ∧
      (s.st.clash = true ∨ s.st.state = .isolated ∨ s.st.state = .departed → s.st.state ≠ .departing →
        t.st.state = s.st.state))

/-- The frame in DEFER goes to the line 24 bit times after it fell idle; a dominant level sensed at a recessive bit
that the engine drives is a collision, counted in the link and for the frame, and starts the 8 bit times of the jam;
at a dominant bit, and past the frame's end, there is none (R23 to R25, R40). That TX_COLLISION is sensed at the bit
which the clock has reached, and falls at that bit's end, is the model's choice (notes/assumptions/67.md), and so is
when the other step ends (notes/assumptions/2.md). -/
def Obligations.TransmitPhases : Prop :=
  ∀ (s : State) (q : TxQueue),
    (∀ m l, s.link.engine = .defer q → queueOf q s.link = m :: l → exec .txGapComplete s =
      .next { s with now := max s.now (s.link.idleFrom + 24),
                     link.engine := .send q (max s.now (s.link.idleFrom + 24)) (lineBits (m.frame (ownAddr s))) }) ∧
    (∀ start bits, s.link.engine = .send q start bits →
      s.now < start ∨ (∃ bit, s.now = start + bit ∧ bits[bit]? ≠ some true) → exec .txCollision s = .next s) ∧
    (∀ start bits bit, s.link.engine = .send q start bits → s.now = start + bit → bits[bit]? = some true →
      ∃ l, exec .txCollision s = .next { s with now := start + bit + 1, link := l } ∧
      l.engine = .jam (some q) (start + bit + 1 + 8) ∧
      l.counters = { s.link.counters with collisions := min 65535 (s.link.counters.collisions + 1) } ∧
      attemptOf q l = { attemptOf q s.link with collisions := (attemptOf q s.link).collisions + 1 } ∧
      (∀ r, r ≠ q → attemptOf r l = attemptOf r s.link) ∧ (∀ r, queueOf r l = queueOf r s.link) ∧
      l.held = s.link.held ∧ l.rx = s.link.rx ∧ l.hold = s.link.hold ∧ l.guard = s.link.guard ∧
      l.idleFrom = s.link.idleFrom ∧ l.listenFrom = s.link.listenFrom ∧ l.ownUntil = s.link.ownUntil)

/-- At the end of the jam a frame of fewer than 16 collisions waits k slot times of 64 bit times, k below 2^min(n,
8), whatever number is drawn; at the sixteenth it leaves its queue, is dropped and counted, and a HOLD's guard is given
5 ms. A frame that LINK-RESTART discarded leaves the engine free (R24 to R26, R31, R38). When the step ends is the
model's choice (notes/assumptions/2.md), and so is that in DEPARTED the first of two queued DEPARTs empties the queues
(notes/assumptions/76.md). -/
def Obligations.JamEndBacksOffOrDrops : Prop :=
  ∀ (s : State) (d : Nat),
    (∀ q, s.link.engine = .jam (some q) d → (attemptOf q s.link).collisions < 16 →
      ∃ t, exec .jamEnd s = .next t ∧ t.now = max s.now d ∧ SenseKept s t ∧ PortKept s t ∧ DurableKept s t ∧
      t.draws = s.draws + 1 ∧ t.link.idleFrom = t.now ∧
        (attemptOf q t.link).collisions = (attemptOf q s.link).collisions ∧
        (∃ k, k < 2 ^ min (attemptOf q s.link).collisions 8 ∧
          (attemptOf q t.link).backoff = if k = 0 then none else some (t.now + 64 * k)) ∧
        t.link.counters = s.link.counters) ∧
    (∀ q m l, s.link.engine = .jam (some q) d → 16 ≤ (attemptOf q s.link).collisions → queueOf q s.link = m :: l →
      ∃ t, exec .jamEnd s = .next t ∧ t.now = max s.now d ∧ SenseKept s t ∧ PortKept s t ∧ DurableKept s t ∧
      t.draws = s.draws ∧
        t.link.counters = { s.link.counters with drops := min 65535 (s.link.counters.drops + 1) } ∧
        (attemptOf q t.link).collisions = 0 ∧ HeadGone s t q m l ∧
        (s.st.state = .joining ∨ s.st.state = .active →
          if 3 ≤ s.st.drops + 1 then t.st.state = .isolated ∧ t.st.drops = 0 else t.st.drops = s.st.drops + 1)) ∧
    (s.link.engine = .jam none d → ∃ t, exec .jamEnd s = .next t ∧ t.now = max s.now d ∧ SenseKept s t ∧
      PortKept s t ∧ DurableKept s t ∧
      t.link.idleFrom = t.now ∧ t.link.counters = s.link.counters ∧ ∀ q e, t.link.engine ≠ .jam q e)

/-- A frame sent whole is counted, leaves its queue and ends the run of drops; a HOLD gives its guard 5 ms, and a
SEAT-GIVE starts its entry's timer (R11, R24, R38, R40, R120). When the step ends is the model's choice
(notes/assumptions/2.md), and so is that in DEPARTED the first of two queued DEPARTs empties the queues
(notes/assumptions/76.md). -/
def Obligations.FrameSent : Prop :=
  ∀ (s : State) (q : TxQueue) (start : Nat) (bits : List Bool) (m : Msg) (l : List Msg),
    s.link.engine = .send q start bits → queueOf q s.link = m :: l →
    ∃ t, exec .txFrameComplete s = .next t ∧ t.now = max s.now (start + bits.length) ∧ t.link.idleFrom = t.now ∧
      t.st.drops = 0 ∧ t.link.rx = s.link.rx ∧ PeersKept s t ∧ SenseKept s t ∧ PortKept s t ∧ DurableKept s t ∧
      t.link.counters = { s.link.counters with
        sent := min 65535 (s.link.counters.sent + 1),
        holdsSent := if m.kind = .hold then min 65535 (s.link.counters.holdsSent + 1)
          else s.link.counters.holdsSent } ∧
      HeadGone s t q m l ∧
      (∀ x rcpt a n e, m = .seatGive x rcpt a n → sending s = true → s.st.state ≠ .departing →
        escrowOf s x = some e → e.stranded = false →
        escrowOf t x = some { e with timer := some (t.now + ms (if e.tries < 8 then 100 else 2000)) })

/-- The ends of a backoff wait, of the hold counter's count and of the hold guard (R22, R25, R38, R39). When the
step ends is the model's choice (notes/assumptions/2.md). -/
def Obligations.LinkTimersEnd : Prop :=
  ∀ (s : State) (d : Nat),
    (∀ q, (attemptOf q s.link).backoff = some d → ∃ t, exec (.backoffExpire q) s = .next t ∧ t.now = max s.now d ∧
      SenseKept s t ∧ PortKept s t ∧ DurableKept s t ∧
      (attemptOf q t.link).backoff = none ∧
      (attemptOf q t.link).collisions = (attemptOf q s.link).collisions ∧ t.link.counters = s.link.counters) ∧
    (s.link.hold = some d → ∃ t, exec .holdCounterExpire s = .next t ∧ t.now = max s.now d ∧ SenseKept s t ∧
      PortKept s t ∧ DurableKept s t ∧ t.link.hold = none ∧
      t.link.counters = s.link.counters) ∧
    (s.link.guard = .running d → ∃ t, exec .holdGuardExpire s = .next t ∧ t.now = max s.now d ∧ SenseKept s t ∧
      PortKept s t ∧ DurableKept s t ∧
      t.link.counters = s.link.counters ∧ t.link.rx = s.link.rx ∧
      (s.link.rx.length < holdLevel → t.link.guard = .clear ∧ t.link.urgent = s.link.urgent) ∧
      (holdLevel ≤ s.link.rx.length → sending s = true → s.link.urgent.length < urgentCap →
        t.link.guard = .armed ∧ t.link.urgent = s.link.urgent ++ [.hold 5]) ∧
      (holdLevel ≤ s.link.rx.length → sending s = true → urgentCap ≤ s.link.urgent.length →
        t.link.guard = .running (t.now + ms 5) ∧ t.link.urgent = s.link.urgent) ∧
      (sending s = false → t.link.guard = .clear ∧ t.link.urgent = s.link.urgent))

/-! ## Frames taken from the receive queue -/

/-- ROLLCALL, SUPPLY-DROP and DEPART act on their sender's entry and on no other peer's. A ROLLCALL is discarded exactly
when a field is outside its range of R42 (a reserved flag bit set among them), a FAN-only or SUPPLY-only field is not NONE
on another role or NONE on its own, or its form does not match its lock; else what is recorded is what its bytes carry
(R42, R45, R47, R48). That a non-zero offer of a station that is no SUPPLY, and a generation or lock of a FAN or SUPPLY
sender, are judged by their ranges alone is the model's reading (notes/assumptions/26.md, 47.md, DEDUCED, unsafe). -/
def Obligations.ViewFramesTaken : Prop :=
  (∀ p : List Byte, p.length = 23 ∨ p.length = 28 → (Roll.read p = none ↔
    fieldAt p 0 1 < 2 ∨ 5 < fieldAt p 0 1 ∨ 3 < fieldAt p 1 1 ∨ 2 < fieldAt p 2 1 ∨ 4 ≤ fieldAt p 3 1 ∨
    (fieldAt p 4 2 ≠ 0x8000 ∧ 150 < fieldAt p 4 2 ∧ fieldAt p 4 2 < 65536 - 40) ∨
    fieldAt p 6 1 < 30 ∨ 100 < fieldAt p 6 1 ∨
    (fieldAt p 1 1 = 2 ∧ (fieldAt p 7 1 < 30 ∨ 100 < fieldAt p 7 1 ∨ 8 < fieldAt p 8 1)) ∨
    (fieldAt p 1 1 ≠ 2 ∧ (fieldAt p 7 1 ≠ 0xFF ∨ fieldAt p 8 1 ≠ 0xFF)) ∨
    (fieldAt p 1 1 = 3 ∧ 4 < fieldAt p 9 1) ∨ (fieldAt p 1 1 ≠ 3 ∧ fieldAt p 9 1 ≠ 0xFF) ∨
    2700 < fieldAt p 10 2 ∨ 2700 < fieldAt p 12 2 ∨ 3000 < fieldAt p 14 2 ∨ 4096 < fieldAt p 16 2 ∨
    5 < fieldAt p 22 1 ∨ (p.length = 23 ∧ fieldAt p 22 1 ≠ 0) ∨ (p.length = 28 ∧ fieldAt p 22 1 = 0) ∨
    (p.length = 28 ∧ (31 < fieldAt p 23 1 ∨ fieldAt p 24 4 = 0)))) ∧
  (∀ (p : List Byte) (g : Roll), p.length = 23 ∨ p.length = 28 → Roll.read p = some g → g.bytes = p) ∧
  ∀ (s : State) (f : RxFrame) (l : List RxFrame), s.link.rx = f :: l → f.src ≠ ownAddr s →
    (f.kind = .rollcall → ∃ t, exec .rollcallTaken s = .next t ∧ t.link.rx = l ∧ SenseKept s t ∧ PortKept s t ∧
      DurableKept s t ∧
      (∀ a, a ≠ ownAddr s → a ≠ f.src → entryAt t a = entryAt s a) ∧
      (Roll.read f.payload = none → entryAt t f.src = entryAt s f.src) ∧
      (∀ g, Roll.read f.payload = some g → ∃ h, entryAt t f.src = .known .present h g ∧
        ∀ p h' g', entryAt s f.src = .known p h' g' → h = h')) ∧
    (f.kind = .supplyDrop → ∃ t, exec .supplyDropTaken s = .next t ∧ t.link.rx = l ∧ SenseKept s t ∧ PortKept s t ∧
      DurableKept s t ∧
      (∀ a, a ≠ ownAddr s → a ≠ f.src → entryAt t a = entryAt s a) ∧
      (entryAt s f.src = .empty → entryAt t f.src = .empty) ∧
      (∀ p h g, entryAt s f.src = .known p h g → entryAt t f.src =
        if g.role = .supply then .known p h { g with offer := 0, supply := some .warning } else .known p h g)) ∧
    (f.kind = .depart → ∃ t, exec .departTaken s = .next t ∧ t.link.rx = l ∧ SenseKept s t ∧ PortKept s t ∧
      DurableKept s t ∧
      (∀ a, a ≠ ownAddr s → a ≠ f.src → entryAt t a = entryAt s a) ∧
      (entryAt s f.src = .empty → entryAt t f.src = .empty) ∧
      (∀ p h g, entryAt s f.src = .known p h g → entryAt t f.src = .known .gone h g))

/-- SEAT-ASK makes a pending answer at a station that can give, with a delay of 2 ms times the address of a SUPERVISOR
and 100 ms and 4 ms times the address of a LINE station, and is discarded otherwise; a SEAT-GIVE heard counts once
toward the answer it serves. At its recipient it is accepted when its number is greater than the receipt and the seats
fit, refused when they do not fit, and otherwise answered with a repeat SEAT-ACK and no seats: that the repeat waits
for the write in flight that carries the receipt, and for the next where the receipt is neither stored nor being
written, is log entry 19 (DEDUCED). SEAT-ACK removes the entry it matches (R117, R118, R121 to R123). -/
def Obligations.SeatFramesTaken : Prop :=
  ∀ (s : State) (f : RxFrame) (l : List RxFrame), s.link.rx = f :: l → sending s = true →
    (∀ ask n, f.kind = .seatAsk → readAsk f.payload = some (ask, n) → ∃ t, exec .seatAskTaken s = .next t ∧
      t.link.rx = l ∧ SenseKept s t ∧ PortKept s t ∧
      (s.st.state ≠ .departing → t.seat.free = s.seat.free ∧
        ((s.st.state = .active ∧ 0 < giveable s ∧ presentAs s f.src .line = true ∧
            ∀ e ∈ s.seat.escrow, e.rcpt ≠ f.src) →
          t.seat.answers = (s.seat.answers.filter fun a => a.asker ≠ f.src) ++
            [{ asker := f.src, ask := ask, count := n, seen := 0, gives := [],
               ends := s.now + (if role s = .supervisor then ms (2 * (ownAddr s).val)
                 else ms (100 + 4 * (ownAddr s).val)) }]) ∧
        ((s.st.state ≠ .active ∨ giveable s = 0 ∨ presentAs s f.src .line = false ∨
            ∃ e ∈ s.seat.escrow, e.rcpt = f.src) → t.seat.answers = s.seat.answers))) ∧
    (∀ g, f.kind = .seatGive → readGive f.payload = some g → g.rcpt ≠ f.src → s.st.state ≠ .departing →
      ∃ t, exec .seatGiveTaken s = .next t ∧ t.link.rx = l ∧
        t.seat.answers = (s.seat.answers.map fun a =>
          if a.asker = g.rcpt ∧ g.ask = some a.ask ∧ (f.src, g.xfer) ∉ a.gives then
            { a with seen := a.seen + g.count, gives := a.gives ++ [(f.src, g.xfer)] } else a)) ∧
    (∀ g, f.kind = .seatGive → readGive f.payload = some g → g.rcpt = ownAddr s → f.src ≠ ownAddr s →
      ∃ t, exec .seatGiveTaken s = .next t ∧ t.link.rx = l ∧ SenseKept s t ∧ PortKept s t ∧
        (s.seat.receipts[f.src] < g.xfer → owned s + g.count ≤ 4096 →
          t.seat.receipts = s.seat.receipts.set f.src g.xfer ∧
          (s.st.state ≠ .departing → t.seat.free = s.seat.free + g.count) ∧
          Wait.ack f.src g.xfer g.count true ∈ t.store.seat.waiting ++ t.store.seat.waitingNext) ∧
        (s.seat.receipts[f.src] < g.xfer → 4096 < owned s + g.count →
          t.seat.receipts = s.seat.receipts ∧ (s.st.state ≠ .departing → t.seat.free = s.seat.free) ∧
          (s.host.notices.length < noticeCap →
            ∃ n ∈ t.host.notices, n.kind = .seatsRefused ∧ n.subject = f.src.val)) ∧
        (g.xfer ≤ s.seat.receipts[f.src] →
          t.seat.receipts = s.seat.receipts ∧ (s.st.state ≠ .departing → t.seat.free = s.seat.free) ∧
          ((∃ r, s.store.seat.writing = some r ∧ r.receipts[f.src] = s.seat.receipts[f.src]) →
            Wait.ack f.src g.xfer g.count false ∈ t.store.seat.waiting) ∧
          ((∀ r, s.store.seat.writing = some r → r.receipts[f.src] ≠ s.seat.receipts[f.src]) →
            ((∃ c, s.store.seat.current = some c ∧ c.contents.receipts[f.src] = s.seat.receipts[f.src]) →
              s.link.normal.length < normalCap → Msg.seatAck f.src g.xfer g.count ∈ t.link.normal) ∧
            ((∀ c, s.store.seat.current = some c → c.contents.receipts[f.src] ≠ s.seat.receipts[f.src]) →
              0 < g.xfer →
              Wait.ack f.src g.xfer g.count false ∈ t.store.seat.waiting ++ t.store.seat.waitingNext)))) ∧
    (∀ x n e, f.kind = .seatAck → readAck f.payload = some (x, n) → escrowOf s x = some e → e.rcpt = f.src →
      ∃ t, exec .seatAckTaken s = .next t ∧ t.link.rx = l ∧ SenseKept s t ∧ PortKept s t ∧
      t.seat.receipts = s.seat.receipts ∧
        (s.st.state ≠ .departing → escrowOf t x = none ∧ t.seat.free = s.seat.free ∧
          t.seat.bound = s.seat.bound ∧ ∀ y, y ≠ x → escrowOf t y = escrowOf s y))

/-- The five zoning frames at a LINE or SUPERVISOR station outside DEPARTING. An opening is received from FREE, and
from its own originator's set, is refused when its fields are out of range, and is answered BUSY otherwise; a segment
before the last is staged, one out of turn is refused INCOMPLETE, and the last brings the checks of R150 in their order
and their vote; a refusal ends the originator's set in PUBLISHING and in COLLECTING, a READY is recorded, and the last
READY in COLLECTING begins the commit; a READY receiver takes its originator's commit and abandon (R148 to R153). -/
def Obligations.ZoneFramesTaken : Prop :=
  ∀ (s : State) (f : RxFrame) (l : List RxFrame), s.link.rx = f :: l → takesZoning s = true →
    s.st.state ≠ .departing → s.zone.commitPending = false →
    (f.kind = .zoneOpen → ∃ t, exec .zoneOpenTaken s = .next t ∧ t.link.rx = l ∧ t.st = s.st ∧
      SeatsKept s t ∧ SenseKept s t ∧ PortKept s t ∧
      (1 ≤ fieldAt f.payload 4 1 → fieldAt f.payload 4 1 ≤ 205 → fieldAt f.payload 0 4 ≠ 0 →
        (s.zone.lock = .free → t.zone = { s.zone with
          staged := [], lock := .receiving, origin := some f.src, proposed := some (fieldAt f.payload 0 4),
          segCount := fieldAt f.payload 4 1, received := 0, check := fieldAt f.payload 5 4, shortSeg := false,
          segTimer := some (s.now + ms 500) }) ∧
        (s.zone.lock = .receiving ∨ s.zone.lock = .ready → s.zone.origin = some f.src →
          t.zone.staged = [] ∧ t.zone.lock = .receiving ∧ t.zone.origin = some f.src ∧
          t.zone.proposed = some (fieldAt f.payload 0 4) ∧ t.zone.segCount = fieldAt f.payload 4 1 ∧
          t.zone.received = 0 ∧ t.zone.check = fieldAt f.payload 5 4 ∧ t.zone.segTimer = some (s.now + ms 500) ∧
          t.zone.orphanTimer = none)) ∧
      (fieldAt f.payload 4 1 = 0 ∨ 205 < fieldAt f.payload 4 1 ∨ fieldAt f.payload 0 4 = 0 → s.zone.lock = .free →
        t.zone.lock = .free ∧
          ZoneOffered s t (.zoneVote f.src (fieldAt f.payload 0 4) .refuse .malformed none)) ∧
      (s.zone.lock = .publishing ∨ s.zone.lock = .collecting ∨ s.zone.lock = .applying ∨
          (s.zone.lock ≠ .free ∧ s.zone.origin ≠ some f.src) →
        t.zone.lock = s.zone.lock ∧ t.zone.staged = s.zone.staged ∧ t.zone.proposed = s.zone.proposed ∧
          ZoneOffered s t (.zoneVote f.src (fieldAt f.payload 0 4) .busy .none none))) ∧
    (∀ g z, f.kind = .zoneSeg → s.zone.lock = .receiving → s.zone.origin = some f.src → s.zone.proposed = some g →
      fieldAt f.payload 0 4 = g → z = s.zone.staged ++ readEntries (f.payload.drop 6) →
      ∃ t, exec .zoneSegTaken s = .next t ∧ t.link.rx = l ∧ t.st = s.st ∧
      SeatsKept s t ∧ SenseKept s t ∧ PortKept s t ∧
      (fieldAt f.payload 4 1 ≠ s.zone.received + 1 ∨ s.zone.segCount < fieldAt f.payload 4 1 →
        SetEnded s t ∧ ZoneOffered s t (.zoneVote f.src g .refuse .incomplete none)) ∧
      (fieldAt f.payload 4 1 = s.zone.received + 1 → fieldAt f.payload 4 1 < s.zone.segCount →
        t.zone.staged = z ∧ t.zone.received = s.zone.received + 1 ∧
        t.zone.segTimer = some (s.now + ms 500) ∧ t.zone.lock = .receiving ∧ t.zone.gen = s.zone.gen) ∧
      (fieldAt f.payload 4 1 = s.zone.received + 1 → fieldAt f.payload 4 1 = s.zone.segCount →
        (setCheck z ≠ s.zone.check →
          SetEnded s t ∧ ZoneOffered s t (.zoneVote f.src g .refuse .check none)) ∧
        (setCheck z = s.zone.check → malformedSet z ∨ s.zone.shortSeg = true →
          SetEnded s t ∧ ZoneOffered s t (.zoneVote f.src g .refuse .malformed none)) ∧
        (setCheck z = s.zone.check → ¬ malformedSet z → s.zone.shortSeg = false →
          (g ≤ s.zone.gen → SetEnded s t ∧ ZoneOffered s t (.zoneVote f.src g .refuse .stale none)) ∧
          (s.zone.gen < g →
            (∀ n, overCapacity z s = some n →
              SetEnded s t ∧ ZoneOffered s t (.zoneVote f.src g .refuse .capacity (some n))) ∧
            (overCapacity z s = none → t.zone.lock = .ready ∧ t.zone.staged = z ∧ t.zone.origin = some f.src ∧
              t.zone.proposed = some g ∧ t.zone.segTimer = none ∧ t.zone.orphanTimer = some (s.now + ms 5000) ∧
              t.zone.gen = s.zone.gen ∧ ZoneOffered s t (.zoneVote f.src g .ready .none none)))))) ∧
    (∀ g v r, f.kind = .zoneVote → s.zone.lock = .publishing ∨ s.zone.lock = .collecting →
      s.zone.proposed = some g → fieldAt f.payload 0 4 = g →
      Verdict.ofCode (fieldAt f.payload 4 1) = some v → Reason.ofCode (fieldAt f.payload 5 1) = some r → v ≠ .ready →
      (∃ x ∈ s.zone.results, x.voter = f.src ∧ x.verdict = none) →
      ∃ t, exec .zoneVoteTaken s = .next t ∧ t.link.rx = l ∧ t.st = s.st ∧ SeatsKept s t ∧ SenseKept s t ∧
      PortKept s t ∧ SetEnded s t ∧
      ((∀ x ∈ s.zone.results, isRefusal x = false) →
        Msg.zoneAbandon g (if v = .busy then .busy else r) ∈ t.link.normal ++ t.zone.outbox) ∧
      (s.host.notices.length < noticeCap → ∃ n ∈ t.host.notices, n.kind = .zoneResult ∧ n.subject = g)) ∧
    (∀ r, f.kind = .zoneVote → s.zone.lock = .publishing → s.zone.proposed = some (fieldAt f.payload 0 4) →
      Verdict.ofCode (fieldAt f.payload 4 1) = some .ready → Reason.ofCode (fieldAt f.payload 5 1) = some r →
      (∀ x ∈ s.zone.results, isRefusal x = false) →
      ∃ t, exec .zoneVoteTaken s = .next t ∧ t.link.rx = l ∧ t.st = s.st ∧ SeatsKept s t ∧ SenseKept s t ∧
      PortKept s t ∧ t.zone = { s.zone with results := s.zone.results.map fun x =>
        if x.voter = f.src ∧ x.verdict = none then
          { x with verdict := some (.ready, r, inRange 0 254 (fieldAt f.payload 6 1)) } else x }) ∧
    (∀ r, f.kind = .zoneVote → s.zone.lock = .collecting → s.zone.proposed = some (fieldAt f.payload 0 4) →
      Verdict.ofCode (fieldAt f.payload 4 1) = some .ready → Reason.ofCode (fieldAt f.payload 5 1) = some r →
      (∀ x ∈ s.zone.results, isReady x = true ∨ (x.voter = f.src ∧ x.verdict = none)) →
      ∃ t, exec .zoneVoteTaken s = .next t ∧ t.link.rx = l ∧ t.st = s.st ∧ SeatsKept s t ∧ SenseKept s t ∧
      PortKept s t ∧ t.zone.commitPending = true ∧
        t.zone.lock = .collecting ∧ t.zone.gen = s.zone.gen ∧ t.zone.voteTimer = none) ∧
    (f.kind = .zoneCommit → s.zone.lock = .ready → s.zone.origin = some f.src →
      s.zone.proposed = some (fieldAt f.payload 0 4) → ∃ t, exec .zoneCommitTaken s = .next t ∧ t.link.rx = l ∧
      t.st = s.st ∧ SeatsKept s t ∧ SenseKept s t ∧ PortKept s t ∧
        t.zone = { s.zone with commitPending := true, voteTimer := none, orphanTimer := none } ∧
        Wait.commit ∈ t.store.zoning.waiting ++ t.store.zoning.waitingNext) ∧
    (f.kind = .zoneAbandon → s.zone.lock = .ready → s.zone.origin = some f.src →
      s.zone.proposed = some (fieldAt f.payload 0 4) → ∃ t, exec .zoneAbandonTaken s = .next t ∧ t.link.rx = l ∧
      t.st = s.st ∧ SeatsKept s t ∧ SenseKept s t ∧ PortKept s t ∧ SetEnded s t ∧ t.zone.orphanTimer = none)

/-! ## Timers of the view and the station state -/

/-- At the period's end a ROLLCALL is offered and the period restarts at 250 ms; at 1000 ms of age a PRESENT peer's
entry becomes LOST (R41, R46). When the step ends is the model's choice (notes/assumptions/2.md), and so is that
PEER-LOST comes first in the step (notes/assumptions/69.md). -/
def Obligations.ViewTimersEnd : Prop :=
  ∀ (s : State) (d : Nat),
    (s.view.period = some d → sending s = true → ∃ t, exec .rollcallPeriodExpire s = .next t ∧
      t.now = max s.now d ∧ Aside s t ∧
      (t.st.state ≠ .departed → t.view.period = some (t.now + ms 250)) ∧
      (s.link.normal.length < normalCap → t.link.normal.any isRollcall = true) ∧ PeersKept s t) ∧
    (∀ p h f, entryAt s p = .known .present h f → p ≠ ownAddr s → ∃ t, exec (.peerAgeExpire p) s = .next t ∧
      t.now = max s.now (h + ms 1000) ∧ Aside s t ∧ entryAt t p = .known .lost h f ∧
      (∀ a, a ≠ ownAddr s → a ≠ p → entryAt t a = entryAt s a) ∧
      (s.host.notices.length < noticeCap → ∃ n ∈ t.host.notices, n.kind = .peerLost ∧ n.subject = p.val))

/-- An armed silence timer isolates a JOINING or ACTIVE station at its end, an unarmed one changes no state; the end
of JOINING brings ACTIVE, or the departure that was asked for (R10, R11). When the step ends is the model's choice
(notes/assumptions/2.md). -/
def Obligations.LifeTimersEnd : Prop :=
  ∀ (s : State) (d : Nat),
    (s.st.silence = some d → ∃ t, exec .silenceTimerExpire s = .next t ∧ t.now = max s.now d ∧ Aside s t ∧
      t.st.silence = none ∧
      (s.st.silenceArmed = true → s.st.state = .joining ∨ s.st.state = .active → t.st.state = .isolated) ∧
      (s.st.silenceArmed = false → s.st.state ≠ .departing → t.st.state = s.st.state)) ∧
    (s.st.state = .joining → s.st.joinTimer = some d → ∃ t, exec .joiningTimerExpire s = .next t ∧
      t.now = max s.now d ∧ Aside s t ∧ t.st.joinTimer = none ∧
      (s.st.pend = .none → t.st.state = .active) ∧
      (s.st.pend ≠ .none → (t.st.state = .departing ∨ t.st.state = .departed) ∧ t.dep.kind = .orderly))

/-! ## Seat timers -/

/-- The ends of OUTSTANDING and of SPACING (R115, R116). When the step ends is the model's choice
(notes/assumptions/2.md). -/
def Obligations.AskTimersEnd : Prop :=
  ∀ (s : State) (d : Nat),
    (s.seat.phase = .outstanding d → ∃ t, exec .askOutstandingExpire s = .next t ∧ t.now = max s.now d ∧ Aside s t ∧
      t.seat.phase = (if isShort s then .spacing (t.now + ms (if s.seat.firstAsk then 2000 else 1500)) else .idle) ∧
      t.seat.askNo = s.seat.askNo) ∧
    (s.seat.phase = .spacing d → ∃ t, exec .askSpacingExpire s = .next t ∧ t.now = max s.now d ∧ Aside s t ∧
      (isShort s = false → t.seat.phase = .idle) ∧
      (isShort s = true → headFresh s = false → t.seat.phase = .spacing (t.now + ms 2000)) ∧
      (isShort s = true → headFresh s = true → t.seat.phase = .outstanding (t.now + ms 500) ∧
        t.seat.askNo = (s.seat.askNo + 1) % 255 ∧
        (s.link.normal.length < normalCap →
          Msg.seatAsk t.seat.askNo (min 16 (freshCount s - s.seat.free)) ∈ t.link.normal)))

/-- At the end of its delay an answer leaves the table and, where the asker still lacks seats and the station can
give, makes a give of what is left of the ask (R118, R119); at an entry's timer the SEAT-GIVE is tried again, or the
entry stranded when its recipient is not PRESENT, and after the eighth send ESCROW-UNANSWERED is raised once, stranding
or not (R120, R124). When the step ends is the model's choice (notes/assumptions/2.md). That ESCROW-UNANSWERED is
raised though the step strands the entry, and before ESCROW-STRANDED, so that with one place left in the notice queue
it is the one taken, is the model's choice too (notes/assumptions/62.md). -/
def Obligations.SeatTimersEnd : Prop :=
  (∀ (s : State) (p : Addr) (a : Answer), answerFor p s = some a → ∃ t, exec (.answerDelayExpire p) s = .next t ∧
    t.now = max s.now a.ends ∧ Aside s t ∧ (∀ b ∈ t.seat.answers, b.asker ≠ p) ∧
    (a.seen < a.count → s.st.state = .active → 0 < giveable s → (entryAt s p).isPresent = true → canGive s p = true →
      t.seat.free = s.seat.free - min (a.count - a.seen) (giveable s) ∧ t.seat.next = s.seat.next + 1 ∧
      t.seat.escrow = s.seat.escrow ++
        [{ xfer := s.seat.next, rcpt := p, count := min (a.count - a.seen) (giveable s), ask := some a.ask,
           tries := 0, timer := none, unanswered := false, stranded := false }]) ∧
    (a.count ≤ a.seen → s.st.state ≠ .departing → t.seat.escrow = s.seat.escrow ∧ t.seat.free = s.seat.free)) ∧
  (∀ (s : State) (x d : Nat) (e : Escrow), escrowOf s x = some e → e.timer = some d →
    ∃ t, exec (.escrowTimerExpire x) s = .next t ∧ t.now = max s.now d ∧ Aside s t ∧
    t.seat.receipts = s.seat.receipts ∧
      ((entryAt s e.rcpt).isPresent = true → e.stranded = false → sending s = true →
        ∃ e', escrowOf t x = some e' ∧ e'.tries = min 8 (e.tries + 1) ∧ e'.count = e.count ∧ e'.stranded = false) ∧
      ((entryAt s e.rcpt).isPresent = false → e.stranded = false → s.st.state = .active ∨ s.st.state = .departing →
        ∃ e', escrowOf t x = some e' ∧ e'.stranded = true ∧ e'.timer = none ∧ e'.count = e.count) ∧
      (e.tries = 8 → e.unanswered = false → e.stranded = false →
        (∃ e', escrowOf t x = some e' ∧ e'.unanswered = true) ∧
        (s.host.notices.length < noticeCap → ∃ n ∈ t.host.notices, n.kind = .escrowUnanswered ∧
          n.subject = (ownAddr s).val ∧ n.detail = b4 x ++ b1 e.rcpt.val ++ b2 e.count)))

/-! ## Ports -/

/-- A LIGHTING port becomes LIT at its timer, unless the same step sheds it, and PORT-LIT is raised; a DIMMING port
becomes DARK and its seat is freed (R111, R136, R137). When the step ends is the model's choice
(notes/assumptions/2.md), and so is that PORT-LIT comes first in the step (notes/assumptions/69.md). -/
def Obligations.PortTimersEnd : Prop :=
  ∀ (s : State) (n d : Nat) (p : Port), portAt s n = some p → p.timer = some d →
    (p.state = .lighting → ∃ t, exec (.lightingTimerExpire n) s = .next t ∧ t.now = max s.now d ∧ Aside s t ∧
      t.port.recs.length = s.port.recs.length ∧
      (∃ p', portAt t n = some p' ∧ (p'.state = .lit ∨ p'.state = .shed) ∧ p'.timer = none ∧ p'.req = p.req) ∧
      (s.host.notices.length < noticeCap → ∃ x ∈ t.host.notices, x.kind = .portLit ∧ x.subject = n)) ∧
    (p.state = .dimming → ∃ t, exec (.dimmingTimerExpire n) s = .next t ∧ t.now = max s.now d ∧ Aside s t ∧
      (∃ p', portAt t n = some p' ∧ p'.state = .dark ∧ p'.seat = false ∧ p'.node = none ∧ p'.req = none) ∧
      (p.seat = true → 0 < s.seat.bound → t.seat.bound = s.seat.bound - 1 ∧
        (s.st.state ≠ .departing → t.seat.free = s.seat.free + 1)))

/-! ## Zoning and filter timers -/

/-- A receiver that waits in vain for a segment, an originator whose voters do not all answer and a READY receiver
left alone become FREE; waiting frames are offered again, in their order as far as the transmit queue has room, and the
rest wait another 10 ms (R146, R149, R151, R154). That zoning frames of every kind wait in one order behind one resend
timer is the model's choice (notes/assumptions/64.md), and so is when the step ends (notes/assumptions/2.md). -/
def Obligations.ZoneTimersEnd : Prop :=
  ∀ (s : State) (d : Nat),
    (s.zone.lock = .receiving → s.zone.segTimer = some d → ∃ t, exec .segmentTimerExpire s = .next t ∧
      t.now = max s.now d ∧ Aside s t ∧ t.zone.lock = .free ∧ t.zone.staged = [] ∧ t.zone.active = s.zone.active ∧
      t.zone.gen = s.zone.gen) ∧
    (s.zone.lock = .collecting → s.zone.commitPending = false → s.zone.voteTimer = some d →
      ∃ t, exec .voteWindowExpire s = .next t ∧ t.now = max s.now d ∧ Aside s t ∧ t.zone.lock = .free ∧
      t.zone.staged = [] ∧
        t.zone.active = s.zone.active ∧ t.zone.gen = s.zone.gen) ∧
    (s.zone.lock = .ready → s.zone.commitPending = false → s.zone.orphanTimer = some d →
      ∃ t, exec .orphanTimerExpire s = .next t ∧ t.now = max s.now d ∧ Aside s t ∧ t.zone.lock = .free ∧
      t.zone.staged = [] ∧
        t.zone.active = s.zone.active ∧ t.zone.gen = s.zone.gen ∧
        (s.host.notices.length < noticeCap → ∃ n ∈ t.host.notices, n.kind = .zoneOrphaned)) ∧
    (s.zone.resend = some d → s.st.state ≠ .departing → sending s = true →
      ∃ t, exec .zoneResendTimerExpire s = .next t ∧ t.now = max s.now d ∧ Aside s t ∧
        (s.link.normal.length + s.zone.outbox.length ≤ normalCap → t.zone.outbox = [] ∧ t.zone.resend = none ∧
          ∀ m ∈ s.zone.outbox, isRollcall m = false → m ∈ t.link.normal) ∧
        (∀ k, s.link.normal.length + k = normalCap → 0 < k → k < s.zone.outbox.length →
          t.zone.outbox = s.zone.outbox.drop k ∧ t.zone.resend = some (t.now + ms 10) ∧
          withoutRollcall t.link.normal = withoutRollcall (s.link.normal ++ s.zone.outbox.take k)) ∧
        (s.zone.outbox ≠ [] → normalCap ≤ s.link.normal.length →
          t.zone.outbox = s.zone.outbox ∧ t.zone.resend = some (t.now + ms 10)))

/-- The acknowledgement of a load whose result counts makes the port's filter record CURRENT with what was loaded; a
first try's end starts the second, whose end makes the record FAULT (R165, R166). When the step ends is the model's
choice (notes/assumptions/2.md), and so is that FILTER-FAULT comes first in the step (notes/assumptions/69.md). -/
def Obligations.FilterLoadEnds : Prop :=
  ∀ (s : State) (l : Flight) (p : Port), s.filt.flight = some l → l.ignored = false → portAt s l.port = some p →
    (p.filter.dirty = false → l.port ∉ s.filt.queue → ∃ t, exec (.filterAck l.port) s = .next t ∧ t.now = s.now ∧
      Aside s t ∧
      ∃ p', portAt t l.port = some p' ∧ p'.filter =
        { state := .current, mode := some l.mode, entries := l.list.length, gen := l.gen, dirty := false }) ∧
    (l.second = false → Quiet s → exec .filterTryExpire s =
      .next { reach l.ends s with filt.flight := some { l with second := true, ends := max s.now l.ends + ms 20 } }) ∧
    (l.second = true → l.port ∉ s.filt.queue → ∃ t, exec .filterTryExpire s = .next t ∧ t.now = max s.now l.ends ∧
      Aside s t ∧
      (∃ p', portAt t l.port = some p' ∧ p'.filter.state = .fault ∧ p'.inService = false) ∧
      (s.host.notices.length < noticeCap → ∃ n ∈ t.host.notices, n.kind = .filterFault ∧ n.subject = l.port))

/-! ## Departure and INT -/

/-- The departure timer forces the departure, with every port of a LINE station DARK, and DEPART is offered in the same
step, a 10 ms wait for room under way or not; at the end of that wait DEPART is offered again. Taken into the queue it
makes the station DEPARTED; refused, it waits 10 ms (R169, R171, R172). When the step ends
is the model's choice (notes/assumptions/2.md). -/
def Obligations.DepartureTimersEnd : Prop :=
  ∀ (s : State) (d : Nat), s.st.state = .departing →
    (s.dep.timer = some d → ∃ t, exec .departureTimerExpire s = .next t ∧ t.now = max s.now d ∧ Aside s t ∧
      t.dep.kind = .forced ∧ (t.st.state = .departing ∨ t.st.state = .departed) ∧
      (role s = .line → (∀ p ∈ t.port.recs, p.state = .dark) ∧ t.port.queue = [] ∧ t.port.history = []) ∧
      ((s.dep.zoningAsked = true ∧ s.dep.ahead = 0) ∨
          (s.dep.zoningAsked = false ∧ (zoning s = true → leavesWithFrame s = false)) →
        (s.link.normal.length + 1 < normalCap →
          t.st.state = .departed ∧ t.st.ready = true ∧ Msg.depart ∈ t.link.normal ∧ t.dep.retry = none) ∧
        (normalCap ≤ s.link.normal.length → t.st.state = .departing ∧ t.dep.retry = some (t.now + ms 10)))) ∧
    (s.dep.retry = some d → s.dep.step = some .departWait → ∃ t, exec .departRetryExpire s = .next t ∧
      t.now = max s.now d ∧ Aside s t ∧
      (s.dep.ahead = 0 → OwnEntry s → s.link.normal.length < normalCap →
        t.st.state = .departed ∧ t.st.ready = true ∧ Msg.depart ∈ t.link.normal ∧ t.dep.retry = none) ∧
      (s.dep.ahead = 0 → OwnEntry s → normalCap ≤ s.link.normal.length →
        t.st.state = .departing ∧ t.dep.retry = some (t.now + ms 10)))



/-! ## The module port -/

/-- FETCH shifts the reply out and, once its last byte has been shifted, empties the slot; an unknown code is
refused UNKNOWN before the byte count is judged; an L that is not the byte count, or not the command's own payload
length, is refused RANGE with nothing else changed but the cursor, which a refused READ-TABLE clears; a transaction of
fewer than 3 bytes, a command in RESET and one that meets a command executing leave only the status byte (R174, R175,
R177). A READ-TABLE refused BUSY leaves the cursor, as the model reads R177 (notes/assumptions/15.md). At the end of the
minimum deassertion interval INT follows the notice queue again (R180); when that step ends is the model's choice
(notes/assumptions/2.md). -/
def Obligations.ModulePortSlot : Prop :=
  (∀ (s : State) (r : Reply) (n : Nat), s.st.state ≠ .reset → s.host.slot = .reply r → exec (.fetch n) s =
    .next { s with host.out := 0x02#8 :: r.bytes.take n,
                   host.slot := if r.bytes.length ≤ n then .idle else .reply r }) ∧
  (∀ (s : State) (n : Nat), s.st.state ≠ .reset → s.host.slot = .idle → exec (.fetch n) s =
    .next { s with host.out := [0x00#8] }) ∧
  (∀ (s : State) (code tag l : Byte) (payload : List Byte), Judges s →
    exec (.commandUnknown code (tag :: l :: payload)) s =
      .next { s with host.slot := .reply { status := .unknown, tag := tag, data := [] },
                     host.out := [statusByte s] }) ∧
  (∀ (s : State) (c : Instr) (tag l : Byte) (payload : List Byte) (k : Nat), Judges s →
    hostRest c = some (tag :: l :: payload) → hostLength c = some k → l.toNat ≠ payload.length ∨ l.toNat ≠ k →
      exec c s = .next { s with
        host.slot := .reply { status := .range, tag := tag, data := [] },
        host.cursor := if c = .readTable (tag :: l :: payload) then none else s.host.cursor,
        host.out := [statusByte s] }) ∧
  (∀ (s : State) (c : Instr) (rest : List Byte), Judges s → rest.length < 2 →
    hostRest c = some rest ∨ (∃ code, c = .commandUnknown code rest) →
      exec c s = .next { s with host.out := [statusByte s] }) ∧
  (∀ (s : State) (c : Instr) (code : Byte), c.hostCode = some code →
    (s.st.state = .reset → exec c s = .next { s with host.out := [0xFF#8] }) ∧
    (∀ g, s.st.state ≠ .reset → s.host.slot = .busy g → exec c s = .next { s with host.out := [0x01#8] })) ∧
  (∀ (s : State) (d : Nat), s.host.intOff = some d → ∃ t, exec .intDeassertIntervalExpire s = .next t ∧
    t.now = max s.now d ∧ t.host.intOff = none ∧ (t.host.int = true ↔ t.host.notices ≠ []) ∧
    (Quiet s → t.host.notices = s.host.notices ∧ t.seat = s.seat ∧ t.port = s.port ∧ t.view = s.view))

/-- SET outside SETUP is refused WRONG-STATE, of a setting the role has not WRONG-ROLE, and of a value outside its range
RANGE, with every setting as it was; otherwise it writes the setting, answers OK and recomputes what depends on it: the
demand, the thermal counts, the claim (R7, R66, R82, R84). That give-on-depart is written as 1 for on and 0 for off is
the model's choice (notes/assumptions/46.md). -/
def Obligations.SettingWritten : Prop :=
  (∀ (n : Nat) (r : Role), settingApplies n r = true ↔
    (n = 5 → r = .line ∨ r = .supervisor) ∧ (n = 6 → r = .line) ∧ (n = 7 → r = .line)) ∧
  (∀ hi lo : Byte, signed16 [hi, lo] =
    if 256 * hi.toNat + lo.toNat < 32768 then (256 * hi.toNat + lo.toNat : Int)
    else (256 * hi.toNat + lo.toNat : Int) - 65536) ∧
  (∀ (p q : Settings) (n : Nat) (v : Int), p.write n v = some q ↔
    (n = 1 ∧ -10 ≤ v ∧ v ≤ 60 ∧ v + 5 ≤ p.tHigh ∧ q = { p with tLow := v }) ∨
    (n = 2 ∧ p.tLow + 5 ≤ v ∧ v ≤ 100 ∧ q = { p with tHigh := v }) ∨
    (n = 3 ∧ 40 ≤ v ∧ v ≤ 110 ∧ v + 5 ≤ p.tShut ∧ q = { p with tCrit := v }) ∨
    (n = 4 ∧ p.tCrit + 5 ≤ v ∧ v ≤ 125 ∧ q = { p with tShut := v }) ∨
    (n = 5 ∧ ∃ w : Nat, v = w ∧ w ≤ 500 ∧ q = { p with base := w }) ∨
    (n = 6 ∧ ∃ w : Nat, v = w ∧ w ≤ 4096 ∧ q = { p with reserve := w }) ∨
    (n = 7 ∧ ((v = 1 ∧ q = { p with giveOnDepart := true }) ∨ (v = 0 ∧ q = { p with giveOnDepart := false }))) ∨
    (n = 8 ∧ ∃ w : Nat, v = w ∧ w ≤ 10 ∧ q = { p with intMin := w })) ∧
  ∀ (s : State) (tag n hi lo : Byte), Judges s →
    (s.st.state ≠ .setup → ∃ t, exec (.set [tag, 3#8, n, hi, lo]) s = .next t ∧ Replied s t .wrongState tag [] ∧
      t.st.settings = s.st.settings) ∧
    (s.st.state = .setup → settingApplies n.toNat (role s) = false →
      ∃ t, exec (.set [tag, 3#8, n, hi, lo]) s = .next t ∧ Replied s t .wrongRole tag [] ∧ t.st = s.st) ∧
    (s.st.state = .setup → settingApplies n.toNat (role s) = true →
      s.st.settings.write n.toNat (signed16 [hi, lo]) = none →
      ∃ t, exec (.set [tag, 3#8, n, hi, lo]) s = .next t ∧ Replied s t .range tag [] ∧ t.st = s.st) ∧
    (∀ q, s.st.state = .setup → settingApplies n.toNat (role s) = true →
      s.st.settings.write n.toNat (signed16 [hi, lo]) = some q →
      ∃ t, exec (.set [tag, 3#8, n, hi, lo]) s = .next t ∧ Replied s t .ok tag [] ∧
        t.st = { s.st with settings := q } ∧ t.now = s.now ∧ LinkKept s t ∧ SeatsKept s t ∧ t.zone = s.zone ∧
        t.sup = s.sup ∧
        (n = 1#8 ∨ n = 2#8 → DemandIs q s.cool.forced s.cool.hottest t.cool.demand) ∧
        (n = 3#8 → t.cool.critCount = 0 ∧ t.cool.clearCount = 0 ∧ t.cool.shutCount = s.cool.shutCount) ∧
        (n = 4#8 → t.cool.shutCount = 0 ∧ t.cool.critCount = s.cool.critCount ∧
          t.cool.clearCount = s.cool.clearCount) ∧
        (n = 5#8 → role s = .supervisor → t.budget.claim = q.base) ∧
        (n = 5#8 → role s = .line → (t.budget.claim : Int) = q.base + ⌈(portTenths s : Rat) / 10⌉))

/-- JOIN from SETUP and from DEPARTED, and DEPART by station state; with JOIN from SETUP reception begins, the own
entry is built and a FAN station's target counts the view (R8, R10, R13, R37, R44, R90). -/
def Obligations.JoinAndDepart : Prop :=
  ∀ (s : State) (tag : Byte), Judges s →
    (s.st.ejectOpen = false → s.st.state = .setup → ∃ t, exec (.join [tag, 0#8]) s = .next t ∧
      Replied s t .accepted tag [] ∧ SenseKept s t ∧ DurableKept s t ∧ t.st.state = .joining ∧
      t.st.joinTimer = some (s.now + ms 1000) ∧
      t.st.silence = some (s.now + ms 2000) ∧ t.st.silenceArmed = false ∧
      (∃ h, entryAt t (ownAddr s) = .known .present h (ownRoll t)) ∧ (role s = .supply → t.sup.enable = true) ∧
      t.link.listenFrom = s.now ∧ t.link.idleFrom = s.now ∧ (role s = .fan → t.cool.target = fanTarget t)) ∧
    (s.st.ejectOpen = false → s.st.state = .departed → s.cool.thermal ≠ .shutdown →
      ∃ t, exec (.join [tag, 0#8]) s = .next t ∧ Replied s t .accepted tag [] ∧ SenseKept s t ∧ DurableKept s t ∧
      t.st.ready = false ∧
        t.dep.kind = .none ∧ t.st.state = if s.st.clash then .isolated else .joining) ∧
    (s.st.ejectOpen = true → ∃ t, exec (.join [tag, 0#8]) s = .next t ∧ Replied s t .wrongState tag [] ∧
      (s.st.state ≠ .departing → t.st = s.st)) ∧
    (s.st.state = .active ∨ s.st.state = .isolated → ∃ t, exec (.depart [tag, 0#8]) s = .next t ∧
      Replied s t .accepted tag [] ∧ SenseKept s t ∧ DurableKept s t ∧
      (t.st.state = .departing ∨ t.st.state = .departed) ∧ t.dep.kind = .orderly) ∧
    (s.st.state = .joining → ∃ t, exec (.depart [tag, 0#8]) s = .next t ∧ Replied s t .accepted tag [] ∧
      SenseKept s t ∧ DurableKept s t ∧
      t.st = { s.st with pend := .command }) ∧
    (s.st.state = .setup ∨ s.st.state = .departed → ∃ t, exec (.depart [tag, 0#8]) s = .next t ∧
      Replied s t .wrongState tag [] ∧ t.st = s.st)

/-- LINK-RESTART returns the station to JOINING with the view of its peers, the counters, the receive queue, HOLD
and the pending answers cleared, and what is on the line then left unjudged. An originator's set under way is dropped
with ZONE-RESULT and no ZONE-ABANDON, a receiver's with every timer stopped and no vote; a commit pending, APPLYING and
frames that wait with the lock FREE run on (R18, R31, R37, R40, R50, R90, R158). That the forced duty moves the last
duty change, what is left of the waiting frames, and that ZONE-RESULT is raised before STATE-CHANGED, is the model's
choice (notes/assumptions/50.md, 57.md, 69.md). -/
def Obligations.LinkRestarts : Prop :=
  ∀ (s : State) (tag : Byte), Judges s →
    s.st.state = .joining ∨ s.st.state = .active ∨ (s.st.state = .isolated ∧ s.st.clash = false) →
    ∃ t, exec (.linkRestart [tag, 0#8]) s = .next t ∧ Replied s t .ok tag [] ∧ t.st.state = .joining ∧
      t.st.joinTimer = some (s.now + ms 1000) ∧ t.st.silence = some (s.now + ms 2000) ∧ t.st.silenceArmed = false ∧
      t.st.drops = 0 ∧ (∀ a, a ≠ ownAddr s → entryAt t a = .empty) ∧ t.link.counters = Counters.zero ∧
      t.link.rx = [] ∧ t.link.hold = none ∧ t.link.guard = .clear ∧ t.link.urgent = [] ∧ t.seat.answers = [] ∧
      t.seat.phase = .idle ∧ t.view.period = some (s.now + ms 250) ∧
      t.link.listenFrom = s.now ∧ t.link.idleFrom = s.now ∧ (role s = .fan → t.cool.target = fanTarget t ∧
        (s.cool.forcing = false → s.cool.duty < 100 → t.cool.duty = 100 ∧ t.cool.lastDuty = s.now)) ∧
      (s.zone.commitPending = true ∨ s.zone.lock = .free ∨ s.zone.lock = .applying → t.zone = s.zone) ∧
      (s.zone.commitPending = false → s.zone.lock = .receiving ∨ s.zone.lock = .ready → t.zone.lock = .free ∧
        t.zone.staged = [] ∧ t.zone.outbox = [] ∧ t.zone.resend = none ∧ t.zone.segTimer = none ∧
        t.zone.orphanTimer = none) ∧
      (s.zone.commitPending = false → s.zone.lock = .publishing ∨ s.zone.lock = .collecting → t.zone.lock = .free ∧
        t.zone.staged = [] ∧ t.zone.voteTimer = none ∧ (∀ g r, Msg.zoneAbandon g r ∉ t.link.normal) ∧
        t.zone.outbox = s.zone.outbox.filter (fun m => !isPublishFrame m) ∧
        (s.host.notices.length < noticeCap → ∃ n ∈ t.host.notices, n.kind = .zoneResult ∧
          n.subject = s.zone.proposed.getD 0 ∧
          n.detail = bOpt (s.zone.origin.map (·.val)) ++ b1 abandonedCode ++ b1 Reason.linkRestart.code)) ∧
        t.zone.active = s.zone.active ∧ t.zone.gen = s.zone.gen ∧ t.seat.free = s.seat.free ∧
      t.seat.receipts = s.seat.receipts ∧ SenseKept s t

/-- FORGET-PEER is refused RANGE for no peer's address and WRONG-STATE for an EMPTY or PRESENT entry; a LOST or GONE one
it makes EMPTY without a notice, and the peer's next ROLLCALL raises PEER-ARRIVED (R49). The order of the bytes of
PEER-ARRIVED's detail, role and then the former state, 0 for EMPTY, is the model's reading (notes/assumptions/12.md,
DEDUCED, unsafe), and that PEER-ARRIVED comes first in the step is the model's choice (notes/assumptions/69.md). -/
def Obligations.ForgetPeer : Prop :=
  (∀ (s : State) (tag p : Byte), Judges s →
    (32 ≤ p.toNat ∨ p.toNat = (ownAddr s).val → ∃ t, exec (.forgetPeer [tag, 1#8, p]) s = .next t ∧
      Replied s t .range tag [] ∧ PeersKept s t) ∧
    (∀ a : Addr, p.toNat = a.val → a ≠ ownAddr s →
      (entryAt s a = .empty ∨ (∃ h f, entryAt s a = .known .present h f) →
        ∃ t, exec (.forgetPeer [tag, 1#8, p]) s = .next t ∧ Replied s t .wrongState tag [] ∧ PeersKept s t) ∧
      ((∃ h f, entryAt s a = .known .lost h f ∨ entryAt s a = .known .gone h f) →
        ∃ t, exec (.forgetPeer [tag, 1#8, p]) s = .next t ∧ Replied s t .ok tag [] ∧ LinkKept s t ∧ SenseKept s t ∧
        DurableKept s t ∧ entryAt t a = .empty ∧
          (∀ b, b ≠ ownAddr s → b ≠ a → entryAt t b = entryAt s b) ∧
          ∀ n ∈ t.host.notices, n.kind = .peerArrived ∨ n.kind = .peerLost ∨ n.kind = .peerGone →
            n ∈ s.host.notices))) ∧
  (∀ (s : State) (f : RxFrame) (l : List RxFrame) (g : Roll), s.link.rx = f :: l → f.kind = .rollcall →
    f.src ≠ ownAddr s → entryAt s f.src = .empty → Roll.read f.payload = some g →
    s.host.notices.length < noticeCap → ∃ t, exec .rollcallTaken s = .next t ∧
      ∃ n ∈ t.host.notices, n.kind = .peerArrived ∧ n.subject = f.src.val ∧ n.detail = b1 (Role.code g.role) ++ b1 0)

/-- R176: FORCE-FANS. That the command's byte is 1 for on and 0 for off is the model's choice
(notes/assumptions/46.md), and so is that before JOIN a FAN station's target follows a change of the flag at once
(notes/assumptions/58.md). -/
def Obligations.ForceFans : Prop :=
  ∀ (s : State) (tag v : Byte), Judges s →
    (∀ on : Bool, v.toNat = (if on then 1 else 0) →
      (∃ t, exec (.forceFans [tag, 1#8, v]) s = .next t ∧ Replied s t .ok tag [] ∧ LinkKept s t ∧ DurableKept s t ∧
        t.cool.forced = on ∧
        DemandIs s.st.settings on s.cool.hottest t.cool.demand ∧
        (role s = .fan → OwnEntry s → s.cool.forced ≠ on →
          t.cool.target = fanTarget t ∧ (on = true → t.cool.target = 100)) ∧
        (∀ f, ownRecorded t = some f → f.forced = on ∧ f.demand = t.cool.demand) ∧
        (Quiet s → s.cool.forced ≠ on → ownRecorded s ≠ none → sending s = true → s.link.normal.length < normalCap →
          t.link.normal.any isRollcall = true)) ∧
      (Quiet s → s.cool.forced = on → DemandIs s.st.settings on s.cool.hottest s.cool.demand →
        exec (.forceFans [tag, 1#8, v]) s = .next { s with
          host.slot := .reply { status := .ok, tag := tag, data := [] }, host.out := [statusByte s] })) ∧
    (2 ≤ v.toNat → ∃ t, exec (.forceFans [tag, 1#8, v]) s = .next t ∧ Replied s t .range tag [] ∧
      t.cool.forced = s.cool.forced ∧ t.cool.demand = s.cool.demand)

/-- PORT-REQUEST queues a DARK port at the tail with its clamped draw; PORT-CANCEL darkens a QUEUED one; PORT-
RELEASE dims a LIGHTING or LIT one and darkens a SHED one, freeing its seat (R129 to R131). That the draw is unsigned is
the model's reading (notes/assumptions/38.md, DEDUCED, unsafe), and the layout of the replies is its choice
(notes/assumptions/13.md). -/
def Obligations.PortCommands : Prop :=
  ∀ (s : State) (tag n : Byte) (p : Port), Judges s → role s = .line → portAt s n.toNat = some p →
    (∀ hi lo pr : Byte, s.st.state = .active → pr.toNat ≤ 3 → p.state = .dark →
      ∃ t, exec (.portRequest [tag, 4#8, n, hi, lo, pr]) s = .next t ∧
        Replied s t .ok tag (b1 (clampDraw (256 * hi.toNat + lo.toNat)) ++
          bBool (clampDraw (256 * hi.toNat + lo.toNat) ≠ 256 * hi.toNat + lo.toNat)) ∧
        t.port.queue.getLast? = some { port := n.toNat, fresh := true } ∧
        (∃ p', portAt t n.toNat = some p' ∧ p'.state = .queued ∧
          p'.req = some { draw := clampDraw (256 * hi.toNat + lo.toNat), priority := pr.toNat }) ∧
        t.st = s.st ∧ SeatsKept s t ∧ t.zone = s.zone ∧ LinkKept s t ∧ SenseKept s t) ∧
    (portStates s = true → p.state = .queued → p.seat = false → ∃ t, exec (.portCancel [tag, 1#8, n]) s = .next t ∧
      Replied s t .ok tag [] ∧ (∀ e ∈ t.port.queue, e.port ≠ n.toNat) ∧
      (∃ p', portAt t n.toNat = some p' ∧ p'.state = .dark ∧ p'.req = none) ∧
      t.st = s.st ∧ SeatsKept s t ∧ t.zone = s.zone ∧ LinkKept s t ∧ SenseKept s t) ∧
    (portStates s = true → p.state = .lighting ∨ p.state = .lit →
      ∃ t, exec (.portRelease [tag, 1#8, n]) s = .next t ∧ Replied s t .ok tag [] ∧
        (∃ p', portAt t n.toNat = some p' ∧ p'.state = .dimming ∧ p'.timer = some (s.now + ms 20) ∧ p'.node = none) ∧
          t.st = s.st ∧ SeatsKept s t ∧ t.zone = s.zone ∧ LinkKept s t ∧ SenseKept s t) ∧
    (portStates s = true → p.state = .shed → p.seat = true → 0 < s.seat.bound →
      ∃ t, exec (.portRelease [tag, 1#8, n]) s = .next t ∧ Replied s t .ok tag [] ∧
        (∃ p', portAt t n.toNat = some p' ∧ p'.state = .dark) ∧ (∀ e ∈ t.port.queue, e.port ≠ n.toNat) ∧
          t.seat.free = s.seat.free + 1 ∧ t.seat.bound = s.seat.bound - 1 ∧ t.seat.escrow = s.seat.escrow ∧
        t.st = s.st ∧ t.zone = s.zone ∧ LinkKept s t ∧ SenseKept s t)

/-- PORT-ATTACH sets the node of a LIGHTING or LIT port and PORT-DETACH clears it; a load is owed to the port, which
keeps that while it stays in service, and the reply gives the filter record's state after the command. With the channel
free the load starts at once with the node's filter under the active set, or faults OVER-CAPACITY and dims the port; with
a load in flight the port waits, or its own load is overtaken (R159, R160, R162 to R164). The layout of the reply is the
model's choice (notes/assumptions/13.md). -/
def Obligations.NodeCommands : Prop :=
  (∀ (s : State) (x : Nat), filterOf s none = (.denyAll, []) ∧ (s.zone.gen = 0 → filterOf s (some x) = (.permitAll, [])) ∧
    (s.zone.gen ≠ 0 → ∃ l, filterOf s (some x) = (.list, l) ∧ l.Pairwise (· < ·) ∧
      ∀ y, y ∈ l ↔ y ≠ x ∧ ∃ e ∈ s.zone.active, ∃ e' ∈ s.zone.active, e.node = x ∧ e'.node = y ∧ e.zone = e'.zone)) ∧
  ∀ (s : State) (tag n : Byte) (p : Port), Judges s → role s = .line → portStates s = true →
    portAt s n.toNat = some p → p.inService = true →
    ∀ (c : Instr) (node : Option Nat),
      (∃ l : List Byte, l.length = 8 ∧ c = .portAttach (tag :: 9#8 :: n :: l) ∧ node = some (beNat l) ∧ beNat l ≠ 0) ∨
        (c = .portDetach [tag, 1#8, n] ∧ node = none) →
      ∃ t x, exec c s = .next t ∧ Replied s t .ok tag [x] ∧
        t.st = s.st ∧ SeatsKept s t ∧ LinkKept s t ∧ SenseKept s t ∧
        (∃ p', portAt t n.toNat = some p' ∧ (p'.inService = true → p'.node = node ∧ b1 p'.filter.state.code = [x] ∧
          (p'.filter.state = .queued ∨ p'.filter.state = .loading))) ∧
        (s.filt.flight ≠ none → p.filter.state = .current ∨ p.filter.state = .fault ∨ p.filter.state = .queued →
          x = 0x01#8 ∧ (Quiet s → p.filter.state ≠ .queued → t.filt.queue = s.filt.queue ++ [n.toNat])) ∧
        (s.filt.flight ≠ none → p.filter.state = .loading → x = 0x02#8 ∧
          ∃ p', portAt t n.toNat = some p' ∧ (p'.inService = true → p'.filter.dirty = true)) ∧
        (s.filt.flight = none → s.filt.queue = [] → p.filter.state = .current ∨ p.filter.state = .fault →
          ((filterOf s node).2.length ≤ 256 → x = 0x02#8 ∧ (Quiet s → t.filt.flight = some
            { port := n.toNat, mode := (filterOf s node).1, list := (filterOf s node).2, gen := s.zone.gen,
              second := false, ends := s.now + ms 20, ignored := false })) ∧
          (256 < (filterOf s node).2.length → x = 0x03#8 ∧ ∃ p', portAt t n.toNat = some p' ∧
            p'.state = .dimming ∧ p'.node = none ∧ p'.filter.state = .fault))

/-- SEAT-INSTALL, SEAT-WITHDRAW and SEAT-RECLAIM change free at once and are answered when the seat record is
written (R112 to R114). -/
def Obligations.SeatCommands : Prop :=
  (∀ (s : State) (tag c1 c0 x3 x2 x1 x0 : Byte), Judges s → role s = .supervisor → s.st.state = .active →
    1 ≤ beNat [c1, c0] → beNat [c1, c0] ≤ 4096 → s.seat.serial < beNat [x3, x2, x1, x0] →
    owned s + beNat [c1, c0] ≤ 4096 →
    ∃ t, exec (.seatInstall [tag, 6#8, c1, c0, x3, x2, x1, x0]) s = .next t ∧ t.host.slot = .busy tag ∧
      t.seat.free = s.seat.free + beNat [c1, c0] ∧ t.seat.serial = beNat [x3, x2, x1, x0] ∧
      t.seat.bound = s.seat.bound ∧ t.seat.escrow = s.seat.escrow ∧ t.seat.receipts = s.seat.receipts ∧
      t.seat.next = s.seat.next ∧ t.st = s.st ∧ t.zone = s.zone ∧ LinkKept s t ∧ SenseKept s t ∧
      Wait.reply ∈ t.store.seat.waiting ++ t.store.seat.waitingNext) ∧
  (∀ (s : State) (tag c1 c0 : Byte), Judges s → s.st.state ≠ .departing →
    1 ≤ beNat [c1, c0] → beNat [c1, c0] ≤ 4096 → beNat [c1, c0] ≤ s.seat.free →
    ∃ t, exec (.seatWithdraw [tag, 2#8, c1, c0]) s = .next t ∧ t.host.slot = .busy tag ∧
      t.seat.free = s.seat.free - beNat [c1, c0] ∧ t.seat.bound = s.seat.bound ∧ t.seat.escrow = s.seat.escrow ∧
      t.seat.receipts = s.seat.receipts ∧ t.seat.next = s.seat.next ∧ t.seat.serial = s.seat.serial ∧
      t.st = s.st ∧ t.zone = s.zone ∧ LinkKept s t ∧ SenseKept s t ∧
      Wait.reply ∈ t.store.seat.waiting ++ t.store.seat.waitingNext) ∧
  (∀ (s : State) (tag x3 x2 x1 x0 : Byte) (e : Escrow), Judges s → escrowOf s (beNat [x3, x2, x1, x0]) = some e →
    e.stranded = true →
    ∃ t, exec (.seatReclaim [tag, 4#8, x3, x2, x1, x0]) s = .next t ∧ t.host.slot = .busy tag ∧
      t.seat.receipts = s.seat.receipts ∧ t.seat.bound = s.seat.bound ∧ t.seat.serial = s.seat.serial ∧
      Wait.reply ∈ t.store.seat.waiting ++ t.store.seat.waitingNext ∧
      (s.st.state ≠ .departing → t.seat.free = s.seat.free + e.count ∧
        t.seat.escrow = (s.seat.escrow.filter fun y => y.xfer ≠ beNat [x3, x2, x1, x0]) ∧ t.st = s.st ∧
        t.zone = s.zone ∧ LinkKept s t ∧ SenseKept s t))

/-- The draft commands change the draft and nothing else of the zoning unit, and reply with its zone and entry
counts (R144). The layout of the replies is the model's choice (notes/assumptions/13.md). -/
def Obligations.DraftCommands : Prop :=
  ∀ (s : State) (tag : Byte), Judges s → zoning s = true → s.st.state = .active →
    (∃ t, exec (.zoneDraftClear [tag, 0#8]) s = .next t ∧ Replied s t .ok tag (b2 0 ++ b2 0) ∧
      t.zone = { s.zone with draft := [] } ∧ t.st = s.st ∧ SeatsKept s t ∧ LinkKept s t ∧ SenseKept s t) ∧
    (∀ (p : List Byte) (e : ZEntry), p.length = 10 → readEntry p = e → e.zone ≠ 0 → e.node ≠ 0 →
      (e ∈ s.zone.draft ∨ draftFull e s.zone.draft = false →
        ∃ t z, exec (.zoneDraftAdd (tag :: 10#8 :: p)) s = .next t ∧
          z = (if e ∈ s.zone.draft then s.zone.draft else insertEntry e s.zone.draft) ∧
          Replied s t .ok tag (b2 (zoneCount z) ++ b2 z.length) ∧ t.zone = { s.zone with draft := z } ∧
          t.st = s.st ∧ SeatsKept s t ∧ LinkKept s t ∧ SenseKept s t) ∧
      (∃ t z, exec (.zoneDraftRemove (tag :: 10#8 :: p)) s = .next t ∧ z = (s.zone.draft.filter fun x => x ≠ e) ∧
        Replied s t .ok tag (b2 (zoneCount z) ++ b2 z.length) ∧ t.zone = { s.zone with draft := z } ∧
        t.st = s.st ∧ SeatsKept s t ∧ LinkKept s t ∧ SenseKept s t))

/-- ZONE-PUBLISH stages the draft under the next generation and starts publishing, to the PRESENT LINE and
SUPERVISOR peers as voters; a set too large for a port's filter, the first in port order whose allowed list would hold
more than 256, is abandoned at once (R145, R160). -/
def Obligations.PublishStarts : Prop :=
  (∀ (z : ZoneSet) (s : State) (n : Nat), overCapacity z s = some n ↔
    (∃ p x, portAt s n = some p ∧ p.node = some x ∧ 256 < (allowedList z x).length) ∧
      ∀ m p x, m < n → portAt s m = some p → p.node = some x → (allowedList z x).length ≤ 256) ∧
  (∀ (s : State) (a : Addr), a ∈ voters s ↔ a ≠ ownAddr s ∧
    ∃ h f, entryAt s a = .known .present h f ∧ (f.role = .line ∨ f.role = .supervisor)) ∧
  ∀ (s : State) (tag : Byte), Judges s → zoning s = true → s.st.state = .active → s.zone.lock = .free →
    s.zone.commitPending = false → s.zone.draft ≠ [] → max s.zone.gen s.zone.lastProposed < max32 →
    ∃ t, exec (.zonePublish [tag, 0#8]) s = .next t ∧ Replied s t .accepted tag [] ∧ t.zone.draft = [] ∧
      t.zone.lastProposed = max s.zone.gen s.zone.lastProposed + 1 ∧ t.zone.active = s.zone.active ∧
      t.zone.gen = s.zone.gen ∧ t.st = s.st ∧ SeatsKept s t ∧ LinkKept s t ∧ SenseKept s t ∧
      t.zone.results = (voters s).map (fun a => { voter := a, verdict := none }) ∧
      Wait.zoneOpen (max s.zone.gen s.zone.lastProposed + 1) ∈
        t.store.zoning.waiting ++ t.store.zoning.waitingNext ∧
      (overCapacity s.zone.draft s = none → t.zone.lock = .publishing ∧ t.zone.origin = some (ownAddr s) ∧
        t.zone.proposed = some (max s.zone.gen s.zone.lastProposed + 1) ∧ t.zone.staged = s.zone.draft ∧
        t.zone.segCount = ceilDiv s.zone.draft.length 5) ∧
      (∀ n, overCapacity s.zone.draft s = some n → t.zone.lock = .free ∧ t.zone.staged = s.zone.staged)

/-- The reads answer with what stands, in every state from SETUP onward, and a station with nothing left to follow they
change in nothing but the module port; READ-COUNTERS with clear sets the counters to 0, and any option but 0 and 1 is
refused RANGE. READ-TABLE reads up to four records from its index and sets the cursor past them; it takes index 0 of an
empty table, and each refusal of it clears the cursor. READ-NEXT reads on; past the end it answers with no records and
the end flag, and with no cursor it is refused (R40, R177, R178). The byte layouts, and the cursor's index in a reply
that has no record, are the model's choice (notes/assumptions/13.md, 66.md), and so is that READ-TABLE is judged by the
role before the index (notes/assumptions/73.md). -/
def Obligations.ReadsAnswer : Prop :=
  ∀ (s : State) (tag : Byte), Judges s →
    (∃ t, exec (.readStatus [tag, 0#8]) s = .next t ∧ Replied s t .ok tag (statusBytes s) ∧ (Quiet s → t = { s with
      host.slot := .reply { status := .ok, tag := tag, data := statusBytes s }, host.out := [statusByte s] })) ∧
    (∃ t, exec (.readCounters [tag, 1#8, 0#8]) s = .next t ∧ Replied s t .ok tag s.link.counters.bytes ∧
      t.link.counters = s.link.counters ∧ (Quiet s → t = { s with
        host.slot := .reply { status := .ok, tag := tag, data := s.link.counters.bytes },
        host.out := [statusByte s] })) ∧
    (∃ t, exec (.readCounters [tag, 1#8, 1#8]) s = .next t ∧ Replied s t .ok tag s.link.counters.bytes ∧
      t.link.counters = Counters.zero ∧ (Quiet s → t = { s with
        link.counters := Counters.zero,
        host.slot := .reply { status := .ok, tag := tag, data := s.link.counters.bytes },
        host.out := [statusByte s] })) ∧
    (∀ o : Byte, 2 ≤ o.toNat → ∃ t, exec (.readCounters [tag, 1#8, o]) s = .next t ∧ Replied s t .range tag [] ∧
      t.link.counters = s.link.counters) ∧
    (∃ t, exec (.readNotice [tag, 0#8]) s = .next t ∧
      Replied s t (if s.host.notices.length = 32 then .full else .ok) tag
        ((match s.host.notices with | [] => [] | n :: _ => n.bytes) ++ b1 s.host.overflow) ∧
      (Quiet s → t.host.notices = s.host.notices.tail ∧ t.host.overflow = 0 ∧
        (s.host.notices.length = 1 → t.host.int = false) ∧ t.st = s.st ∧ t.link = s.link ∧ t.view = s.view ∧
        t.seat = s.seat ∧ t.port = s.port ∧ t.zone = s.zone)) ∧
    (∀ c i1 i0 : Byte, ∃ t, exec (.readTable [tag, 3#8, c, i1, i0]) s = .next t ∧
      (Table.ofCode c.toNat = none → Replied s t .range tag [] ∧ t.host.cursor = none) ∧
      (∀ tb, Table.ofCode c.toNat = some tb → tb.usedOn (role s) = false →
        Replied s t .wrongRole tag [] ∧ t.host.cursor = none) ∧
      (∀ tb l i, Table.ofCode c.toNat = some tb → tb.usedOn (role s) = true → l = tableRecords tb s →
        i = beNat [i1, i0] →
        (l.length ≤ i → l ≠ [] ∨ i ≠ 0 → Replied s t .range tag [] ∧ t.host.cursor = none) ∧
        (i < l.length ∨ (l = [] ∧ i = 0) →
          Replied s t .ok tag (tableReply i ((l.drop i).take 4) (decide (l.length ≤ i + 4))) ∧
          t.host.cursor = some { table := tb, next := i + min 4 (l.length - i),
                                 ended := decide (l.length ≤ i + 4) })) ∧
      (Quiet s → t = { s with host.slot := t.host.slot, host.cursor := t.host.cursor, host.out := t.host.out })) ∧
    (∃ t, exec (.readNext [tag, 0#8]) s = .next t ∧
      (s.host.cursor = none → Replied s t .wrongState tag [] ∧ t.host.cursor = none) ∧
      (∀ c l, s.host.cursor = some c → l = tableRecords c.table s →
        (c.ended = false →
          Replied s t .ok tag (tableReply c.next ((l.drop c.next).take 4) (decide (l.length ≤ c.next + 4))) ∧
          t.host.cursor = some { table := c.table, next := c.next + min 4 (l.length - c.next),
                                 ended := decide (l.length ≤ c.next + 4) }) ∧
        (c.ended = true → Replied s t .ok tag (tableReply c.next [] true) ∧ t.host.cursor = s.host.cursor)) ∧
      (Quiet s → t = { s with host.slot := t.host.slot, host.cursor := t.host.cursor, host.out := t.host.out }))
end

