-- ==== Sys2Proof/Laws/State.lean ====
section
/-! SUPPORT. The state's plain updates: for each, what each group of the state holds after it. -/

namespace Sys2Proof.Machine

@[simp] theorem reach_frame (d : Nat) (s : State) :
    (reach d s).draws = s.draws ∧ (reach d s).st = s.st ∧ (reach d s).store = s.store ∧
    (reach d s).link = s.link ∧ (reach d s).view = s.view ∧ (reach d s).budget = s.budget ∧
    (reach d s).cool = s.cool ∧ (reach d s).sup = s.sup ∧ (reach d s).seat = s.seat ∧ (reach d s).port = s.port ∧
    (reach d s).zone = s.zone ∧ (reach d s).filt = s.filt ∧ (reach d s).dep = s.dep ∧ (reach d s).host = s.host ∧
    (reach d s).pending = s.pending := by
  exact ⟨rfl, rfl, rfl, rfl, rfl, rfl, rfl, rfl, rfl, rfl, rfl, rfl, rfl, rfl, rfl⟩

@[simp] theorem tick_frame (s : State) :
    (tick s).draws = s.draws ∧ (tick s).st = s.st ∧ (tick s).store = s.store ∧ (tick s).link = s.link ∧
    (tick s).view = s.view ∧ (tick s).budget = s.budget ∧ (tick s).cool = s.cool ∧ (tick s).sup = s.sup ∧
    (tick s).seat = s.seat ∧ (tick s).port = s.port ∧ (tick s).zone = s.zone ∧ (tick s).filt = s.filt ∧
    (tick s).dep = s.dep ∧ (tick s).host = s.host ∧ (tick s).pending = s.pending := by
  exact ⟨rfl, rfl, rfl, rfl, rfl, rfl, rfl, rfl, rfl, rfl, rfl, rfl, rfl, rfl, rfl⟩

@[simp] theorem setEntry_frame (a : Addr) (e : Entry) (s : State) :
    (setEntry a e s).now = s.now ∧ (setEntry a e s).draws = s.draws ∧ (setEntry a e s).st = s.st ∧
    (setEntry a e s).store = s.store ∧ (setEntry a e s).link = s.link ∧ (setEntry a e s).budget = s.budget ∧
    (setEntry a e s).cool = s.cool ∧ (setEntry a e s).sup = s.sup ∧ (setEntry a e s).seat = s.seat ∧
    (setEntry a e s).port = s.port ∧ (setEntry a e s).zone = s.zone ∧ (setEntry a e s).filt = s.filt ∧
    (setEntry a e s).dep = s.dep ∧ (setEntry a e s).host = s.host ∧ (setEntry a e s).pending = s.pending := by
  exact ⟨rfl, rfl, rfl, rfl, rfl, rfl, rfl, rfl, rfl, rfl, rfl, rfl, rfl, rfl, rfl⟩

@[simp] theorem setRotor_frame (i : Nat) (r : Rotor) (s : State) :
    (setRotor i r s).now = s.now ∧ (setRotor i r s).draws = s.draws ∧ (setRotor i r s).st = s.st ∧
    (setRotor i r s).store = s.store ∧ (setRotor i r s).link = s.link ∧ (setRotor i r s).view = s.view ∧
    (setRotor i r s).budget = s.budget ∧ (setRotor i r s).sup = s.sup ∧ (setRotor i r s).seat = s.seat ∧
    (setRotor i r s).port = s.port ∧ (setRotor i r s).zone = s.zone ∧ (setRotor i r s).filt = s.filt ∧
    (setRotor i r s).dep = s.dep ∧ (setRotor i r s).host = s.host ∧ (setRotor i r s).pending = s.pending := by
  exact ⟨rfl, rfl, rfl, rfl, rfl, rfl, rfl, rfl, rfl, rfl, rfl, rfl, rfl, rfl, rfl⟩

@[simp] theorem setPort_frame (n : Nat) (p : Port) (s : State) :
    (setPort n p s).now = s.now ∧ (setPort n p s).draws = s.draws ∧ (setPort n p s).st = s.st ∧
    (setPort n p s).store = s.store ∧ (setPort n p s).link = s.link ∧ (setPort n p s).view = s.view ∧
    (setPort n p s).budget = s.budget ∧ (setPort n p s).cool = s.cool ∧ (setPort n p s).sup = s.sup ∧
    (setPort n p s).seat = s.seat ∧ (setPort n p s).zone = s.zone ∧ (setPort n p s).filt = s.filt ∧
    (setPort n p s).dep = s.dep ∧ (setPort n p s).host = s.host ∧ (setPort n p s).pending = s.pending := by
  exact ⟨rfl, rfl, rfl, rfl, rfl, rfl, rfl, rfl, rfl, rfl, rfl, rfl, rfl, rfl, rfl⟩

@[simp] theorem touchSeat_frame (w : List Wait) (s : State) :
    (touchSeat w s).now = s.now ∧ (touchSeat w s).draws = s.draws ∧ (touchSeat w s).st = s.st ∧
    (touchSeat w s).link = s.link ∧ (touchSeat w s).view = s.view ∧ (touchSeat w s).budget = s.budget ∧
    (touchSeat w s).cool = s.cool ∧ (touchSeat w s).sup = s.sup ∧ (touchSeat w s).seat = s.seat ∧
    (touchSeat w s).port = s.port ∧ (touchSeat w s).zone = s.zone ∧ (touchSeat w s).filt = s.filt ∧
    (touchSeat w s).dep = s.dep ∧ (touchSeat w s).host = s.host ∧ (touchSeat w s).pending = s.pending := by
  exact ⟨rfl, rfl, rfl, rfl, rfl, rfl, rfl, rfl, rfl, rfl, rfl, rfl, rfl, rfl, rfl⟩

@[simp] theorem touchZone_frame (w : List Wait) (s : State) :
    (touchZone w s).now = s.now ∧ (touchZone w s).draws = s.draws ∧ (touchZone w s).st = s.st ∧
    (touchZone w s).link = s.link ∧ (touchZone w s).view = s.view ∧ (touchZone w s).budget = s.budget ∧
    (touchZone w s).cool = s.cool ∧ (touchZone w s).sup = s.sup ∧ (touchZone w s).seat = s.seat ∧
    (touchZone w s).port = s.port ∧ (touchZone w s).zone = s.zone ∧ (touchZone w s).filt = s.filt ∧
    (touchZone w s).dep = s.dep ∧ (touchZone w s).host = s.host ∧ (touchZone w s).pending = s.pending := by
  exact ⟨rfl, rfl, rfl, rfl, rfl, rfl, rfl, rfl, rfl, rfl, rfl, rfl, rfl, rfl, rfl⟩

@[simp] theorem closeWindow_frame (s : State) :
    (closeWindow s).now = s.now ∧ (closeWindow s).draws = s.draws ∧ (closeWindow s).st = s.st ∧
    (closeWindow s).store = s.store ∧ (closeWindow s).link = s.link ∧ (closeWindow s).view = s.view ∧
    (closeWindow s).cool = s.cool ∧ (closeWindow s).sup = s.sup ∧ (closeWindow s).seat = s.seat ∧
    (closeWindow s).port = s.port ∧ (closeWindow s).zone = s.zone ∧ (closeWindow s).filt = s.filt ∧
    (closeWindow s).dep = s.dep ∧ (closeWindow s).host = s.host ∧ (closeWindow s).pending = s.pending := by
  exact ⟨rfl, rfl, rfl, rfl, rfl, rfl, rfl, rfl, rfl, rfl, rfl, rfl, rfl, rfl, rfl⟩

@[simp] theorem noteChange_frame (s : State) :
    (noteChange s).now = s.now ∧ (noteChange s).draws = s.draws ∧ (noteChange s).st = s.st ∧
    (noteChange s).store = s.store ∧ (noteChange s).link = s.link ∧ (noteChange s).view = s.view ∧
    (noteChange s).budget = s.budget ∧ (noteChange s).cool = s.cool ∧ (noteChange s).sup = s.sup ∧
    (noteChange s).seat = s.seat ∧ (noteChange s).port = s.port ∧ (noteChange s).zone = s.zone ∧
    (noteChange s).filt = s.filt ∧ (noteChange s).dep = s.dep ∧ (noteChange s).host = s.host ∧
    (noteChange s).pending = s.pending := by
  exact ⟨rfl, rfl, rfl, rfl, rfl, rfl, rfl, rfl, rfl, rfl, rfl, rfl, rfl, rfl, rfl, rfl⟩

@[simp] theorem silenceUnarmed_frame (s : State) :
    (silenceUnarmed s).now = s.now ∧ (silenceUnarmed s).draws = s.draws ∧ (silenceUnarmed s).store = s.store ∧
    (silenceUnarmed s).link = s.link ∧ (silenceUnarmed s).view = s.view ∧ (silenceUnarmed s).budget = s.budget ∧
    (silenceUnarmed s).cool = s.cool ∧ (silenceUnarmed s).sup = s.sup ∧ (silenceUnarmed s).seat = s.seat ∧
    (silenceUnarmed s).port = s.port ∧ (silenceUnarmed s).zone = s.zone ∧ (silenceUnarmed s).filt = s.filt ∧
    (silenceUnarmed s).dep = s.dep ∧ (silenceUnarmed s).host = s.host ∧ (silenceUnarmed s).pending = s.pending := by
  exact ⟨rfl, rfl, rfl, rfl, rfl, rfl, rfl, rfl, rfl, rfl, rfl, rfl, rfl, rfl, rfl⟩

@[simp] theorem shiftStatus_frame (s : State) :
    (shiftStatus s).now = s.now ∧ (shiftStatus s).draws = s.draws ∧ (shiftStatus s).st = s.st ∧
    (shiftStatus s).store = s.store ∧ (shiftStatus s).link = s.link ∧ (shiftStatus s).view = s.view ∧
    (shiftStatus s).budget = s.budget ∧ (shiftStatus s).cool = s.cool ∧ (shiftStatus s).sup = s.sup ∧
    (shiftStatus s).seat = s.seat ∧ (shiftStatus s).port = s.port ∧ (shiftStatus s).zone = s.zone ∧
    (shiftStatus s).filt = s.filt ∧ (shiftStatus s).dep = s.dep ∧ (shiftStatus s).pending = s.pending := by
  exact ⟨rfl, rfl, rfl, rfl, rfl, rfl, rfl, rfl, rfl, rfl, rfl, rfl, rfl, rfl, rfl⟩

@[simp] theorem clearCursor_frame (s : State) :
    (clearCursor s).now = s.now ∧ (clearCursor s).draws = s.draws ∧ (clearCursor s).st = s.st ∧
    (clearCursor s).store = s.store ∧ (clearCursor s).link = s.link ∧ (clearCursor s).view = s.view ∧
    (clearCursor s).budget = s.budget ∧ (clearCursor s).cool = s.cool ∧ (clearCursor s).sup = s.sup ∧
    (clearCursor s).seat = s.seat ∧ (clearCursor s).port = s.port ∧ (clearCursor s).zone = s.zone ∧
    (clearCursor s).filt = s.filt ∧ (clearCursor s).dep = s.dep ∧ (clearCursor s).pending = s.pending := by
  exact ⟨rfl, rfl, rfl, rfl, rfl, rfl, rfl, rfl, rfl, rfl, rfl, rfl, rfl, rfl, rfl⟩

@[simp] theorem lineIdle_frame (s : State) :
    (lineIdle s).now = s.now ∧ (lineIdle s).draws = s.draws ∧ (lineIdle s).st = s.st ∧
    (lineIdle s).store = s.store ∧ (lineIdle s).view = s.view ∧ (lineIdle s).budget = s.budget ∧
    (lineIdle s).cool = s.cool ∧ (lineIdle s).sup = s.sup ∧ (lineIdle s).seat = s.seat ∧
    (lineIdle s).port = s.port ∧ (lineIdle s).zone = s.zone ∧ (lineIdle s).filt = s.filt ∧
    (lineIdle s).dep = s.dep ∧ (lineIdle s).host = s.host ∧ (lineIdle s).pending = s.pending := by
  exact ⟨rfl, rfl, rfl, rfl, rfl, rfl, rfl, rfl, rfl, rfl, rfl, rfl, rfl, rfl, rfl⟩

@[simp] theorem recordStart_frame (s : State) :
    (recordStart s).now = s.now ∧ (recordStart s).draws = s.draws ∧ (recordStart s).st = s.st ∧
    (recordStart s).store = s.store ∧ (recordStart s).link = s.link ∧ (recordStart s).view = s.view ∧
    (recordStart s).budget = s.budget ∧ (recordStart s).cool = s.cool ∧ (recordStart s).sup = s.sup ∧
    (recordStart s).seat = s.seat ∧ (recordStart s).zone = s.zone ∧ (recordStart s).filt = s.filt ∧
    (recordStart s).dep = s.dep ∧ (recordStart s).host = s.host ∧ (recordStart s).pending = s.pending := by
  exact ⟨rfl, rfl, rfl, rfl, rfl, rfl, rfl, rfl, rfl, rfl, rfl, rfl, rfl, rfl, rfl⟩

@[simp] theorem stopEscrow_frame (s : State) :
    (stopEscrow s).now = s.now ∧ (stopEscrow s).draws = s.draws ∧ (stopEscrow s).st = s.st ∧
    (stopEscrow s).store = s.store ∧ (stopEscrow s).link = s.link ∧ (stopEscrow s).view = s.view ∧
    (stopEscrow s).budget = s.budget ∧ (stopEscrow s).cool = s.cool ∧ (stopEscrow s).sup = s.sup ∧
    (stopEscrow s).port = s.port ∧ (stopEscrow s).zone = s.zone ∧ (stopEscrow s).filt = s.filt ∧
    (stopEscrow s).dep = s.dep ∧ (stopEscrow s).host = s.host ∧ (stopEscrow s).pending = s.pending := by
  exact ⟨rfl, rfl, rfl, rfl, rfl, rfl, rfl, rfl, rfl, rfl, rfl, rfl, rfl, rfl, rfl⟩

@[simp] theorem mapEscrow_frame (x : Nat) (f : Escrow → Escrow) (s : State) :
    (mapEscrow x f s).now = s.now ∧ (mapEscrow x f s).draws = s.draws ∧ (mapEscrow x f s).st = s.st ∧
    (mapEscrow x f s).store = s.store ∧ (mapEscrow x f s).link = s.link ∧ (mapEscrow x f s).view = s.view ∧
    (mapEscrow x f s).budget = s.budget ∧ (mapEscrow x f s).cool = s.cool ∧ (mapEscrow x f s).sup = s.sup ∧
    (mapEscrow x f s).port = s.port ∧ (mapEscrow x f s).zone = s.zone ∧ (mapEscrow x f s).filt = s.filt ∧
    (mapEscrow x f s).dep = s.dep ∧ (mapEscrow x f s).host = s.host ∧ (mapEscrow x f s).pending = s.pending := by
  exact ⟨rfl, rfl, rfl, rfl, rfl, rfl, rfl, rfl, rfl, rfl, rfl, rfl, rfl, rfl, rfl⟩

@[simp] theorem dropEscrow_frame (x : Nat) (s : State) :
    (dropEscrow x s).now = s.now ∧ (dropEscrow x s).draws = s.draws ∧ (dropEscrow x s).st = s.st ∧
    (dropEscrow x s).store = s.store ∧ (dropEscrow x s).link = s.link ∧ (dropEscrow x s).view = s.view ∧
    (dropEscrow x s).budget = s.budget ∧ (dropEscrow x s).cool = s.cool ∧ (dropEscrow x s).sup = s.sup ∧
    (dropEscrow x s).port = s.port ∧ (dropEscrow x s).zone = s.zone ∧ (dropEscrow x s).filt = s.filt ∧
    (dropEscrow x s).dep = s.dep ∧ (dropEscrow x s).host = s.host ∧ (dropEscrow x s).pending = s.pending := by
  exact ⟨rfl, rfl, rfl, rfl, rfl, rfl, rfl, rfl, rfl, rfl, rfl, rfl, rfl, rfl, rfl⟩

@[simp] theorem stopAsking_frame (s : State) :
    (stopAsking s).now = s.now ∧ (stopAsking s).draws = s.draws ∧ (stopAsking s).st = s.st ∧
    (stopAsking s).store = s.store ∧ (stopAsking s).link = s.link ∧ (stopAsking s).view = s.view ∧
    (stopAsking s).budget = s.budget ∧ (stopAsking s).cool = s.cool ∧ (stopAsking s).sup = s.sup ∧
    (stopAsking s).port = s.port ∧ (stopAsking s).zone = s.zone ∧ (stopAsking s).filt = s.filt ∧
    (stopAsking s).dep = s.dep ∧ (stopAsking s).host = s.host ∧ (stopAsking s).pending = s.pending := by
  exact ⟨rfl, rfl, rfl, rfl, rfl, rfl, rfl, rfl, rfl, rfl, rfl, rfl, rfl, rfl, rfl⟩

@[simp] theorem updateDemand_frame (s : State) :
    (updateDemand s).now = s.now ∧ (updateDemand s).draws = s.draws ∧ (updateDemand s).st = s.st ∧
    (updateDemand s).store = s.store ∧ (updateDemand s).link = s.link ∧ (updateDemand s).view = s.view ∧
    (updateDemand s).budget = s.budget ∧ (updateDemand s).sup = s.sup ∧ (updateDemand s).seat = s.seat ∧
    (updateDemand s).port = s.port ∧ (updateDemand s).zone = s.zone ∧ (updateDemand s).filt = s.filt ∧
    (updateDemand s).dep = s.dep ∧ (updateDemand s).host = s.host ∧ (updateDemand s).pending = s.pending := by
  exact ⟨rfl, rfl, rfl, rfl, rfl, rfl, rfl, rfl, rfl, rfl, rfl, rfl, rfl, rfl, rfl⟩

@[simp] theorem updateCounts_frame (s : State) :
    (updateCounts s).now = s.now ∧ (updateCounts s).draws = s.draws ∧ (updateCounts s).st = s.st ∧
    (updateCounts s).store = s.store ∧ (updateCounts s).link = s.link ∧ (updateCounts s).view = s.view ∧
    (updateCounts s).budget = s.budget ∧ (updateCounts s).sup = s.sup ∧ (updateCounts s).seat = s.seat ∧
    (updateCounts s).port = s.port ∧ (updateCounts s).zone = s.zone ∧ (updateCounts s).filt = s.filt ∧
    (updateCounts s).dep = s.dep ∧ (updateCounts s).host = s.host ∧ (updateCounts s).pending = s.pending := by
  exact ⟨rfl, rfl, rfl, rfl, rfl, rfl, rfl, rfl, rfl, rfl, rfl, rfl, rfl, rfl, rfl⟩

@[simp] theorem updateOffer_frame (s : State) :
    (updateOffer s).now = s.now ∧ (updateOffer s).draws = s.draws ∧ (updateOffer s).st = s.st ∧
    (updateOffer s).store = s.store ∧ (updateOffer s).link = s.link ∧ (updateOffer s).view = s.view ∧
    (updateOffer s).cool = s.cool ∧ (updateOffer s).sup = s.sup ∧ (updateOffer s).seat = s.seat ∧
    (updateOffer s).port = s.port ∧ (updateOffer s).zone = s.zone ∧ (updateOffer s).filt = s.filt ∧
    (updateOffer s).dep = s.dep ∧ (updateOffer s).host = s.host ∧ (updateOffer s).pending = s.pending := by
  exact ⟨rfl, rfl, rfl, rfl, rfl, rfl, rfl, rfl, rfl, rfl, rfl, rfl, rfl, rfl, rfl⟩

@[simp] theorem compute_frame (s : State) :
    (compute s).now = s.now ∧ (compute s).draws = s.draws ∧ (compute s).st = s.st ∧ (compute s).store = s.store ∧
    (compute s).link = s.link ∧ (compute s).view = s.view ∧ (compute s).cool = s.cool ∧ (compute s).sup = s.sup ∧
    (compute s).seat = s.seat ∧ (compute s).port = s.port ∧ (compute s).zone = s.zone ∧
    (compute s).filt = s.filt ∧ (compute s).dep = s.dep ∧ (compute s).host = s.host ∧
    (compute s).pending = s.pending := by
  exact ⟨rfl, rfl, rfl, rfl, rfl, rfl, rfl, rfl, rfl, rfl, rfl, rfl, rfl, rfl, rfl⟩

@[simp] theorem dropEntry_frame (n : Nat) (s : State) :
    (dropEntry n s).now = s.now ∧ (dropEntry n s).draws = s.draws ∧ (dropEntry n s).st = s.st ∧
    (dropEntry n s).store = s.store ∧ (dropEntry n s).link = s.link ∧ (dropEntry n s).view = s.view ∧
    (dropEntry n s).budget = s.budget ∧ (dropEntry n s).cool = s.cool ∧ (dropEntry n s).sup = s.sup ∧
    (dropEntry n s).seat = s.seat ∧ (dropEntry n s).zone = s.zone ∧ (dropEntry n s).filt = s.filt ∧
    (dropEntry n s).dep = s.dep ∧ (dropEntry n s).host = s.host ∧ (dropEntry n s).pending = s.pending := by
  exact ⟨rfl, rfl, rfl, rfl, rfl, rfl, rfl, rfl, rfl, rfl, rfl, rfl, rfl, rfl, rfl⟩

@[simp] theorem endIgnored_frame (s : State) :
    (endIgnored s).now = s.now ∧ (endIgnored s).draws = s.draws ∧ (endIgnored s).st = s.st ∧
    (endIgnored s).store = s.store ∧ (endIgnored s).link = s.link ∧ (endIgnored s).view = s.view ∧
    (endIgnored s).budget = s.budget ∧ (endIgnored s).cool = s.cool ∧ (endIgnored s).sup = s.sup ∧
    (endIgnored s).seat = s.seat ∧ (endIgnored s).port = s.port ∧ (endIgnored s).zone = s.zone ∧
    (endIgnored s).dep = s.dep ∧ (endIgnored s).host = s.host ∧ (endIgnored s).pending = s.pending := by
  exact ⟨rfl, rfl, rfl, rfl, rfl, rfl, rfl, rfl, rfl, rfl, rfl, rfl, rfl, rfl, rfl⟩

@[simp] theorem freeLock_frame (s : State) :
    (freeLock s).now = s.now ∧ (freeLock s).draws = s.draws ∧ (freeLock s).st = s.st ∧
    (freeLock s).store = s.store ∧ (freeLock s).link = s.link ∧ (freeLock s).view = s.view ∧
    (freeLock s).budget = s.budget ∧ (freeLock s).cool = s.cool ∧ (freeLock s).sup = s.sup ∧
    (freeLock s).seat = s.seat ∧ (freeLock s).port = s.port ∧ (freeLock s).filt = s.filt ∧
    (freeLock s).dep = s.dep ∧ (freeLock s).host = s.host ∧ (freeLock s).pending = s.pending := by
  exact ⟨rfl, rfl, rfl, rfl, rfl, rfl, rfl, rfl, rfl, rfl, rfl, rfl, rfl, rfl, rfl⟩

@[simp] theorem dropUnoffered_frame (s : State) :
    (dropUnoffered s).now = s.now ∧ (dropUnoffered s).draws = s.draws ∧ (dropUnoffered s).st = s.st ∧
    (dropUnoffered s).store = s.store ∧ (dropUnoffered s).link = s.link ∧ (dropUnoffered s).view = s.view ∧
    (dropUnoffered s).budget = s.budget ∧ (dropUnoffered s).cool = s.cool ∧ (dropUnoffered s).sup = s.sup ∧
    (dropUnoffered s).seat = s.seat ∧ (dropUnoffered s).port = s.port ∧ (dropUnoffered s).filt = s.filt ∧
    (dropUnoffered s).dep = s.dep ∧ (dropUnoffered s).host = s.host ∧ (dropUnoffered s).pending = s.pending := by
  exact ⟨rfl, rfl, rfl, rfl, rfl, rfl, rfl, rfl, rfl, rfl, rfl, rfl, rfl, rfl, rfl⟩

@[simp] theorem kick_frame (s : State) :
    (kick s).now = s.now ∧ (kick s).draws = s.draws ∧ (kick s).st = s.st ∧ (kick s).store = s.store ∧
    (kick s).view = s.view ∧ (kick s).budget = s.budget ∧ (kick s).cool = s.cool ∧ (kick s).sup = s.sup ∧
    (kick s).seat = s.seat ∧ (kick s).port = s.port ∧ (kick s).zone = s.zone ∧ (kick s).filt = s.filt ∧
    (kick s).dep = s.dep ∧ (kick s).host = s.host ∧ (kick s).pending = s.pending := by
  exact ⟨rfl, rfl, rfl, rfl, rfl, rfl, rfl, rfl, rfl, rfl, rfl, rfl, rfl, rfl, rfl⟩

@[simp] theorem countGive_frame (a : Addr) (f : GiveFields) (s : State) :
    (countGive a f s).now = s.now ∧ (countGive a f s).draws = s.draws ∧ (countGive a f s).st = s.st ∧
    (countGive a f s).store = s.store ∧ (countGive a f s).link = s.link ∧ (countGive a f s).view = s.view ∧
    (countGive a f s).budget = s.budget ∧ (countGive a f s).cool = s.cool ∧ (countGive a f s).sup = s.sup ∧
    (countGive a f s).port = s.port ∧ (countGive a f s).zone = s.zone ∧ (countGive a f s).filt = s.filt ∧
    (countGive a f s).dep = s.dep ∧ (countGive a f s).host = s.host ∧ (countGive a f s).pending = s.pending := by
  exact ⟨rfl, rfl, rfl, rfl, rfl, rfl, rfl, rfl, rfl, rfl, rfl, rfl, rfl, rfl, rfl⟩


/-! What the plain updates put in the group they touch. -/

@[simp] theorem reach_now (d : Nat) (s : State) : (reach d s).now = max s.now d := rfl
@[simp] theorem tick_now (s : State) : (tick s).now = s.now + 1 := rfl
@[simp] theorem setEntry_entries (a : Addr) (e : Entry) (s : State) :
    (setEntry a e s).view.entries = s.view.entries.set a e := rfl
@[simp] theorem setEntry_view (a : Addr) (e : Entry) (s : State) :
    (setEntry a e s).view.period = s.view.period ∧ (setEntry a e s).view.faultLow = s.view.faultLow ∧
    (setEntry a e s).view.faultMeasure = s.view.faultMeasure ∧ (setEntry a e s).view.faultSet = s.view.faultSet ∧
    (setEntry a e s).view.pull = s.view.pull := ⟨rfl, rfl, rfl, rfl, rfl⟩
@[simp] theorem setPort_recs (n : Nat) (p : Port) (s : State) :
    (setPort n p s).port.recs = s.port.recs.set n p := rfl
@[simp] theorem setPort_queue (n : Nat) (p : Port) (s : State) : (setPort n p s).port.queue = s.port.queue := rfl
@[simp] theorem setPort_history (n : Nat) (p : Port) (s : State) : (setPort n p s).port.history = s.port.history := rfl
@[simp] theorem setPort_boundary (n : Nat) (p : Port) (s : State) :
    (setPort n p s).port.boundary = s.port.boundary := rfl
@[simp] theorem dropEntry_boundary (n : Nat) (s : State) : (dropEntry n s).port.boundary = s.port.boundary := rfl
@[simp] theorem dropEntry_history (n : Nat) (s : State) : (dropEntry n s).port.history = s.port.history := rfl
@[simp] theorem setRotor_rotors (i : Nat) (r : Rotor) (s : State) :
    (setRotor i r s).cool.rotors = s.cool.rotors.set i r := rfl
@[simp] theorem closeWindow_rest (s : State) :
    (closeWindow s).budget.heldView = s.budget.heldView ∧ (closeWindow s).budget.retry = s.budget.retry ∧
    (closeWindow s).budget.claim = s.budget.claim ∧ (closeWindow s).budget.margined = s.budget.margined :=
  ⟨rfl, rfl, rfl, rfl⟩
@[simp] theorem closeWindow_window (s : State) : (closeWindow s).budget.window = none := rfl
@[simp] theorem closeWindow_tent (s : State) : (closeWindow s).budget.tent = 0 := rfl
@[simp] theorem silenceUnarmed_silence (s : State) : (silenceUnarmed s).st.silence = some (s.now + Config.ms 2000) := rfl
@[simp] theorem silenceUnarmed_armed (s : State) : (silenceUnarmed s).st.silenceArmed = false := rfl
@[simp] theorem shiftStatus_out (s : State) : (shiftStatus s).host.out = [statusByte s] := rfl
@[simp] theorem clearCursor_cursor (s : State) : (clearCursor s).host.cursor = none := rfl
@[simp] theorem stopAsking_phase (s : State) : (stopAsking s).seat.phase = .idle := rfl
@[simp] theorem stopAsking_answers (s : State) : (stopAsking s).seat.answers = [] := rfl
@[simp] theorem freeLock_lock (s : State) : (freeLock s).zone.lock = .free := rfl
@[simp] theorem freeLock_staged (s : State) : (freeLock s).zone.staged = [] := rfl
@[simp] theorem freeLock_active (s : State) : (freeLock s).zone.active = s.zone.active := rfl
@[simp] theorem freeLock_gen (s : State) : (freeLock s).zone.gen = s.zone.gen := rfl
@[simp] theorem freeLock_rest (s : State) :
    (freeLock s).zone.lastProposed = s.zone.lastProposed ∧ (freeLock s).zone.draft = s.zone.draft ∧
    (freeLock s).zone.results = s.zone.results ∧ (freeLock s).zone.behind = s.zone.behind ∧
    (freeLock s).zone.commitPending = s.zone.commitPending ∧ (freeLock s).zone.outbox = s.zone.outbox :=
  ⟨rfl, rfl, rfl, rfl, rfl, rfl⟩
@[simp] theorem dropUnoffered_zone (s : State) :
    (dropUnoffered s).zone.active = s.zone.active ∧ (dropUnoffered s).zone.gen = s.zone.gen ∧
    (dropUnoffered s).zone.lastProposed = s.zone.lastProposed ∧ (dropUnoffered s).zone.draft = s.zone.draft ∧
    (dropUnoffered s).zone.results = s.zone.results ∧ (dropUnoffered s).zone.behind = s.zone.behind ∧
    (dropUnoffered s).zone.commitPending = s.zone.commitPending ∧ (dropUnoffered s).zone.lock = s.zone.lock :=
  ⟨rfl, rfl, rfl, rfl, rfl, rfl, rfl, rfl⟩
@[simp] theorem endIgnored_flight (s : State) : (endIgnored s).filt.flight = none := rfl
@[simp] theorem updateDemand_demand (s : State) :
    (updateDemand s).cool.demand = demandOf s.st.settings s.cool.forced s.cool.hottest := rfl
@[simp] theorem updateOffer_offer (s : State) :
    (updateOffer s).budget.offer = offerOf (ratedOutput s.st.straps) s.budget.derate s.sup.state := rfl
@[simp] theorem compute_margined (s : State) : (compute s).budget.margined = marginedOf (compute s).budget.usable := rfl

end Sys2Proof.Machine
end

