-- ==== Sys2Proof/Laws/Ops.lean ====
section
/-! SUPPORT. What each shared operation leaves unchanged: time, notices, the link's offers, the view, the budget's
reports. -/

namespace Sys2Proof.Machine

@[simp] theorem raise_frame (k : NoticeKind) (n : Nat) (d : List Byte) (s : State) :
    (raise k n d s).now = s.now ∧ (raise k n d s).draws = s.draws ∧ (raise k n d s).st = s.st ∧
    (raise k n d s).store = s.store ∧ (raise k n d s).link = s.link ∧ (raise k n d s).view = s.view ∧
    (raise k n d s).budget = s.budget ∧ (raise k n d s).cool = s.cool ∧ (raise k n d s).sup = s.sup ∧
    (raise k n d s).seat = s.seat ∧ (raise k n d s).port = s.port ∧ (raise k n d s).zone = s.zone ∧
    (raise k n d s).filt = s.filt ∧ (raise k n d s).dep = s.dep ∧ (raise k n d s).pending = s.pending ∧
    (raise k n d s).host.slot = s.host.slot ∧ (raise k n d s).host.cursor = s.host.cursor ∧
    (raise k n d s).host.out = s.host.out := by
  unfold raise; try dsimp only
  (repeat' split) <;> simp_all

@[simp] theorem raiseOwn_frame (k : NoticeKind) (d : List Byte) (s : State) :
    (raiseOwn k d s).now = s.now ∧ (raiseOwn k d s).draws = s.draws ∧ (raiseOwn k d s).st = s.st ∧
    (raiseOwn k d s).store = s.store ∧ (raiseOwn k d s).link = s.link ∧ (raiseOwn k d s).view = s.view ∧
    (raiseOwn k d s).budget = s.budget ∧ (raiseOwn k d s).cool = s.cool ∧ (raiseOwn k d s).sup = s.sup ∧
    (raiseOwn k d s).seat = s.seat ∧ (raiseOwn k d s).port = s.port ∧ (raiseOwn k d s).zone = s.zone ∧
    (raiseOwn k d s).filt = s.filt ∧ (raiseOwn k d s).dep = s.dep ∧ (raiseOwn k d s).pending = s.pending ∧
    (raiseOwn k d s).host.slot = s.host.slot ∧ (raiseOwn k d s).host.cursor = s.host.cursor ∧
    (raiseOwn k d s).host.out = s.host.out := by
  unfold raiseOwn; try dsimp only
  (repeat' split) <;> simp_all

@[simp] theorem dropNotice_frame (s : State) :
    (dropNotice s).now = s.now ∧ (dropNotice s).draws = s.draws ∧ (dropNotice s).st = s.st ∧
    (dropNotice s).store = s.store ∧ (dropNotice s).link = s.link ∧ (dropNotice s).view = s.view ∧
    (dropNotice s).budget = s.budget ∧ (dropNotice s).cool = s.cool ∧ (dropNotice s).sup = s.sup ∧
    (dropNotice s).seat = s.seat ∧ (dropNotice s).port = s.port ∧ (dropNotice s).zone = s.zone ∧
    (dropNotice s).filt = s.filt ∧ (dropNotice s).dep = s.dep ∧ (dropNotice s).pending = s.pending ∧
    (dropNotice s).host.slot = s.host.slot ∧ (dropNotice s).host.cursor = s.host.cursor ∧
    (dropNotice s).host.out = s.host.out := by
  unfold dropNotice; try dsimp only
  (repeat' split) <;> simp_all

@[simp] theorem answer_frame (c : Status) (d : List Byte) (s : State) :
    (answer c d s).now = s.now ∧ (answer c d s).draws = s.draws ∧ (answer c d s).st = s.st ∧
    (answer c d s).store = s.store ∧ (answer c d s).link = s.link ∧ (answer c d s).view = s.view ∧
    (answer c d s).budget = s.budget ∧ (answer c d s).cool = s.cool ∧ (answer c d s).sup = s.sup ∧
    (answer c d s).seat = s.seat ∧ (answer c d s).port = s.port ∧ (answer c d s).zone = s.zone ∧
    (answer c d s).filt = s.filt ∧ (answer c d s).dep = s.dep ∧ (answer c d s).pending = s.pending ∧
    (answer c d s).host.notices = s.host.notices ∧ (answer c d s).host.overflow = s.host.overflow ∧
    (answer c d s).host.cursor = s.host.cursor ∧ (answer c d s).host.out = s.host.out ∧
    (answer c d s).host.int = s.host.int ∧ (answer c d s).host.intOff = s.host.intOff := by
  unfold answer; try dsimp only
  (repeat' split) <;> simp_all

@[simp] theorem beginWrites_frame (s : State) :
    (beginWrites s).now = s.now ∧ (beginWrites s).draws = s.draws ∧ (beginWrites s).st = s.st ∧
    (beginWrites s).link = s.link ∧ (beginWrites s).view = s.view ∧ (beginWrites s).budget = s.budget ∧
    (beginWrites s).cool = s.cool ∧ (beginWrites s).sup = s.sup ∧ (beginWrites s).seat = s.seat ∧
    (beginWrites s).port = s.port ∧ (beginWrites s).zone = s.zone ∧ (beginWrites s).filt = s.filt ∧
    (beginWrites s).dep = s.dep ∧ (beginWrites s).host = s.host ∧ (beginWrites s).pending = s.pending := by
  unfold beginWrites; try dsimp only
  (repeat' split) <;> simp_all

/-- Eligibility moves the engine alone (R22). -/
@[simp] theorem kick_link (s : State) :
    (kick s).link.urgent = s.link.urgent ∧ (kick s).link.normal = s.link.normal ∧
    (kick s).link.urgentTry = s.link.urgentTry ∧ (kick s).link.normalTry = s.link.normalTry ∧
    (kick s).link.held = s.link.held ∧ (kick s).link.hold = s.link.hold ∧ (kick s).link.guard = s.link.guard ∧
    (kick s).link.counters = s.link.counters ∧ (kick s).link.rx = s.link.rx ∧
    (kick s).link.idleFrom = s.link.idleFrom ∧
    (kick s).link.listenFrom = s.link.listenFrom ∧ (kick s).link.ownUntil = s.link.ownUntil := by
  simp only [kick, kickLink]; (repeat' split) <;> simp

@[simp] theorem preempt_frame (s : State) :
    (preempt s).now = s.now ∧ (preempt s).draws = s.draws ∧ (preempt s).st = s.st ∧ (preempt s).store = s.store ∧
    (preempt s).view = s.view ∧ (preempt s).budget = s.budget ∧ (preempt s).cool = s.cool ∧
    (preempt s).sup = s.sup ∧ (preempt s).seat = s.seat ∧ (preempt s).port = s.port ∧ (preempt s).zone = s.zone ∧
    (preempt s).filt = s.filt ∧ (preempt s).dep = s.dep ∧ (preempt s).host = s.host ∧
    (preempt s).pending = s.pending := by
  unfold preempt; split <;> simp

@[simp] theorem preempt_link (s : State) :
    (preempt s).link.urgent = s.link.urgent ∧ (preempt s).link.normal = s.link.normal ∧
    (preempt s).link.held = s.link.held ∧ (preempt s).link.hold = s.link.hold ∧
    (preempt s).link.guard = s.link.guard ∧ (preempt s).link.counters = s.link.counters ∧
    (preempt s).link.rx = s.link.rx ∧ (preempt s).link.idleFrom = s.link.idleFrom ∧
    (preempt s).link.listenFrom = s.link.listenFrom ∧ (preempt s).link.ownUntil = s.link.ownUntil := by
  unfold preempt; split <;> simp

@[simp] theorem offerNormal_frame (m : Msg) (s : State) :
    (offerNormal m s).1.now = s.now ∧ (offerNormal m s).1.draws = s.draws ∧ (offerNormal m s).1.st = s.st ∧
    (offerNormal m s).1.store = s.store ∧ (offerNormal m s).1.view = s.view ∧
    (offerNormal m s).1.budget = s.budget ∧ (offerNormal m s).1.cool = s.cool ∧ (offerNormal m s).1.sup = s.sup ∧
    (offerNormal m s).1.seat = s.seat ∧ (offerNormal m s).1.port = s.port ∧ (offerNormal m s).1.zone = s.zone ∧
    (offerNormal m s).1.filt = s.filt ∧ (offerNormal m s).1.dep = s.dep ∧ (offerNormal m s).1.host = s.host ∧
    (offerNormal m s).1.pending = s.pending ∧ (offerNormal m s).1.link.rx = s.link.rx ∧
    (offerNormal m s).1.link.counters = s.link.counters ∧ (offerNormal m s).1.link.hold = s.link.hold ∧
    (offerNormal m s).1.link.guard = s.link.guard ∧ (offerNormal m s).1.link.idleFrom = s.link.idleFrom ∧
    (offerNormal m s).1.link.listenFrom = s.link.listenFrom ∧ (offerNormal m s).1.link.ownUntil = s.link.ownUntil := by
  unfold offerNormal; (repeat' split) <;> simp [kick_link]

@[simp] theorem sendNormal_frame (m : Msg) (s : State) :
    (sendNormal m s).now = s.now ∧ (sendNormal m s).draws = s.draws ∧ (sendNormal m s).st = s.st ∧
    (sendNormal m s).store = s.store ∧ (sendNormal m s).view = s.view ∧ (sendNormal m s).budget = s.budget ∧
    (sendNormal m s).cool = s.cool ∧ (sendNormal m s).sup = s.sup ∧ (sendNormal m s).seat = s.seat ∧
    (sendNormal m s).port = s.port ∧ (sendNormal m s).zone = s.zone ∧ (sendNormal m s).filt = s.filt ∧
    (sendNormal m s).dep = s.dep ∧ (sendNormal m s).host = s.host ∧ (sendNormal m s).pending = s.pending ∧
    (sendNormal m s).link.rx = s.link.rx ∧ (sendNormal m s).link.counters = s.link.counters ∧
    (sendNormal m s).link.hold = s.link.hold ∧ (sendNormal m s).link.guard = s.link.guard ∧
    (sendNormal m s).link.idleFrom = s.link.idleFrom ∧
    (sendNormal m s).link.listenFrom = s.link.listenFrom ∧ (sendNormal m s).link.ownUntil = s.link.ownUntil := by
  unfold sendNormal; try dsimp only
  (repeat' split) <;> simp_all

@[simp] theorem offerUrgent_frame (m : Msg) (s : State) :
    (offerUrgent m s).1.now = s.now ∧ (offerUrgent m s).1.draws = s.draws ∧ (offerUrgent m s).1.st = s.st ∧
    (offerUrgent m s).1.store = s.store ∧ (offerUrgent m s).1.view = s.view ∧
    (offerUrgent m s).1.budget = s.budget ∧ (offerUrgent m s).1.cool = s.cool ∧ (offerUrgent m s).1.sup = s.sup ∧
    (offerUrgent m s).1.seat = s.seat ∧ (offerUrgent m s).1.port = s.port ∧ (offerUrgent m s).1.zone = s.zone ∧
    (offerUrgent m s).1.filt = s.filt ∧ (offerUrgent m s).1.dep = s.dep ∧ (offerUrgent m s).1.host = s.host ∧
    (offerUrgent m s).1.pending = s.pending ∧ (offerUrgent m s).1.link.rx = s.link.rx ∧
    (offerUrgent m s).1.link.counters = s.link.counters ∧ (offerUrgent m s).1.link.hold = s.link.hold ∧
    (offerUrgent m s).1.link.guard = s.link.guard ∧ (offerUrgent m s).1.link.idleFrom = s.link.idleFrom ∧
    (offerUrgent m s).1.link.listenFrom = s.link.listenFrom ∧ (offerUrgent m s).1.link.ownUntil = s.link.ownUntil := by
  unfold offerUrgent; (repeat' split) <;> simp [preempt_link]

@[simp] theorem sendDrop_frame (s : State) :
    (sendDrop s).now = s.now ∧ (sendDrop s).draws = s.draws ∧ (sendDrop s).st = s.st ∧
    (sendDrop s).store = s.store ∧ (sendDrop s).view = s.view ∧ (sendDrop s).budget = s.budget ∧
    (sendDrop s).cool = s.cool ∧ (sendDrop s).sup = s.sup ∧ (sendDrop s).seat = s.seat ∧
    (sendDrop s).port = s.port ∧ (sendDrop s).zone = s.zone ∧ (sendDrop s).filt = s.filt ∧
    (sendDrop s).dep = s.dep ∧ (sendDrop s).host = s.host ∧ (sendDrop s).pending = s.pending ∧
    (sendDrop s).link.rx = s.link.rx ∧ (sendDrop s).link.counters = s.link.counters ∧
    (sendDrop s).link.hold = s.link.hold ∧ (sendDrop s).link.guard = s.link.guard ∧
    (sendDrop s).link.idleFrom = s.link.idleFrom ∧
    (sendDrop s).link.listenFrom = s.link.listenFrom ∧ (sendDrop s).link.ownUntil = s.link.ownUntil := by
  unfold sendDrop; try dsimp only
  (repeat' split) <;> simp_all

@[simp] theorem offerRollcall_frame (f : Roll) (s : State) :
    (offerRollcall f s).now = s.now ∧ (offerRollcall f s).draws = s.draws ∧ (offerRollcall f s).st = s.st ∧
    (offerRollcall f s).store = s.store ∧ (offerRollcall f s).budget = s.budget ∧
    (offerRollcall f s).cool = s.cool ∧ (offerRollcall f s).sup = s.sup ∧ (offerRollcall f s).seat = s.seat ∧
    (offerRollcall f s).port = s.port ∧ (offerRollcall f s).zone = s.zone ∧ (offerRollcall f s).filt = s.filt ∧
    (offerRollcall f s).dep = s.dep ∧ (offerRollcall f s).host = s.host ∧
    (offerRollcall f s).pending = s.pending ∧ (offerRollcall f s).link.rx = s.link.rx ∧
    (offerRollcall f s).link.counters = s.link.counters ∧ (offerRollcall f s).link.hold = s.link.hold ∧
    (offerRollcall f s).link.guard = s.link.guard ∧ (offerRollcall f s).link.idleFrom = s.link.idleFrom ∧
    (offerRollcall f s).link.listenFrom = s.link.listenFrom ∧ (offerRollcall f s).link.ownUntil = s.link.ownUntil ∧
    (offerRollcall f s).view.entries = s.view.entries ∧ (offerRollcall f s).view.pull = s.view.pull ∧
    (offerRollcall f s).view.faultLow = s.view.faultLow ∧
    (offerRollcall f s).view.faultMeasure = s.view.faultMeasure ∧
    (offerRollcall f s).view.faultSet = s.view.faultSet := by
  unfold offerRollcall; dsimp only; (repeat' split) <;> simp [kick_link]

theorem offerUrgent_of (m : Msg) (s t : State) (b : Bool) (h : offerUrgent m s = (t, b)) : t = (offerUrgent m s).1 := by
  simp [h]

@[simp] theorem callHold_frame (s : State) :
    (callHold s).now = s.now ∧ (callHold s).draws = s.draws ∧ (callHold s).st = s.st ∧
    (callHold s).store = s.store ∧ (callHold s).view = s.view ∧ (callHold s).budget = s.budget ∧
    (callHold s).cool = s.cool ∧ (callHold s).sup = s.sup ∧ (callHold s).seat = s.seat ∧
    (callHold s).port = s.port ∧ (callHold s).zone = s.zone ∧ (callHold s).filt = s.filt ∧
    (callHold s).dep = s.dep ∧ (callHold s).host = s.host ∧ (callHold s).pending = s.pending := by
  unfold callHold; (repeat' split) <;> (try obtain rfl := offerUrgent_of _ _ _ _ ‹_›) <;> simp

@[simp] theorem takeHold_frame (n : Nat) (s : State) :
    (takeHold n s).now = s.now ∧ (takeHold n s).draws = s.draws ∧ (takeHold n s).st = s.st ∧
    (takeHold n s).store = s.store ∧ (takeHold n s).view = s.view ∧ (takeHold n s).budget = s.budget ∧
    (takeHold n s).cool = s.cool ∧ (takeHold n s).sup = s.sup ∧ (takeHold n s).seat = s.seat ∧
    (takeHold n s).port = s.port ∧ (takeHold n s).zone = s.zone ∧ (takeHold n s).filt = s.filt ∧
    (takeHold n s).dep = s.dep ∧ (takeHold n s).host = s.host ∧ (takeHold n s).pending = s.pending := by
  unfold takeHold; try dsimp only
  (repeat' split) <;> simp_all

@[simp] theorem refreshAge_frame (a : Addr) (s : State) :
    (refreshAge a s).now = s.now ∧ (refreshAge a s).draws = s.draws ∧ (refreshAge a s).st = s.st ∧
    (refreshAge a s).store = s.store ∧ (refreshAge a s).link = s.link ∧ (refreshAge a s).budget = s.budget ∧
    (refreshAge a s).cool = s.cool ∧ (refreshAge a s).sup = s.sup ∧ (refreshAge a s).seat = s.seat ∧
    (refreshAge a s).port = s.port ∧ (refreshAge a s).zone = s.zone ∧ (refreshAge a s).filt = s.filt ∧
    (refreshAge a s).dep = s.dep ∧ (refreshAge a s).host = s.host ∧ (refreshAge a s).pending = s.pending ∧
    (refreshAge a s).view.period = s.view.period ∧ (refreshAge a s).view.faultLow = s.view.faultLow ∧
    (refreshAge a s).view.faultMeasure = s.view.faultMeasure ∧ (refreshAge a s).view.faultSet = s.view.faultSet := by
  unfold refreshAge; try dsimp only
  (repeat' split) <;> simp_all

@[simp] theorem refresh_frame (s : State) :
    (refresh s).now = s.now ∧ (refresh s).draws = s.draws ∧ (refresh s).st = s.st ∧ (refresh s).store = s.store ∧
    (refresh s).link = s.link ∧ (refresh s).cool = s.cool ∧ (refresh s).sup = s.sup ∧ (refresh s).seat = s.seat ∧
    (refresh s).port = s.port ∧ (refresh s).zone = s.zone ∧ (refresh s).filt = s.filt ∧ (refresh s).dep = s.dep ∧
    (refresh s).host = s.host ∧ (refresh s).pending = s.pending ∧ (refresh s).view.period = s.view.period ∧
    (refresh s).view.faultLow = s.view.faultLow ∧ (refresh s).view.faultMeasure = s.view.faultMeasure ∧
    (refresh s).view.faultSet = s.view.faultSet ∧ (refresh s).budget.retry = s.budget.retry ∧
    (refresh s).budget.heldView = s.budget.heldView ∧ (refresh s).budget.derate = s.budget.derate ∧
    (refresh s).budget.offer = s.budget.offer := by
  unfold refresh; dsimp only; (repeat' split) <;> simp

@[simp] theorem buildOwn_frame (s : State) :
    (buildOwn s).now = s.now ∧ (buildOwn s).draws = s.draws ∧ (buildOwn s).st = s.st ∧
    (buildOwn s).store = s.store ∧ (buildOwn s).link = s.link ∧ (buildOwn s).cool = s.cool ∧
    (buildOwn s).sup = s.sup ∧ (buildOwn s).seat = s.seat ∧ (buildOwn s).port = s.port ∧
    (buildOwn s).zone = s.zone ∧ (buildOwn s).filt = s.filt ∧ (buildOwn s).dep = s.dep ∧
    (buildOwn s).host = s.host ∧ (buildOwn s).pending = s.pending ∧ (buildOwn s).view.period = s.view.period ∧
    (buildOwn s).view.faultLow = s.view.faultLow ∧ (buildOwn s).view.faultMeasure = s.view.faultMeasure ∧
    (buildOwn s).view.faultSet = s.view.faultSet ∧ (buildOwn s).budget.retry = s.budget.retry ∧
    (buildOwn s).budget.heldView = s.budget.heldView ∧ (buildOwn s).budget.derate = s.budget.derate ∧
    (buildOwn s).budget.offer = s.budget.offer := by
  unfold buildOwn; try dsimp only
  (repeat' split) <;> simp_all

@[simp] theorem reportRedundancy_frame (s : State) :
    (reportRedundancy s).now = s.now ∧ (reportRedundancy s).draws = s.draws ∧ (reportRedundancy s).st = s.st ∧
    (reportRedundancy s).store = s.store ∧ (reportRedundancy s).link = s.link ∧
    (reportRedundancy s).view = s.view ∧ (reportRedundancy s).cool = s.cool ∧ (reportRedundancy s).sup = s.sup ∧
    (reportRedundancy s).seat = s.seat ∧ (reportRedundancy s).port = s.port ∧ (reportRedundancy s).zone = s.zone ∧
    (reportRedundancy s).filt = s.filt ∧ (reportRedundancy s).dep = s.dep ∧
    (reportRedundancy s).pending = s.pending ∧ (reportRedundancy s).host.slot = s.host.slot ∧
    (reportRedundancy s).host.cursor = s.host.cursor ∧ (reportRedundancy s).host.out = s.host.out := by
  unfold reportRedundancy; try dsimp only
  (repeat' split) <;> simp_all

@[simp] theorem reportCoverage_frame (s : State) :
    (reportCoverage s).now = s.now ∧ (reportCoverage s).draws = s.draws ∧ (reportCoverage s).st = s.st ∧
    (reportCoverage s).store = s.store ∧ (reportCoverage s).link = s.link ∧ (reportCoverage s).view = s.view ∧
    (reportCoverage s).cool = s.cool ∧ (reportCoverage s).sup = s.sup ∧ (reportCoverage s).seat = s.seat ∧
    (reportCoverage s).port = s.port ∧ (reportCoverage s).zone = s.zone ∧ (reportCoverage s).filt = s.filt ∧
    (reportCoverage s).dep = s.dep ∧ (reportCoverage s).pending = s.pending ∧
    (reportCoverage s).host.slot = s.host.slot ∧ (reportCoverage s).host.cursor = s.host.cursor ∧
    (reportCoverage s).host.out = s.host.out := by
  unfold reportCoverage; try dsimp only
  (repeat' split) <;> simp_all

@[simp] theorem raiseExhausted_frame (s : State) :
    (raiseExhausted s).now = s.now ∧ (raiseExhausted s).draws = s.draws ∧ (raiseExhausted s).st = s.st ∧
    (raiseExhausted s).store = s.store ∧ (raiseExhausted s).link = s.link ∧ (raiseExhausted s).view = s.view ∧
    (raiseExhausted s).cool = s.cool ∧ (raiseExhausted s).sup = s.sup ∧ (raiseExhausted s).seat = s.seat ∧
    (raiseExhausted s).port = s.port ∧ (raiseExhausted s).zone = s.zone ∧ (raiseExhausted s).filt = s.filt ∧
    (raiseExhausted s).dep = s.dep ∧ (raiseExhausted s).pending = s.pending ∧
    (raiseExhausted s).host.slot = s.host.slot ∧ (raiseExhausted s).host.cursor = s.host.cursor ∧
    (raiseExhausted s).host.out = s.host.out := by
  unfold raiseExhausted; try dsimp only
  (repeat' split) <;> simp_all

end Sys2Proof.Machine
end

