-- ==== Sys2Proof/Laws/Blocks.lean ====
section
/-! SUPPORT. What each operation of a block leaves unchanged: cooling, the supply monitor, seats, ports, filters,
zoning. -/

namespace Sys2Proof.Machine

@[simp] theorem judgeThermal_frame (s : State) :
    (judgeThermal s).now = s.now ∧ (judgeThermal s).draws = s.draws ∧ (judgeThermal s).st = s.st ∧
    (judgeThermal s).store = s.store ∧ (judgeThermal s).link = s.link ∧ (judgeThermal s).view = s.view ∧
    (judgeThermal s).budget = s.budget ∧ (judgeThermal s).sup = s.sup ∧ (judgeThermal s).seat = s.seat ∧
    (judgeThermal s).port = s.port ∧ (judgeThermal s).zone = s.zone ∧ (judgeThermal s).filt = s.filt ∧
    (judgeThermal s).dep = s.dep ∧ (judgeThermal s).pending = s.pending ∧
    (judgeThermal s).host.slot = s.host.slot ∧ (judgeThermal s).host.cursor = s.host.cursor ∧
    (judgeThermal s).host.out = s.host.out := by
  unfold judgeThermal; try dsimp only
  (repeat' split) <;> simp_all

@[simp] theorem takeReadings_frame (r : Sensors) (s : State) :
    (takeReadings r s).now = s.now ∧ (takeReadings r s).draws = s.draws ∧ (takeReadings r s).st = s.st ∧
    (takeReadings r s).store = s.store ∧ (takeReadings r s).link = s.link ∧ (takeReadings r s).view = s.view ∧
    (takeReadings r s).budget = s.budget ∧ (takeReadings r s).sup = s.sup ∧ (takeReadings r s).seat = s.seat ∧
    (takeReadings r s).port = s.port ∧ (takeReadings r s).zone = s.zone ∧ (takeReadings r s).filt = s.filt ∧
    (takeReadings r s).dep = s.dep ∧ (takeReadings r s).pending = s.pending ∧
    (takeReadings r s).host.slot = s.host.slot ∧ (takeReadings r s).host.cursor = s.host.cursor ∧
    (takeReadings r s).host.out = s.host.out := by
  unfold takeReadings; try dsimp only
  (repeat' split) <;> simp_all

@[simp] theorem setDuty_frame (d : Nat) (s : State) :
    (setDuty d s).now = s.now ∧ (setDuty d s).draws = s.draws ∧ (setDuty d s).st = s.st ∧
    (setDuty d s).store = s.store ∧ (setDuty d s).link = s.link ∧ (setDuty d s).view = s.view ∧
    (setDuty d s).budget = s.budget ∧ (setDuty d s).sup = s.sup ∧ (setDuty d s).seat = s.seat ∧
    (setDuty d s).port = s.port ∧ (setDuty d s).zone = s.zone ∧ (setDuty d s).filt = s.filt ∧
    (setDuty d s).dep = s.dep ∧ (setDuty d s).host = s.host ∧ (setDuty d s).pending = s.pending ∧
    (setDuty d s).cool.readings = s.cool.readings ∧ (setDuty d s).cool.hottest = s.cool.hottest ∧
    (setDuty d s).cool.sampled = s.cool.sampled ∧ (setDuty d s).cool.sampleAt = s.cool.sampleAt ∧
    (setDuty d s).cool.demand = s.cool.demand ∧ (setDuty d s).cool.forced = s.cool.forced ∧
    (setDuty d s).cool.critCount = s.cool.critCount ∧ (setDuty d s).cool.clearCount = s.cool.clearCount ∧
    (setDuty d s).cool.shutCount = s.cool.shutCount ∧ (setDuty d s).cool.thermal = s.cool.thermal ∧
    (setDuty d s).cool.rotors = s.cool.rotors ∧ (setDuty d s).cool.checkAt = s.cool.checkAt := by
  unfold setDuty; try dsimp only
  (repeat' split) <;> simp_all

@[simp] theorem rampTo_frame (s : State) :
    (rampTo s).now = s.now ∧ (rampTo s).draws = s.draws ∧ (rampTo s).st = s.st ∧ (rampTo s).store = s.store ∧
    (rampTo s).link = s.link ∧ (rampTo s).view = s.view ∧ (rampTo s).budget = s.budget ∧ (rampTo s).sup = s.sup ∧
    (rampTo s).seat = s.seat ∧ (rampTo s).port = s.port ∧ (rampTo s).zone = s.zone ∧ (rampTo s).filt = s.filt ∧
    (rampTo s).dep = s.dep ∧ (rampTo s).host = s.host ∧ (rampTo s).pending = s.pending ∧
    (rampTo s).cool.readings = s.cool.readings ∧ (rampTo s).cool.hottest = s.cool.hottest ∧
    (rampTo s).cool.sampled = s.cool.sampled ∧ (rampTo s).cool.sampleAt = s.cool.sampleAt ∧
    (rampTo s).cool.demand = s.cool.demand ∧ (rampTo s).cool.forced = s.cool.forced ∧
    (rampTo s).cool.critCount = s.cool.critCount ∧ (rampTo s).cool.clearCount = s.cool.clearCount ∧
    (rampTo s).cool.shutCount = s.cool.shutCount ∧ (rampTo s).cool.thermal = s.cool.thermal ∧
    (rampTo s).cool.rotors = s.cool.rotors ∧ (rampTo s).cool.checkAt = s.cool.checkAt := by
  unfold rampTo; try dsimp only
  (repeat' split) <;> simp_all

@[simp] theorem retarget_frame (s : State) :
    (retarget s).now = s.now ∧ (retarget s).draws = s.draws ∧ (retarget s).st = s.st ∧
    (retarget s).store = s.store ∧ (retarget s).link = s.link ∧ (retarget s).view = s.view ∧
    (retarget s).budget = s.budget ∧ (retarget s).sup = s.sup ∧ (retarget s).seat = s.seat ∧
    (retarget s).port = s.port ∧ (retarget s).zone = s.zone ∧ (retarget s).filt = s.filt ∧
    (retarget s).dep = s.dep ∧ (retarget s).host = s.host ∧ (retarget s).pending = s.pending ∧
    (retarget s).cool.readings = s.cool.readings ∧ (retarget s).cool.hottest = s.cool.hottest ∧
    (retarget s).cool.sampled = s.cool.sampled ∧ (retarget s).cool.sampleAt = s.cool.sampleAt ∧
    (retarget s).cool.demand = s.cool.demand ∧ (retarget s).cool.forced = s.cool.forced ∧
    (retarget s).cool.critCount = s.cool.critCount ∧ (retarget s).cool.clearCount = s.cool.clearCount ∧
    (retarget s).cool.shutCount = s.cool.shutCount ∧ (retarget s).cool.thermal = s.cool.thermal ∧
    (retarget s).cool.rotors = s.cool.rotors ∧ (retarget s).cool.checkAt = s.cool.checkAt := by
  unfold retarget; try dsimp only
  (repeat' split) <;> simp_all

@[simp] theorem updateForcing_frame (s : State) :
    (updateForcing s).now = s.now ∧ (updateForcing s).draws = s.draws ∧ (updateForcing s).st = s.st ∧
    (updateForcing s).store = s.store ∧ (updateForcing s).link = s.link ∧ (updateForcing s).view = s.view ∧
    (updateForcing s).budget = s.budget ∧ (updateForcing s).sup = s.sup ∧ (updateForcing s).seat = s.seat ∧
    (updateForcing s).port = s.port ∧ (updateForcing s).zone = s.zone ∧ (updateForcing s).filt = s.filt ∧
    (updateForcing s).dep = s.dep ∧ (updateForcing s).host = s.host ∧ (updateForcing s).pending = s.pending ∧
    (updateForcing s).cool.readings = s.cool.readings ∧ (updateForcing s).cool.hottest = s.cool.hottest ∧
    (updateForcing s).cool.sampled = s.cool.sampled ∧ (updateForcing s).cool.sampleAt = s.cool.sampleAt ∧
    (updateForcing s).cool.demand = s.cool.demand ∧ (updateForcing s).cool.forced = s.cool.forced ∧
    (updateForcing s).cool.critCount = s.cool.critCount ∧ (updateForcing s).cool.clearCount = s.cool.clearCount ∧
    (updateForcing s).cool.shutCount = s.cool.shutCount ∧ (updateForcing s).cool.thermal = s.cool.thermal ∧
    (updateForcing s).cool.rotors = s.cool.rotors ∧ (updateForcing s).cool.checkAt = s.cool.checkAt := by
  unfold updateForcing; try dsimp only
  (repeat' split) <;> simp_all

@[simp] theorem stepDown_frame (s : State) :
    (stepDown s).now = s.now ∧ (stepDown s).draws = s.draws ∧ (stepDown s).st = s.st ∧
    (stepDown s).store = s.store ∧ (stepDown s).link = s.link ∧ (stepDown s).view = s.view ∧
    (stepDown s).budget = s.budget ∧ (stepDown s).sup = s.sup ∧ (stepDown s).seat = s.seat ∧
    (stepDown s).port = s.port ∧ (stepDown s).zone = s.zone ∧ (stepDown s).filt = s.filt ∧
    (stepDown s).dep = s.dep ∧ (stepDown s).host = s.host ∧ (stepDown s).pending = s.pending ∧
    (stepDown s).cool.readings = s.cool.readings ∧ (stepDown s).cool.hottest = s.cool.hottest ∧
    (stepDown s).cool.sampled = s.cool.sampled ∧ (stepDown s).cool.sampleAt = s.cool.sampleAt ∧
    (stepDown s).cool.demand = s.cool.demand ∧ (stepDown s).cool.forced = s.cool.forced ∧
    (stepDown s).cool.critCount = s.cool.critCount ∧ (stepDown s).cool.clearCount = s.cool.clearCount ∧
    (stepDown s).cool.shutCount = s.cool.shutCount ∧ (stepDown s).cool.thermal = s.cool.thermal ∧
    (stepDown s).cool.rotors = s.cool.rotors ∧ (stepDown s).cool.checkAt = s.cool.checkAt := by
  unfold stepDown; try dsimp only
  (repeat' split) <;> simp_all

@[simp] theorem judgePresence_frame (i : Nat) (b : Bool) (x : Nat) (s : State) :
    (judgePresence i b x s).now = s.now ∧ (judgePresence i b x s).draws = s.draws ∧
    (judgePresence i b x s).st = s.st ∧ (judgePresence i b x s).store = s.store ∧
    (judgePresence i b x s).link = s.link ∧ (judgePresence i b x s).view = s.view ∧
    (judgePresence i b x s).budget = s.budget ∧ (judgePresence i b x s).sup = s.sup ∧
    (judgePresence i b x s).seat = s.seat ∧ (judgePresence i b x s).port = s.port ∧
    (judgePresence i b x s).zone = s.zone ∧ (judgePresence i b x s).filt = s.filt ∧
    (judgePresence i b x s).dep = s.dep ∧ (judgePresence i b x s).pending = s.pending ∧
    (judgePresence i b x s).host.slot = s.host.slot ∧ (judgePresence i b x s).host.cursor = s.host.cursor ∧
    (judgePresence i b x s).host.out = s.host.out := by
  unfold judgePresence; try dsimp only
  (repeat' split) <;> simp_all

@[simp] theorem measureRotor_frame (i p x : Nat) (s : State) :
    (measureRotor i p x s).now = s.now ∧ (measureRotor i p x s).draws = s.draws ∧
    (measureRotor i p x s).st = s.st ∧ (measureRotor i p x s).store = s.store ∧
    (measureRotor i p x s).link = s.link ∧ (measureRotor i p x s).view = s.view ∧
    (measureRotor i p x s).budget = s.budget ∧ (measureRotor i p x s).sup = s.sup ∧
    (measureRotor i p x s).seat = s.seat ∧ (measureRotor i p x s).port = s.port ∧
    (measureRotor i p x s).zone = s.zone ∧ (measureRotor i p x s).filt = s.filt ∧
    (measureRotor i p x s).dep = s.dep ∧ (measureRotor i p x s).pending = s.pending ∧
    (measureRotor i p x s).host.slot = s.host.slot ∧ (measureRotor i p x s).host.cursor = s.host.cursor ∧
    (measureRotor i p x s).host.out = s.host.out := by
  unfold measureRotor; try dsimp only
  (repeat' split) <;> simp_all

@[simp] theorem updateGoodRun_frame (s : State) :
    (updateGoodRun s).now = s.now ∧ (updateGoodRun s).draws = s.draws ∧ (updateGoodRun s).st = s.st ∧
    (updateGoodRun s).store = s.store ∧ (updateGoodRun s).link = s.link ∧ (updateGoodRun s).view = s.view ∧
    (updateGoodRun s).budget = s.budget ∧ (updateGoodRun s).cool = s.cool ∧ (updateGoodRun s).seat = s.seat ∧
    (updateGoodRun s).port = s.port ∧ (updateGoodRun s).zone = s.zone ∧ (updateGoodRun s).filt = s.filt ∧
    (updateGoodRun s).dep = s.dep ∧ (updateGoodRun s).host = s.host ∧ (updateGoodRun s).pending = s.pending := by
  unfold updateGoodRun; try dsimp only
  (repeat' split) <;> simp_all

@[simp] theorem restartGoodRun_frame (s : State) :
    (restartGoodRun s).now = s.now ∧ (restartGoodRun s).draws = s.draws ∧ (restartGoodRun s).st = s.st ∧
    (restartGoodRun s).store = s.store ∧ (restartGoodRun s).link = s.link ∧ (restartGoodRun s).view = s.view ∧
    (restartGoodRun s).budget = s.budget ∧ (restartGoodRun s).cool = s.cool ∧ (restartGoodRun s).seat = s.seat ∧
    (restartGoodRun s).port = s.port ∧ (restartGoodRun s).zone = s.zone ∧ (restartGoodRun s).filt = s.filt ∧
    (restartGoodRun s).dep = s.dep ∧ (restartGoodRun s).host = s.host ∧ (restartGoodRun s).pending = s.pending := by
  unfold restartGoodRun; try dsimp only
  (repeat' split) <;> simp_all

@[simp] theorem setSupply_frame (t : SupplyState) (c : SupplyCause) (s : State) :
    (setSupply t c s).now = s.now ∧ (setSupply t c s).draws = s.draws ∧ (setSupply t c s).st = s.st ∧
    (setSupply t c s).store = s.store ∧ (setSupply t c s).link = s.link ∧ (setSupply t c s).view = s.view ∧
    (setSupply t c s).cool = s.cool ∧ (setSupply t c s).seat = s.seat ∧ (setSupply t c s).port = s.port ∧
    (setSupply t c s).zone = s.zone ∧ (setSupply t c s).filt = s.filt ∧ (setSupply t c s).dep = s.dep ∧
    (setSupply t c s).pending = s.pending ∧ (setSupply t c s).host.slot = s.host.slot ∧
    (setSupply t c s).host.cursor = s.host.cursor ∧ (setSupply t c s).host.out = s.host.out := by
  unfold setSupply; try dsimp only
  (repeat' split) <;> simp_all

@[simp] theorem inputRose_frame (s : State) :
    (inputRose s).now = s.now ∧ (inputRose s).draws = s.draws ∧ (inputRose s).st = s.st ∧
    (inputRose s).store = s.store ∧ (inputRose s).link = s.link ∧ (inputRose s).view = s.view ∧
    (inputRose s).cool = s.cool ∧ (inputRose s).seat = s.seat ∧ (inputRose s).port = s.port ∧
    (inputRose s).zone = s.zone ∧ (inputRose s).filt = s.filt ∧ (inputRose s).dep = s.dep ∧
    (inputRose s).pending = s.pending ∧ (inputRose s).host.slot = s.host.slot ∧
    (inputRose s).host.cursor = s.host.cursor ∧ (inputRose s).host.out = s.host.out := by
  unfold inputRose; try dsimp only
  (repeat' split) <;> simp_all

@[simp] theorem goodRunDone_frame (s : State) :
    (goodRunDone s).now = s.now ∧ (goodRunDone s).draws = s.draws ∧ (goodRunDone s).st = s.st ∧
    (goodRunDone s).store = s.store ∧ (goodRunDone s).link = s.link ∧ (goodRunDone s).view = s.view ∧
    (goodRunDone s).cool = s.cool ∧ (goodRunDone s).seat = s.seat ∧ (goodRunDone s).port = s.port ∧
    (goodRunDone s).zone = s.zone ∧ (goodRunDone s).filt = s.filt ∧ (goodRunDone s).dep = s.dep ∧
    (goodRunDone s).pending = s.pending ∧ (goodRunDone s).host.slot = s.host.slot ∧
    (goodRunDone s).host.cursor = s.host.cursor ∧ (goodRunDone s).host.out = s.host.out := by
  unfold goodRunDone; try dsimp only
  (repeat' split) <;> simp_all

@[simp] theorem inputFell_frame (s : State) :
    (inputFell s).now = s.now ∧ (inputFell s).draws = s.draws ∧ (inputFell s).st = s.st ∧
    (inputFell s).store = s.store ∧ (inputFell s).view = s.view ∧ (inputFell s).cool = s.cool ∧
    (inputFell s).seat = s.seat ∧ (inputFell s).port = s.port ∧ (inputFell s).zone = s.zone ∧
    (inputFell s).filt = s.filt ∧ (inputFell s).dep = s.dep ∧ (inputFell s).pending = s.pending ∧
    (inputFell s).host.slot = s.host.slot ∧ (inputFell s).host.cursor = s.host.cursor ∧
    (inputFell s).host.out = s.host.out ∧ (inputFell s).link.rx = s.link.rx ∧
    (inputFell s).link.counters = s.link.counters ∧ (inputFell s).link.hold = s.link.hold ∧
    (inputFell s).link.guard = s.link.guard ∧ (inputFell s).link.idleFrom = s.link.idleFrom ∧
    (inputFell s).link.listenFrom = s.link.listenFrom ∧ (inputFell s).link.ownUntil = s.link.ownUntil := by
  unfold inputFell; try dsimp only
  (repeat' split) <;> simp_all

@[simp] theorem warned_frame (s : State) :
    (warned s).now = s.now ∧ (warned s).draws = s.draws ∧ (warned s).st = s.st ∧ (warned s).store = s.store ∧
    (warned s).view = s.view ∧ (warned s).cool = s.cool ∧ (warned s).seat = s.seat ∧ (warned s).port = s.port ∧
    (warned s).zone = s.zone ∧ (warned s).filt = s.filt ∧ (warned s).dep = s.dep ∧
    (warned s).pending = s.pending ∧ (warned s).host.slot = s.host.slot ∧ (warned s).host.cursor = s.host.cursor ∧
    (warned s).host.out = s.host.out ∧ (warned s).link.rx = s.link.rx ∧
    (warned s).link.counters = s.link.counters ∧ (warned s).link.hold = s.link.hold ∧
    (warned s).link.guard = s.link.guard ∧ (warned s).link.idleFrom = s.link.idleFrom ∧
    (warned s).link.listenFrom = s.link.listenFrom ∧ (warned s).link.ownUntil = s.link.ownUntil := by
  unfold warned; try dsimp only
  (repeat' split) <;> simp_all

@[simp] theorem outputWentLost_frame (s : State) :
    (outputWentLost s).now = s.now ∧ (outputWentLost s).draws = s.draws ∧ (outputWentLost s).st = s.st ∧
    (outputWentLost s).store = s.store ∧ (outputWentLost s).view = s.view ∧ (outputWentLost s).cool = s.cool ∧
    (outputWentLost s).seat = s.seat ∧ (outputWentLost s).port = s.port ∧ (outputWentLost s).zone = s.zone ∧
    (outputWentLost s).filt = s.filt ∧ (outputWentLost s).dep = s.dep ∧ (outputWentLost s).pending = s.pending ∧
    (outputWentLost s).host.slot = s.host.slot ∧ (outputWentLost s).host.cursor = s.host.cursor ∧
    (outputWentLost s).host.out = s.host.out ∧ (outputWentLost s).link.rx = s.link.rx ∧
    (outputWentLost s).link.counters = s.link.counters ∧ (outputWentLost s).link.hold = s.link.hold ∧
    (outputWentLost s).link.guard = s.link.guard ∧ (outputWentLost s).link.idleFrom = s.link.idleFrom ∧
    (outputWentLost s).link.listenFrom = s.link.listenFrom ∧ (outputWentLost s).link.ownUntil = s.link.ownUntil := by
  unfold outputWentLost; try dsimp only
  (repeat' split) <;> simp_all

@[simp] theorem supplyShutdown_frame (s : State) :
    (supplyShutdown s).now = s.now ∧ (supplyShutdown s).draws = s.draws ∧ (supplyShutdown s).st = s.st ∧
    (supplyShutdown s).store = s.store ∧ (supplyShutdown s).view = s.view ∧ (supplyShutdown s).cool = s.cool ∧
    (supplyShutdown s).seat = s.seat ∧ (supplyShutdown s).port = s.port ∧ (supplyShutdown s).zone = s.zone ∧
    (supplyShutdown s).filt = s.filt ∧ (supplyShutdown s).dep = s.dep ∧ (supplyShutdown s).pending = s.pending ∧
    (supplyShutdown s).host.slot = s.host.slot ∧ (supplyShutdown s).host.cursor = s.host.cursor ∧
    (supplyShutdown s).host.out = s.host.out ∧ (supplyShutdown s).link.rx = s.link.rx ∧
    (supplyShutdown s).link.counters = s.link.counters ∧ (supplyShutdown s).link.hold = s.link.hold ∧
    (supplyShutdown s).link.guard = s.link.guard ∧ (supplyShutdown s).link.idleFrom = s.link.idleFrom ∧
    (supplyShutdown s).link.listenFrom = s.link.listenFrom ∧ (supplyShutdown s).link.ownUntil = s.link.ownUntil := by
  unfold supplyShutdown; try dsimp only
  (repeat' split) <;> simp_all

@[simp] theorem supplyDeparting_frame (s : State) :
    (supplyDeparting s).now = s.now ∧ (supplyDeparting s).draws = s.draws ∧ (supplyDeparting s).st = s.st ∧
    (supplyDeparting s).store = s.store ∧ (supplyDeparting s).view = s.view ∧ (supplyDeparting s).cool = s.cool ∧
    (supplyDeparting s).seat = s.seat ∧ (supplyDeparting s).port = s.port ∧ (supplyDeparting s).zone = s.zone ∧
    (supplyDeparting s).filt = s.filt ∧ (supplyDeparting s).dep = s.dep ∧
    (supplyDeparting s).pending = s.pending ∧ (supplyDeparting s).host.slot = s.host.slot ∧
    (supplyDeparting s).host.cursor = s.host.cursor ∧ (supplyDeparting s).host.out = s.host.out ∧
    (supplyDeparting s).link.rx = s.link.rx ∧ (supplyDeparting s).link.counters = s.link.counters ∧
    (supplyDeparting s).link.hold = s.link.hold ∧ (supplyDeparting s).link.guard = s.link.guard ∧
    (supplyDeparting s).link.idleFrom = s.link.idleFrom ∧
    (supplyDeparting s).link.listenFrom = s.link.listenFrom ∧ (supplyDeparting s).link.ownUntil = s.link.ownUntil := by
  unfold supplyDeparting; try dsimp only
  (repeat' split) <;> simp_all

@[simp] theorem enableOutput_frame (s : State) :
    (enableOutput s).now = s.now ∧ (enableOutput s).draws = s.draws ∧ (enableOutput s).st = s.st ∧
    (enableOutput s).store = s.store ∧ (enableOutput s).link = s.link ∧ (enableOutput s).view = s.view ∧
    (enableOutput s).budget = s.budget ∧ (enableOutput s).cool = s.cool ∧ (enableOutput s).seat = s.seat ∧
    (enableOutput s).port = s.port ∧ (enableOutput s).zone = s.zone ∧ (enableOutput s).filt = s.filt ∧
    (enableOutput s).dep = s.dep ∧ (enableOutput s).host = s.host ∧ (enableOutput s).pending = s.pending := by
  unfold enableOutput; try dsimp only
  (repeat' split) <;> simp_all

@[simp] theorem disableOutput_frame (s : State) :
    (disableOutput s).now = s.now ∧ (disableOutput s).draws = s.draws ∧ (disableOutput s).st = s.st ∧
    (disableOutput s).store = s.store ∧ (disableOutput s).link = s.link ∧ (disableOutput s).view = s.view ∧
    (disableOutput s).cool = s.cool ∧ (disableOutput s).seat = s.seat ∧ (disableOutput s).port = s.port ∧
    (disableOutput s).zone = s.zone ∧ (disableOutput s).filt = s.filt ∧ (disableOutput s).dep = s.dep ∧
    (disableOutput s).pending = s.pending ∧ (disableOutput s).host.slot = s.host.slot ∧
    (disableOutput s).host.cursor = s.host.cursor ∧ (disableOutput s).host.out = s.host.out := by
  unfold disableOutput; try dsimp only
  (repeat' split) <;> simp_all

@[simp] theorem judgeOverload_frame (s : State) :
    (judgeOverload s).now = s.now ∧ (judgeOverload s).draws = s.draws ∧ (judgeOverload s).st = s.st ∧
    (judgeOverload s).store = s.store ∧ (judgeOverload s).link = s.link ∧ (judgeOverload s).view = s.view ∧
    (judgeOverload s).budget = s.budget ∧ (judgeOverload s).cool = s.cool ∧ (judgeOverload s).seat = s.seat ∧
    (judgeOverload s).port = s.port ∧ (judgeOverload s).zone = s.zone ∧ (judgeOverload s).filt = s.filt ∧
    (judgeOverload s).dep = s.dep ∧ (judgeOverload s).pending = s.pending ∧
    (judgeOverload s).host.slot = s.host.slot ∧ (judgeOverload s).host.cursor = s.host.cursor ∧
    (judgeOverload s).host.out = s.host.out := by
  unfold judgeOverload; try dsimp only
  (repeat' split) <;> simp_all

@[simp] theorem supplySample_frame (c : Nat) (s : State) :
    (supplySample c s).now = s.now ∧ (supplySample c s).draws = s.draws ∧ (supplySample c s).st = s.st ∧
    (supplySample c s).store = s.store ∧ (supplySample c s).link = s.link ∧ (supplySample c s).view = s.view ∧
    (supplySample c s).cool = s.cool ∧ (supplySample c s).seat = s.seat ∧ (supplySample c s).port = s.port ∧
    (supplySample c s).zone = s.zone ∧ (supplySample c s).filt = s.filt ∧ (supplySample c s).dep = s.dep ∧
    (supplySample c s).pending = s.pending ∧ (supplySample c s).host.slot = s.host.slot ∧
    (supplySample c s).host.cursor = s.host.cursor ∧ (supplySample c s).host.out = s.host.out := by
  unfold supplySample; try dsimp only
  (repeat' split) <;> simp_all

@[simp] theorem bindSeat_frame (s : State) :
    (bindSeat s).now = s.now ∧ (bindSeat s).draws = s.draws ∧ (bindSeat s).st = s.st ∧
    (bindSeat s).store = s.store ∧ (bindSeat s).link = s.link ∧ (bindSeat s).view = s.view ∧
    (bindSeat s).budget = s.budget ∧ (bindSeat s).cool = s.cool ∧ (bindSeat s).sup = s.sup ∧
    (bindSeat s).port = s.port ∧ (bindSeat s).zone = s.zone ∧ (bindSeat s).filt = s.filt ∧
    (bindSeat s).dep = s.dep ∧ (bindSeat s).host = s.host ∧ (bindSeat s).pending = s.pending := by
  unfold bindSeat; try dsimp only
  (repeat' split) <;> simp_all

@[simp] theorem freeSeat_frame (s : State) :
    (freeSeat s).now = s.now ∧ (freeSeat s).draws = s.draws ∧ (freeSeat s).st = s.st ∧
    (freeSeat s).store = s.store ∧ (freeSeat s).link = s.link ∧ (freeSeat s).view = s.view ∧
    (freeSeat s).budget = s.budget ∧ (freeSeat s).cool = s.cool ∧ (freeSeat s).sup = s.sup ∧
    (freeSeat s).port = s.port ∧ (freeSeat s).zone = s.zone ∧ (freeSeat s).filt = s.filt ∧
    (freeSeat s).dep = s.dep ∧ (freeSeat s).host = s.host ∧ (freeSeat s).pending = s.pending := by
  unfold freeSeat; try dsimp only
  (repeat' split) <;> simp_all

@[simp] theorem giveReported_frame (x : Nat) (s : State) :
    (giveReported x s).now = s.now ∧ (giveReported x s).draws = s.draws ∧ (giveReported x s).st = s.st ∧
    (giveReported x s).store = s.store ∧ (giveReported x s).link = s.link ∧ (giveReported x s).view = s.view ∧
    (giveReported x s).budget = s.budget ∧ (giveReported x s).cool = s.cool ∧ (giveReported x s).sup = s.sup ∧
    (giveReported x s).port = s.port ∧ (giveReported x s).zone = s.zone ∧ (giveReported x s).filt = s.filt ∧
    (giveReported x s).dep = s.dep ∧ (giveReported x s).host = s.host ∧ (giveReported x s).pending = s.pending := by
  unfold giveReported; try dsimp only
  (repeat' split) <;> simp_all

theorem offerNormal_of {m : Msg} {s t : State} {o : Offer} (h : offerNormal m s = (t, o)) : t = (offerNormal m s).1 := by
  rw [h]

@[simp] theorem offerGive_frame (x : Nat) (s : State) :
    (offerGive x s).now = s.now ∧ (offerGive x s).draws = s.draws ∧ (offerGive x s).st = s.st ∧
    (offerGive x s).store = s.store ∧ (offerGive x s).view = s.view ∧ (offerGive x s).budget = s.budget ∧
    (offerGive x s).cool = s.cool ∧ (offerGive x s).sup = s.sup ∧ (offerGive x s).port = s.port ∧
    (offerGive x s).zone = s.zone ∧ (offerGive x s).filt = s.filt ∧ (offerGive x s).dep = s.dep ∧
    (offerGive x s).host = s.host ∧ (offerGive x s).pending = s.pending ∧ (offerGive x s).link.rx = s.link.rx ∧
    (offerGive x s).link.counters = s.link.counters ∧ (offerGive x s).link.hold = s.link.hold ∧
    (offerGive x s).link.guard = s.link.guard ∧ (offerGive x s).link.idleFrom = s.link.idleFrom ∧
    (offerGive x s).link.listenFrom = s.link.listenFrom ∧ (offerGive x s).link.ownUntil = s.link.ownUntil := by
  unfold offerGive; dsimp only
  (repeat' split) <;> first | (simp; done) | (rename_i h; obtain rfl := offerNormal_of h; simp)

@[simp] theorem offerStored_frame (x : Nat) (s : State) :
    (offerStored x s).now = s.now ∧ (offerStored x s).draws = s.draws ∧ (offerStored x s).st = s.st ∧
    (offerStored x s).store = s.store ∧ (offerStored x s).view = s.view ∧ (offerStored x s).budget = s.budget ∧
    (offerStored x s).cool = s.cool ∧ (offerStored x s).sup = s.sup ∧ (offerStored x s).port = s.port ∧
    (offerStored x s).zone = s.zone ∧ (offerStored x s).filt = s.filt ∧ (offerStored x s).dep = s.dep ∧
    (offerStored x s).host = s.host ∧ (offerStored x s).pending = s.pending ∧
    (offerStored x s).link.rx = s.link.rx ∧ (offerStored x s).link.counters = s.link.counters ∧
    (offerStored x s).link.hold = s.link.hold ∧ (offerStored x s).link.guard = s.link.guard ∧
    (offerStored x s).link.idleFrom = s.link.idleFrom ∧
    (offerStored x s).link.listenFrom = s.link.listenFrom ∧ (offerStored x s).link.ownUntil = s.link.ownUntil := by
  unfold offerStored; try dsimp only
  (repeat' split) <;> simp_all

@[simp] theorem resend_frame (e : Escrow) (s : State) :
    (resend s e).now = s.now ∧ (resend s e).draws = s.draws ∧ (resend s e).st = s.st ∧
    (resend s e).store = s.store ∧ (resend s e).view = s.view ∧ (resend s e).budget = s.budget ∧
    (resend s e).cool = s.cool ∧ (resend s e).sup = s.sup ∧ (resend s e).port = s.port ∧
    (resend s e).zone = s.zone ∧ (resend s e).filt = s.filt ∧ (resend s e).dep = s.dep ∧
    (resend s e).host = s.host ∧ (resend s e).pending = s.pending ∧ (resend s e).link.rx = s.link.rx ∧
    (resend s e).link.counters = s.link.counters ∧ (resend s e).link.hold = s.link.hold ∧
    (resend s e).link.guard = s.link.guard ∧ (resend s e).link.idleFrom = s.link.idleFrom ∧
    (resend s e).link.listenFrom = s.link.listenFrom ∧ (resend s e).link.ownUntil = s.link.ownUntil := by
  unfold resend; try dsimp only
  (repeat' split) <;> simp_all

@[simp] theorem resendAll_frame (s : State) :
    (resendAll s).now = s.now ∧ (resendAll s).draws = s.draws ∧ (resendAll s).st = s.st ∧
    (resendAll s).store = s.store ∧ (resendAll s).view = s.view ∧ (resendAll s).budget = s.budget ∧
    (resendAll s).cool = s.cool ∧ (resendAll s).sup = s.sup ∧ (resendAll s).port = s.port ∧
    (resendAll s).zone = s.zone ∧ (resendAll s).filt = s.filt ∧ (resendAll s).dep = s.dep ∧
    (resendAll s).host = s.host ∧ (resendAll s).pending = s.pending ∧ (resendAll s).link.rx = s.link.rx ∧
    (resendAll s).link.counters = s.link.counters ∧ (resendAll s).link.hold = s.link.hold ∧
    (resendAll s).link.guard = s.link.guard ∧ (resendAll s).link.idleFrom = s.link.idleFrom ∧
    (resendAll s).link.listenFrom = s.link.listenFrom ∧ (resendAll s).link.ownUntil = s.link.ownUntil := by
  unfold resendAll; induction s.seat.escrow generalizing s with
  | nil => simp
  | cons e l ih => simpa using ih (resend s e)

@[simp] theorem judgeEscrow_frame (e : Escrow) (s : State) :
    (judgeEscrow s e).now = s.now ∧ (judgeEscrow s e).draws = s.draws ∧ (judgeEscrow s e).st = s.st ∧
    (judgeEscrow s e).store = s.store ∧ (judgeEscrow s e).view = s.view ∧ (judgeEscrow s e).budget = s.budget ∧
    (judgeEscrow s e).cool = s.cool ∧ (judgeEscrow s e).sup = s.sup ∧ (judgeEscrow s e).port = s.port ∧
    (judgeEscrow s e).zone = s.zone ∧ (judgeEscrow s e).filt = s.filt ∧ (judgeEscrow s e).dep = s.dep ∧
    (judgeEscrow s e).pending = s.pending ∧ (judgeEscrow s e).link.rx = s.link.rx ∧
    (judgeEscrow s e).link.counters = s.link.counters ∧ (judgeEscrow s e).link.hold = s.link.hold ∧
    (judgeEscrow s e).link.guard = s.link.guard ∧ (judgeEscrow s e).link.idleFrom = s.link.idleFrom ∧
    (judgeEscrow s e).link.listenFrom = s.link.listenFrom ∧ (judgeEscrow s e).link.ownUntil = s.link.ownUntil ∧
    (judgeEscrow s e).host.slot = s.host.slot ∧ (judgeEscrow s e).host.cursor = s.host.cursor ∧
    (judgeEscrow s e).host.out = s.host.out := by
  unfold judgeEscrow; try dsimp only
  (repeat' split) <;> simp_all

@[simp] theorem judgeRecipient_frame (p : Addr) (s : State) :
    (judgeRecipient p s).now = s.now ∧ (judgeRecipient p s).draws = s.draws ∧ (judgeRecipient p s).st = s.st ∧
    (judgeRecipient p s).store = s.store ∧ (judgeRecipient p s).view = s.view ∧
    (judgeRecipient p s).budget = s.budget ∧ (judgeRecipient p s).cool = s.cool ∧
    (judgeRecipient p s).sup = s.sup ∧ (judgeRecipient p s).port = s.port ∧ (judgeRecipient p s).zone = s.zone ∧
    (judgeRecipient p s).filt = s.filt ∧ (judgeRecipient p s).dep = s.dep ∧
    (judgeRecipient p s).pending = s.pending ∧ (judgeRecipient p s).link.rx = s.link.rx ∧
    (judgeRecipient p s).link.counters = s.link.counters ∧ (judgeRecipient p s).link.hold = s.link.hold ∧
    (judgeRecipient p s).link.guard = s.link.guard ∧ (judgeRecipient p s).link.idleFrom = s.link.idleFrom ∧
    (judgeRecipient p s).link.listenFrom = s.link.listenFrom ∧ (judgeRecipient p s).link.ownUntil = s.link.ownUntil ∧
    (judgeRecipient p s).host.slot = s.host.slot ∧ (judgeRecipient p s).host.cursor = s.host.cursor ∧
    (judgeRecipient p s).host.out = s.host.out := by
  unfold judgeRecipient; induction (s.seat.escrow.filter fun e => e.rcpt = p) generalizing s with
  | nil => simp
  | cons e l ih => simpa using ih (judgeEscrow s e)

@[simp] theorem judgeAllEscrow_frame (s : State) :
    (judgeAllEscrow s).now = s.now ∧ (judgeAllEscrow s).draws = s.draws ∧ (judgeAllEscrow s).st = s.st ∧
    (judgeAllEscrow s).store = s.store ∧ (judgeAllEscrow s).view = s.view ∧ (judgeAllEscrow s).budget = s.budget ∧
    (judgeAllEscrow s).cool = s.cool ∧ (judgeAllEscrow s).sup = s.sup ∧ (judgeAllEscrow s).port = s.port ∧
    (judgeAllEscrow s).zone = s.zone ∧ (judgeAllEscrow s).filt = s.filt ∧ (judgeAllEscrow s).dep = s.dep ∧
    (judgeAllEscrow s).pending = s.pending ∧ (judgeAllEscrow s).link.rx = s.link.rx ∧
    (judgeAllEscrow s).link.counters = s.link.counters ∧ (judgeAllEscrow s).link.hold = s.link.hold ∧
    (judgeAllEscrow s).link.guard = s.link.guard ∧ (judgeAllEscrow s).link.idleFrom = s.link.idleFrom ∧
    (judgeAllEscrow s).link.listenFrom = s.link.listenFrom ∧ (judgeAllEscrow s).link.ownUntil = s.link.ownUntil ∧
    (judgeAllEscrow s).host.slot = s.host.slot ∧ (judgeAllEscrow s).host.cursor = s.host.cursor ∧
    (judgeAllEscrow s).host.out = s.host.out := by
  unfold judgeAllEscrow; induction s.seat.escrow generalizing s with
  | nil => simp
  | cons e l ih => simpa using ih (judgeEscrow s e)

@[simp] theorem makeGive_frame (a : Addr) (n : Nat) (k : Option Nat) (s : State) :
    (makeGive a n k s).now = s.now ∧ (makeGive a n k s).draws = s.draws ∧ (makeGive a n k s).st = s.st ∧
    (makeGive a n k s).link = s.link ∧ (makeGive a n k s).view = s.view ∧ (makeGive a n k s).budget = s.budget ∧
    (makeGive a n k s).cool = s.cool ∧ (makeGive a n k s).sup = s.sup ∧ (makeGive a n k s).port = s.port ∧
    (makeGive a n k s).zone = s.zone ∧ (makeGive a n k s).filt = s.filt ∧ (makeGive a n k s).dep = s.dep ∧
    (makeGive a n k s).pending = s.pending ∧ (makeGive a n k s).host.slot = s.host.slot ∧
    (makeGive a n k s).host.cursor = s.host.cursor ∧ (makeGive a n k s).host.out = s.host.out := by
  unfold makeGive; try dsimp only
  (repeat' split) <;> simp_all

@[simp] theorem offerAsk_frame (s : State) :
    (offerAsk s).now = s.now ∧ (offerAsk s).draws = s.draws ∧ (offerAsk s).st = s.st ∧
    (offerAsk s).store = s.store ∧ (offerAsk s).view = s.view ∧ (offerAsk s).budget = s.budget ∧
    (offerAsk s).cool = s.cool ∧ (offerAsk s).sup = s.sup ∧ (offerAsk s).port = s.port ∧
    (offerAsk s).zone = s.zone ∧ (offerAsk s).filt = s.filt ∧ (offerAsk s).dep = s.dep ∧
    (offerAsk s).pending = s.pending ∧ (offerAsk s).seat.free = s.seat.free ∧
    (offerAsk s).seat.bound = s.seat.bound ∧ (offerAsk s).seat.escrow = s.seat.escrow ∧
    (offerAsk s).seat.receipts = s.seat.receipts ∧ (offerAsk s).seat.next = s.seat.next ∧
    (offerAsk s).seat.serial = s.seat.serial ∧ (offerAsk s).seat.answers = s.seat.answers ∧
    (offerAsk s).link.rx = s.link.rx ∧ (offerAsk s).link.counters = s.link.counters ∧
    (offerAsk s).link.hold = s.link.hold ∧ (offerAsk s).link.guard = s.link.guard ∧
    (offerAsk s).link.idleFrom = s.link.idleFrom ∧
    (offerAsk s).link.listenFrom = s.link.listenFrom ∧ (offerAsk s).link.ownUntil = s.link.ownUntil ∧ (offerAsk s).host.slot = s.host.slot ∧
    (offerAsk s).host.cursor = s.host.cursor ∧ (offerAsk s).host.out = s.host.out := by
  unfold offerAsk; try dsimp only
  (repeat' split) <;> simp_all

@[simp] theorem judgeAsk_frame (s : State) :
    (judgeAsk s).now = s.now ∧ (judgeAsk s).draws = s.draws ∧ (judgeAsk s).st = s.st ∧
    (judgeAsk s).store = s.store ∧ (judgeAsk s).view = s.view ∧ (judgeAsk s).budget = s.budget ∧
    (judgeAsk s).cool = s.cool ∧ (judgeAsk s).sup = s.sup ∧ (judgeAsk s).port = s.port ∧
    (judgeAsk s).zone = s.zone ∧ (judgeAsk s).filt = s.filt ∧ (judgeAsk s).dep = s.dep ∧
    (judgeAsk s).pending = s.pending ∧ (judgeAsk s).seat.free = s.seat.free ∧
    (judgeAsk s).seat.bound = s.seat.bound ∧ (judgeAsk s).seat.escrow = s.seat.escrow ∧
    (judgeAsk s).seat.receipts = s.seat.receipts ∧ (judgeAsk s).seat.next = s.seat.next ∧
    (judgeAsk s).seat.serial = s.seat.serial ∧ (judgeAsk s).seat.answers = s.seat.answers ∧
    (judgeAsk s).link.rx = s.link.rx ∧ (judgeAsk s).link.counters = s.link.counters ∧
    (judgeAsk s).link.hold = s.link.hold ∧ (judgeAsk s).link.guard = s.link.guard ∧
    (judgeAsk s).link.idleFrom = s.link.idleFrom ∧
    (judgeAsk s).link.listenFrom = s.link.listenFrom ∧ (judgeAsk s).link.ownUntil = s.link.ownUntil ∧ (judgeAsk s).host.slot = s.host.slot ∧
    (judgeAsk s).host.cursor = s.host.cursor ∧ (judgeAsk s).host.out = s.host.out := by
  unfold judgeAsk; try dsimp only
  (repeat' split) <;> simp_all

@[simp] theorem takeAsk_frame (a : Addr) (k n : Nat) (s : State) :
    (takeAsk a k n s).now = s.now ∧ (takeAsk a k n s).draws = s.draws ∧ (takeAsk a k n s).st = s.st ∧
    (takeAsk a k n s).store = s.store ∧ (takeAsk a k n s).link = s.link ∧ (takeAsk a k n s).view = s.view ∧
    (takeAsk a k n s).budget = s.budget ∧ (takeAsk a k n s).cool = s.cool ∧ (takeAsk a k n s).sup = s.sup ∧
    (takeAsk a k n s).port = s.port ∧ (takeAsk a k n s).zone = s.zone ∧ (takeAsk a k n s).filt = s.filt ∧
    (takeAsk a k n s).dep = s.dep ∧ (takeAsk a k n s).host = s.host ∧ (takeAsk a k n s).pending = s.pending := by
  unfold takeAsk; try dsimp only
  (repeat' split) <;> simp_all

@[simp] theorem giveAnswer_frame (a : Answer) (s : State) :
    (giveAnswer a s).now = s.now ∧ (giveAnswer a s).draws = s.draws ∧ (giveAnswer a s).st = s.st ∧
    (giveAnswer a s).link = s.link ∧ (giveAnswer a s).view = s.view ∧ (giveAnswer a s).budget = s.budget ∧
    (giveAnswer a s).cool = s.cool ∧ (giveAnswer a s).sup = s.sup ∧ (giveAnswer a s).port = s.port ∧
    (giveAnswer a s).zone = s.zone ∧ (giveAnswer a s).filt = s.filt ∧ (giveAnswer a s).dep = s.dep ∧
    (giveAnswer a s).pending = s.pending ∧ (giveAnswer a s).host.slot = s.host.slot ∧
    (giveAnswer a s).host.cursor = s.host.cursor ∧ (giveAnswer a s).host.out = s.host.out := by
  unfold giveAnswer; try dsimp only
  (repeat' split) <;> simp_all

@[simp] theorem repeatAck_frame (a : Addr) (x n : Nat) (s : State) :
    (repeatAck a x n s).now = s.now ∧ (repeatAck a x n s).draws = s.draws ∧ (repeatAck a x n s).st = s.st ∧
    (repeatAck a x n s).view = s.view ∧ (repeatAck a x n s).budget = s.budget ∧
    (repeatAck a x n s).cool = s.cool ∧ (repeatAck a x n s).sup = s.sup ∧ (repeatAck a x n s).seat = s.seat ∧
    (repeatAck a x n s).port = s.port ∧ (repeatAck a x n s).zone = s.zone ∧ (repeatAck a x n s).filt = s.filt ∧
    (repeatAck a x n s).dep = s.dep ∧ (repeatAck a x n s).host = s.host ∧
    (repeatAck a x n s).pending = s.pending ∧ (repeatAck a x n s).link.rx = s.link.rx ∧
    (repeatAck a x n s).link.counters = s.link.counters ∧ (repeatAck a x n s).link.hold = s.link.hold ∧
    (repeatAck a x n s).link.guard = s.link.guard ∧ (repeatAck a x n s).link.idleFrom = s.link.idleFrom ∧
    (repeatAck a x n s).link.listenFrom = s.link.listenFrom ∧ (repeatAck a x n s).link.ownUntil = s.link.ownUntil := by
  unfold repeatAck; try dsimp only
  (repeat' split) <;> simp_all

@[simp] theorem acceptGive_frame (a : Addr) (x n : Nat) (s : State) :
    (acceptGive a x n s).now = s.now ∧ (acceptGive a x n s).draws = s.draws ∧ (acceptGive a x n s).st = s.st ∧
    (acceptGive a x n s).view = s.view ∧ (acceptGive a x n s).budget = s.budget ∧
    (acceptGive a x n s).cool = s.cool ∧ (acceptGive a x n s).sup = s.sup ∧ (acceptGive a x n s).port = s.port ∧
    (acceptGive a x n s).zone = s.zone ∧ (acceptGive a x n s).filt = s.filt ∧ (acceptGive a x n s).dep = s.dep ∧
    (acceptGive a x n s).pending = s.pending ∧ (acceptGive a x n s).link.rx = s.link.rx ∧
    (acceptGive a x n s).link.counters = s.link.counters ∧ (acceptGive a x n s).link.hold = s.link.hold ∧
    (acceptGive a x n s).link.guard = s.link.guard ∧ (acceptGive a x n s).link.idleFrom = s.link.idleFrom ∧
    (acceptGive a x n s).link.listenFrom = s.link.listenFrom ∧ (acceptGive a x n s).link.ownUntil = s.link.ownUntil ∧
    (acceptGive a x n s).host.slot = s.host.slot ∧ (acceptGive a x n s).host.cursor = s.host.cursor ∧
    (acceptGive a x n s).host.out = s.host.out := by
  unfold acceptGive; try dsimp only
  (repeat' split) <;> simp_all

@[simp] theorem takeAck_frame (a : Addr) (x : Nat) (s : State) :
    (takeAck a x s).now = s.now ∧ (takeAck a x s).draws = s.draws ∧ (takeAck a x s).st = s.st ∧
    (takeAck a x s).link = s.link ∧ (takeAck a x s).view = s.view ∧ (takeAck a x s).budget = s.budget ∧
    (takeAck a x s).cool = s.cool ∧ (takeAck a x s).sup = s.sup ∧ (takeAck a x s).port = s.port ∧
    (takeAck a x s).zone = s.zone ∧ (takeAck a x s).filt = s.filt ∧ (takeAck a x s).dep = s.dep ∧
    (takeAck a x s).pending = s.pending ∧ (takeAck a x s).host.slot = s.host.slot ∧
    (takeAck a x s).host.cursor = s.host.cursor ∧ (takeAck a x s).host.out = s.host.out := by
  unfold takeAck; try dsimp only
  (repeat' split) <;> simp_all

@[simp] theorem mapPort_frame (n : Nat) (f : Port → Port) (s : State) :
    (mapPort n f s).now = s.now ∧ (mapPort n f s).draws = s.draws ∧ (mapPort n f s).st = s.st ∧
    (mapPort n f s).store = s.store ∧ (mapPort n f s).link = s.link ∧ (mapPort n f s).view = s.view ∧
    (mapPort n f s).budget = s.budget ∧ (mapPort n f s).cool = s.cool ∧ (mapPort n f s).sup = s.sup ∧
    (mapPort n f s).seat = s.seat ∧ (mapPort n f s).zone = s.zone ∧ (mapPort n f s).filt = s.filt ∧
    (mapPort n f s).dep = s.dep ∧ (mapPort n f s).host = s.host ∧ (mapPort n f s).pending = s.pending ∧
    (mapPort n f s).port.history = s.port.history ∧
    (mapPort n f s).port.boundary = s.port.boundary := by
  unfold mapPort; try dsimp only
  (repeat' split) <;> simp_all

@[simp] theorem darkenFilter_frame (n : Nat) (p : Port) (s : State) :
    (darkenFilter n p s).now = s.now ∧ (darkenFilter n p s).draws = s.draws ∧ (darkenFilter n p s).st = s.st ∧
    (darkenFilter n p s).store = s.store ∧ (darkenFilter n p s).link = s.link ∧
    (darkenFilter n p s).view = s.view ∧ (darkenFilter n p s).budget = s.budget ∧
    (darkenFilter n p s).cool = s.cool ∧ (darkenFilter n p s).sup = s.sup ∧ (darkenFilter n p s).seat = s.seat ∧
    (darkenFilter n p s).zone = s.zone ∧ (darkenFilter n p s).dep = s.dep ∧ (darkenFilter n p s).host = s.host ∧
    (darkenFilter n p s).pending = s.pending ∧ (darkenFilter n p s).port.history = s.port.history ∧
    (darkenFilter n p s).port.boundary = s.port.boundary := by
  unfold darkenFilter; try dsimp only
  (repeat' split) <;> simp_all

@[simp] theorem leaveService_frame (n : Nat) (p : Port) (s : State) :
    (leaveService n p s).now = s.now ∧ (leaveService n p s).draws = s.draws ∧ (leaveService n p s).st = s.st ∧
    (leaveService n p s).store = s.store ∧ (leaveService n p s).link = s.link ∧
    (leaveService n p s).view = s.view ∧ (leaveService n p s).budget = s.budget ∧
    (leaveService n p s).cool = s.cool ∧ (leaveService n p s).sup = s.sup ∧ (leaveService n p s).seat = s.seat ∧
    (leaveService n p s).zone = s.zone ∧ (leaveService n p s).dep = s.dep ∧ (leaveService n p s).host = s.host ∧
    (leaveService n p s).pending = s.pending ∧ (leaveService n p s).port.history = s.port.history ∧
    (leaveService n p s).port.boundary = s.port.boundary := by
  unfold leaveService; try dsimp only
  (repeat' split) <;> simp_all

@[simp] theorem darkenPort_frame (n : Nat) (s : State) :
    (darkenPort n s).now = s.now ∧ (darkenPort n s).draws = s.draws ∧ (darkenPort n s).st = s.st ∧
    (darkenPort n s).store = s.store ∧ (darkenPort n s).link = s.link ∧ (darkenPort n s).view = s.view ∧
    (darkenPort n s).budget = s.budget ∧ (darkenPort n s).cool = s.cool ∧ (darkenPort n s).sup = s.sup ∧
    (darkenPort n s).zone = s.zone ∧ (darkenPort n s).dep = s.dep ∧ (darkenPort n s).host = s.host ∧
    (darkenPort n s).pending = s.pending ∧ (darkenPort n s).port.history = s.port.history ∧
    (darkenPort n s).port.boundary = s.port.boundary := by
  unfold darkenPort; try dsimp only
  (repeat' split) <;> simp_all

@[simp] theorem dimPort_frame (c : DimCause) (n : Nat) (s : State) :
    (dimPort c n s).now = s.now ∧ (dimPort c n s).draws = s.draws ∧ (dimPort c n s).st = s.st ∧
    (dimPort c n s).store = s.store ∧ (dimPort c n s).link = s.link ∧ (dimPort c n s).view = s.view ∧
    (dimPort c n s).budget = s.budget ∧ (dimPort c n s).cool = s.cool ∧ (dimPort c n s).sup = s.sup ∧
    (dimPort c n s).seat = s.seat ∧ (dimPort c n s).zone = s.zone ∧ (dimPort c n s).dep = s.dep ∧
    (dimPort c n s).host = s.host ∧ (dimPort c n s).pending = s.pending ∧
    (dimPort c n s).port.history = s.port.history ∧
    (dimPort c n s).port.boundary = s.port.boundary := by
  unfold dimPort; try dsimp only
  (repeat' split) <;> simp_all

@[simp] theorem shedPort_frame (n : Nat) (s : State) :
    (shedPort n s).now = s.now ∧ (shedPort n s).draws = s.draws ∧ (shedPort n s).st = s.st ∧
    (shedPort n s).store = s.store ∧ (shedPort n s).link = s.link ∧ (shedPort n s).view = s.view ∧
    (shedPort n s).budget = s.budget ∧ (shedPort n s).cool = s.cool ∧ (shedPort n s).sup = s.sup ∧
    (shedPort n s).seat = s.seat ∧ (shedPort n s).zone = s.zone ∧ (shedPort n s).dep = s.dep ∧
    (shedPort n s).pending = s.pending ∧ (shedPort n s).port.history = s.port.history ∧
    (shedPort n s).port.boundary = s.port.boundary ∧
    (shedPort n s).host.slot = s.host.slot ∧ (shedPort n s).host.cursor = s.host.cursor ∧
    (shedPort n s).host.out = s.host.out := by
  unfold shedPort; try dsimp only
  (repeat' split) <;> simp_all

@[simp] theorem removeEntry_frame (n : Nat) (s : State) :
    (removeEntry n s).now = s.now ∧ (removeEntry n s).draws = s.draws ∧ (removeEntry n s).st = s.st ∧
    (removeEntry n s).store = s.store ∧ (removeEntry n s).link = s.link ∧ (removeEntry n s).view = s.view ∧
    (removeEntry n s).cool = s.cool ∧ (removeEntry n s).sup = s.sup ∧ (removeEntry n s).seat = s.seat ∧
    (removeEntry n s).zone = s.zone ∧ (removeEntry n s).filt = s.filt ∧ (removeEntry n s).dep = s.dep ∧
    (removeEntry n s).host = s.host ∧ (removeEntry n s).pending = s.pending ∧
    (removeEntry n s).port.history = s.port.history ∧
    (removeEntry n s).port.boundary = s.port.boundary := by
  unfold removeEntry; try dsimp only
  (repeat' split) <;> simp_all

@[simp] theorem startHead_frame (s : State) :
    (startHead s).now = s.now ∧ (startHead s).draws = s.draws ∧ (startHead s).st = s.st ∧
    (startHead s).store = s.store ∧ (startHead s).link = s.link ∧ (startHead s).view = s.view ∧
    (startHead s).budget = s.budget ∧ (startHead s).cool = s.cool ∧ (startHead s).sup = s.sup ∧
    (startHead s).zone = s.zone ∧ (startHead s).filt = s.filt ∧ (startHead s).dep = s.dep ∧
    (startHead s).host = s.host ∧ (startHead s).pending = s.pending := by
  unfold startHead; try dsimp only
  (repeat' split) <;> simp_all

@[simp] theorem emptyQueue_frame (s : State) :
    (emptyQueue s).now = s.now ∧ (emptyQueue s).draws = s.draws ∧ (emptyQueue s).st = s.st ∧
    (emptyQueue s).store = s.store ∧ (emptyQueue s).link = s.link ∧ (emptyQueue s).view = s.view ∧
    (emptyQueue s).cool = s.cool ∧ (emptyQueue s).sup = s.sup ∧ (emptyQueue s).zone = s.zone ∧
    (emptyQueue s).dep = s.dep ∧ (emptyQueue s).host = s.host ∧ (emptyQueue s).pending = s.pending := by
  have h : ∀ (l : List QEntry) (s : State), let t := l.foldl (fun s e => darkenPort e.port s) s
      t.now = s.now ∧ t.draws = s.draws ∧ t.st = s.st ∧ t.store = s.store ∧ t.link = s.link ∧ t.view = s.view ∧
      t.cool = s.cool ∧ t.sup = s.sup ∧ t.zone = s.zone ∧ t.dep = s.dep ∧ t.host = s.host ∧ t.pending = s.pending := by
    intro l; induction l with
    | nil => simp
    | cons e l ih => intro s; simpa using ih (darkenPort e.port s)
  simpa [emptyQueue] using h s.port.queue s

@[simp] theorem dimAll_frame (s : State) :
    (dimAll s).now = s.now ∧ (dimAll s).draws = s.draws ∧ (dimAll s).st = s.st ∧ (dimAll s).store = s.store ∧
    (dimAll s).link = s.link ∧ (dimAll s).view = s.view ∧ (dimAll s).budget = s.budget ∧
    (dimAll s).cool = s.cool ∧ (dimAll s).sup = s.sup ∧ (dimAll s).seat = s.seat ∧ (dimAll s).zone = s.zone ∧
    (dimAll s).dep = s.dep ∧ (dimAll s).host = s.host ∧ (dimAll s).pending = s.pending := by
  have h : ∀ (l : List Nat) (s : State), let t := l.foldl (fun s n => dimPort .departure n s) s
      t.now = s.now ∧ t.draws = s.draws ∧ t.st = s.st ∧ t.store = s.store ∧ t.link = s.link ∧ t.view = s.view ∧
      t.budget = s.budget ∧ t.cool = s.cool ∧ t.sup = s.sup ∧ t.seat = s.seat ∧ t.zone = s.zone ∧ t.dep = s.dep ∧
      t.host = s.host ∧ t.pending = s.pending := by
    intro l; induction l with
    | nil => simp
    | cons e l ih => intro s; simpa using ih (dimPort .departure e s)
  simpa [dimAll, forEachPort] using h _ s

@[simp] theorem darkenAll_frame (s : State) :
    (darkenAll s).now = s.now ∧ (darkenAll s).draws = s.draws ∧ (darkenAll s).st = s.st ∧
    (darkenAll s).store = s.store ∧ (darkenAll s).link = s.link ∧ (darkenAll s).view = s.view ∧
    (darkenAll s).cool = s.cool ∧ (darkenAll s).sup = s.sup ∧ (darkenAll s).zone = s.zone ∧
    (darkenAll s).dep = s.dep ∧ (darkenAll s).host = s.host ∧ (darkenAll s).pending = s.pending := by
  have h : ∀ (l : List Nat) (s : State), let t := l.foldl (fun s n => darkenPort n s) s
      t.now = s.now ∧ t.draws = s.draws ∧ t.st = s.st ∧ t.store = s.store ∧ t.link = s.link ∧ t.view = s.view ∧
      t.cool = s.cool ∧ t.sup = s.sup ∧ t.zone = s.zone ∧ t.dep = s.dep ∧ t.host = s.host ∧ t.pending = s.pending := by
    intro l; induction l with
    | nil => simp
    | cons e l ih => intro s; simpa using ih (darkenPort e s)
  simpa [darkenAll, forEachPort] using h _ s

@[simp] theorem setFilter_frame (n : Nat) (f : Filter → Filter) (s : State) :
    (setFilter n f s).now = s.now ∧ (setFilter n f s).draws = s.draws ∧ (setFilter n f s).st = s.st ∧
    (setFilter n f s).store = s.store ∧ (setFilter n f s).link = s.link ∧ (setFilter n f s).view = s.view ∧
    (setFilter n f s).budget = s.budget ∧ (setFilter n f s).cool = s.cool ∧ (setFilter n f s).sup = s.sup ∧
    (setFilter n f s).seat = s.seat ∧ (setFilter n f s).zone = s.zone ∧ (setFilter n f s).filt = s.filt ∧
    (setFilter n f s).dep = s.dep ∧ (setFilter n f s).host = s.host ∧ (setFilter n f s).pending = s.pending ∧
    (setFilter n f s).port.history = s.port.history ∧
    (setFilter n f s).port.boundary = s.port.boundary := by
  unfold setFilter; try dsimp only
  (repeat' split) <;> simp_all

@[simp] theorem oweLoad_frame (n : Nat) (s : State) :
    (oweLoad n s).now = s.now ∧ (oweLoad n s).draws = s.draws ∧ (oweLoad n s).st = s.st ∧
    (oweLoad n s).store = s.store ∧ (oweLoad n s).link = s.link ∧ (oweLoad n s).view = s.view ∧
    (oweLoad n s).budget = s.budget ∧ (oweLoad n s).cool = s.cool ∧ (oweLoad n s).sup = s.sup ∧
    (oweLoad n s).seat = s.seat ∧ (oweLoad n s).zone = s.zone ∧ (oweLoad n s).dep = s.dep ∧
    (oweLoad n s).host = s.host ∧ (oweLoad n s).pending = s.pending ∧
    (oweLoad n s).port.history = s.port.history ∧
    (oweLoad n s).port.boundary = s.port.boundary := by
  unfold oweLoad; try dsimp only
  (repeat' split) <;> simp_all

@[simp] theorem sweepPorts_frame (s : State) :
    (sweepPorts s).now = s.now ∧ (sweepPorts s).draws = s.draws ∧ (sweepPorts s).st = s.st ∧
    (sweepPorts s).store = s.store ∧ (sweepPorts s).link = s.link ∧ (sweepPorts s).view = s.view ∧
    (sweepPorts s).budget = s.budget ∧ (sweepPorts s).cool = s.cool ∧ (sweepPorts s).sup = s.sup ∧
    (sweepPorts s).seat = s.seat ∧ (sweepPorts s).zone = s.zone ∧ (sweepPorts s).dep = s.dep ∧
    (sweepPorts s).host = s.host ∧ (sweepPorts s).pending = s.pending := by
  have h : ∀ (l : List Nat) (s : State), let t := l.foldl (fun s n => match portAt s n with
        | none => s
        | some p => if p.node.isSome then oweLoad n s else s) s
      t.now = s.now ∧ t.draws = s.draws ∧ t.st = s.st ∧ t.store = s.store ∧ t.link = s.link ∧ t.view = s.view ∧
      t.budget = s.budget ∧ t.cool = s.cool ∧ t.sup = s.sup ∧ t.seat = s.seat ∧ t.zone = s.zone ∧ t.dep = s.dep ∧
      t.host = s.host ∧ t.pending = s.pending := by
    intro l; induction l with
    | nil => simp
    | cons e l ih =>
      intro s
      simp only [List.foldl_cons]
      split
      · simpa using ih s
      · split
        · simpa using ih (oweLoad e s)
        · simpa using ih s
  unfold sweepPorts forEachPort; exact h _ s

@[simp] theorem loadFault_frame (n r : Nat) (m : Mode) (k g : Nat) (s : State) :
    (loadFault n r m k g s).now = s.now ∧ (loadFault n r m k g s).draws = s.draws ∧
    (loadFault n r m k g s).st = s.st ∧ (loadFault n r m k g s).store = s.store ∧
    (loadFault n r m k g s).link = s.link ∧ (loadFault n r m k g s).view = s.view ∧
    (loadFault n r m k g s).budget = s.budget ∧ (loadFault n r m k g s).cool = s.cool ∧
    (loadFault n r m k g s).sup = s.sup ∧ (loadFault n r m k g s).seat = s.seat ∧
    (loadFault n r m k g s).zone = s.zone ∧ (loadFault n r m k g s).dep = s.dep ∧
    (loadFault n r m k g s).pending = s.pending ∧ (loadFault n r m k g s).port.history = s.port.history ∧
    (loadFault n r m k g s).port.boundary = s.port.boundary ∧
    (loadFault n r m k g s).host.slot = s.host.slot ∧ (loadFault n r m k g s).host.cursor = s.host.cursor ∧
    (loadFault n r m k g s).host.out = s.host.out := by
  unfold loadFault; try dsimp only
  (repeat' split) <;> simp_all

@[simp] theorem startLoads_frame (fuel : Nat) (s : State) :
    (startLoads fuel s).now = s.now ∧ (startLoads fuel s).draws = s.draws ∧ (startLoads fuel s).st = s.st ∧
    (startLoads fuel s).store = s.store ∧ (startLoads fuel s).link = s.link ∧ (startLoads fuel s).view = s.view ∧
    (startLoads fuel s).budget = s.budget ∧ (startLoads fuel s).cool = s.cool ∧ (startLoads fuel s).sup = s.sup ∧
    (startLoads fuel s).seat = s.seat ∧ (startLoads fuel s).zone = s.zone ∧ (startLoads fuel s).dep = s.dep ∧
    (startLoads fuel s).pending = s.pending ∧ (startLoads fuel s).port.history = s.port.history ∧
    (startLoads fuel s).port.boundary = s.port.boundary ∧
    (startLoads fuel s).host.slot = s.host.slot ∧ (startLoads fuel s).host.cursor = s.host.cursor ∧
    (startLoads fuel s).host.out = s.host.out := by
  induction fuel generalizing s with
  | zero => simp [startLoads]
  | succ n ih =>
    unfold startLoads; dsimp only
    (repeat' split) <;> simp [ih]

@[simp] theorem pumpLoads_frame (s : State) :
    (pumpLoads s).now = s.now ∧ (pumpLoads s).draws = s.draws ∧ (pumpLoads s).st = s.st ∧
    (pumpLoads s).store = s.store ∧ (pumpLoads s).link = s.link ∧ (pumpLoads s).view = s.view ∧
    (pumpLoads s).budget = s.budget ∧ (pumpLoads s).cool = s.cool ∧ (pumpLoads s).sup = s.sup ∧
    (pumpLoads s).seat = s.seat ∧ (pumpLoads s).zone = s.zone ∧ (pumpLoads s).dep = s.dep ∧
    (pumpLoads s).pending = s.pending ∧ (pumpLoads s).port.history = s.port.history ∧
    (pumpLoads s).port.boundary = s.port.boundary ∧
    (pumpLoads s).host.slot = s.host.slot ∧ (pumpLoads s).host.cursor = s.host.cursor ∧
    (pumpLoads s).host.out = s.host.out := by
  unfold pumpLoads; try dsimp only
  (repeat' split) <;> simp_all

@[simp] theorem endTaken_frame (l : Flight) (s : State) :
    (endTaken l s).now = s.now ∧ (endTaken l s).draws = s.draws ∧ (endTaken l s).st = s.st ∧
    (endTaken l s).store = s.store ∧ (endTaken l s).link = s.link ∧ (endTaken l s).view = s.view ∧
    (endTaken l s).budget = s.budget ∧ (endTaken l s).cool = s.cool ∧ (endTaken l s).sup = s.sup ∧
    (endTaken l s).seat = s.seat ∧ (endTaken l s).zone = s.zone ∧ (endTaken l s).dep = s.dep ∧
    (endTaken l s).host = s.host ∧ (endTaken l s).pending = s.pending ∧
    (endTaken l s).port.history = s.port.history ∧
    (endTaken l s).port.boundary = s.port.boundary := by
  unfold endTaken; try dsimp only
  (repeat' split) <;> simp_all

@[simp] theorem endTimedOut_frame (l : Flight) (s : State) :
    (endTimedOut l s).now = s.now ∧ (endTimedOut l s).draws = s.draws ∧ (endTimedOut l s).st = s.st ∧
    (endTimedOut l s).store = s.store ∧ (endTimedOut l s).link = s.link ∧ (endTimedOut l s).view = s.view ∧
    (endTimedOut l s).budget = s.budget ∧ (endTimedOut l s).cool = s.cool ∧ (endTimedOut l s).sup = s.sup ∧
    (endTimedOut l s).seat = s.seat ∧ (endTimedOut l s).zone = s.zone ∧ (endTimedOut l s).dep = s.dep ∧
    (endTimedOut l s).pending = s.pending ∧ (endTimedOut l s).port.history = s.port.history ∧
    (endTimedOut l s).port.boundary = s.port.boundary ∧
    (endTimedOut l s).host.slot = s.host.slot ∧ (endTimedOut l s).host.cursor = s.host.cursor ∧
    (endTimedOut l s).host.out = s.host.out := by
  unfold endTimedOut; try dsimp only
  (repeat' split) <;> simp_all

@[simp] theorem reportSweep_frame (s : State) :
    (reportSweep s).now = s.now ∧ (reportSweep s).draws = s.draws ∧ (reportSweep s).st = s.st ∧
    (reportSweep s).store = s.store ∧ (reportSweep s).link = s.link ∧ (reportSweep s).view = s.view ∧
    (reportSweep s).budget = s.budget ∧ (reportSweep s).cool = s.cool ∧ (reportSweep s).sup = s.sup ∧
    (reportSweep s).seat = s.seat ∧ (reportSweep s).port = s.port ∧ (reportSweep s).dep = s.dep ∧
    (reportSweep s).pending = s.pending ∧ (reportSweep s).zone.active = s.zone.active ∧
    (reportSweep s).zone.gen = s.zone.gen ∧ (reportSweep s).zone.lastProposed = s.zone.lastProposed ∧
    (reportSweep s).zone.draft = s.zone.draft ∧ (reportSweep s).zone.results = s.zone.results ∧
    (reportSweep s).zone.behind = s.zone.behind ∧ (reportSweep s).host.slot = s.host.slot ∧
    (reportSweep s).host.cursor = s.host.cursor ∧ (reportSweep s).host.out = s.host.out ∧
    (reportSweep s).zone.commitPending = s.zone.commitPending := by
  unfold reportSweep; try dsimp only
  (repeat' split) <;> simp_all

@[simp] theorem serveFilters_frame (s : State) :
    (serveFilters s).now = s.now ∧ (serveFilters s).draws = s.draws ∧ (serveFilters s).st = s.st ∧
    (serveFilters s).store = s.store ∧ (serveFilters s).link = s.link ∧ (serveFilters s).view = s.view ∧
    (serveFilters s).budget = s.budget ∧ (serveFilters s).cool = s.cool ∧ (serveFilters s).sup = s.sup ∧
    (serveFilters s).seat = s.seat ∧ (serveFilters s).dep = s.dep ∧ (serveFilters s).pending = s.pending ∧
    (serveFilters s).port.history = s.port.history ∧
    (serveFilters s).port.boundary = s.port.boundary ∧ (serveFilters s).zone.active = s.zone.active ∧
    (serveFilters s).zone.gen = s.zone.gen ∧ (serveFilters s).zone.lastProposed = s.zone.lastProposed ∧
    (serveFilters s).zone.draft = s.zone.draft ∧ (serveFilters s).zone.results = s.zone.results ∧
    (serveFilters s).zone.behind = s.zone.behind ∧ (serveFilters s).host.slot = s.host.slot ∧
    (serveFilters s).host.cursor = s.host.cursor ∧ (serveFilters s).host.out = s.host.out ∧
    (serveFilters s).zone.commitPending = s.zone.commitPending := by
  unfold serveFilters; try dsimp only
  (repeat' split) <;> simp_all

end Sys2Proof.Machine
end

