-- ==== Sys2Proof/Laws/Reactions.lean ====
section
/-! SUPPORT. What each zoning operation, each reaction to a change and each transition leaves unchanged. -/

namespace Sys2Proof.Machine

@[simp] theorem pumpZone_frame (l : List Msg) (s : State) :
    (pumpZone l s).now = s.now ∧ (pumpZone l s).draws = s.draws ∧ (pumpZone l s).st = s.st ∧
    (pumpZone l s).store = s.store ∧ (pumpZone l s).view = s.view ∧ (pumpZone l s).budget = s.budget ∧
    (pumpZone l s).cool = s.cool ∧ (pumpZone l s).sup = s.sup ∧ (pumpZone l s).seat = s.seat ∧
    (pumpZone l s).port = s.port ∧ (pumpZone l s).filt = s.filt ∧ (pumpZone l s).host = s.host ∧
    (pumpZone l s).pending = s.pending ∧ (pumpZone l s).zone.active = s.zone.active ∧
    (pumpZone l s).zone.gen = s.zone.gen ∧ (pumpZone l s).zone.lastProposed = s.zone.lastProposed ∧
    (pumpZone l s).zone.draft = s.zone.draft ∧ (pumpZone l s).zone.results = s.zone.results ∧
    (pumpZone l s).zone.behind = s.zone.behind ∧ (pumpZone l s).link.rx = s.link.rx ∧
    (pumpZone l s).link.counters = s.link.counters ∧ (pumpZone l s).link.hold = s.link.hold ∧
    (pumpZone l s).link.guard = s.link.guard ∧ (pumpZone l s).link.idleFrom = s.link.idleFrom ∧
    (pumpZone l s).link.listenFrom = s.link.listenFrom ∧ (pumpZone l s).link.ownUntil = s.link.ownUntil ∧
    (pumpZone l s).zone.commitPending = s.zone.commitPending := by
  induction l generalizing s with
  | nil => simp [pumpZone]
  | cons m l ih =>
    unfold pumpZone
    split <;> (rename_i h; obtain rfl := offerNormal_of h; simp [ih])

@[simp] theorem sendZone_frame (l : List Msg) (s : State) :
    (sendZone l s).now = s.now ∧ (sendZone l s).draws = s.draws ∧ (sendZone l s).st = s.st ∧
    (sendZone l s).store = s.store ∧ (sendZone l s).view = s.view ∧ (sendZone l s).budget = s.budget ∧
    (sendZone l s).cool = s.cool ∧ (sendZone l s).sup = s.sup ∧ (sendZone l s).seat = s.seat ∧
    (sendZone l s).port = s.port ∧ (sendZone l s).filt = s.filt ∧ (sendZone l s).host = s.host ∧
    (sendZone l s).pending = s.pending ∧ (sendZone l s).zone.active = s.zone.active ∧
    (sendZone l s).zone.gen = s.zone.gen ∧ (sendZone l s).zone.lastProposed = s.zone.lastProposed ∧
    (sendZone l s).zone.draft = s.zone.draft ∧ (sendZone l s).zone.results = s.zone.results ∧
    (sendZone l s).zone.behind = s.zone.behind ∧ (sendZone l s).link.rx = s.link.rx ∧
    (sendZone l s).link.counters = s.link.counters ∧ (sendZone l s).link.hold = s.link.hold ∧
    (sendZone l s).link.guard = s.link.guard ∧ (sendZone l s).link.idleFrom = s.link.idleFrom ∧
    (sendZone l s).link.listenFrom = s.link.listenFrom ∧ (sendZone l s).link.ownUntil = s.link.ownUntil ∧
    (sendZone l s).zone.commitPending = s.zone.commitPending := by
  unfold sendZone; try dsimp only
  (repeat' split) <;> simp_all

@[simp] theorem zoneResult_frame (g : Nat) (o : Option Addr) (a b : Nat) (l : List Byte) (s : State) :
    (zoneResult g o a b l s).now = s.now ∧ (zoneResult g o a b l s).draws = s.draws ∧
    (zoneResult g o a b l s).st = s.st ∧ (zoneResult g o a b l s).store = s.store ∧
    (zoneResult g o a b l s).link = s.link ∧ (zoneResult g o a b l s).view = s.view ∧
    (zoneResult g o a b l s).budget = s.budget ∧ (zoneResult g o a b l s).cool = s.cool ∧
    (zoneResult g o a b l s).sup = s.sup ∧ (zoneResult g o a b l s).seat = s.seat ∧
    (zoneResult g o a b l s).port = s.port ∧ (zoneResult g o a b l s).zone = s.zone ∧
    (zoneResult g o a b l s).filt = s.filt ∧ (zoneResult g o a b l s).dep = s.dep ∧
    (zoneResult g o a b l s).pending = s.pending ∧ (zoneResult g o a b l s).host.slot = s.host.slot ∧
    (zoneResult g o a b l s).host.cursor = s.host.cursor ∧ (zoneResult g o a b l s).host.out = s.host.out := by
  unfold zoneResult; try dsimp only
  (repeat' split) <;> simp_all

@[simp] theorem startCommit_frame (s : State) :
    (startCommit s).now = s.now ∧ (startCommit s).draws = s.draws ∧ (startCommit s).st = s.st ∧
    (startCommit s).link = s.link ∧ (startCommit s).view = s.view ∧ (startCommit s).budget = s.budget ∧
    (startCommit s).cool = s.cool ∧ (startCommit s).sup = s.sup ∧ (startCommit s).seat = s.seat ∧
    (startCommit s).port = s.port ∧ (startCommit s).filt = s.filt ∧ (startCommit s).dep = s.dep ∧
    (startCommit s).host = s.host ∧ (startCommit s).pending = s.pending ∧
    (startCommit s).zone.active = s.zone.active ∧ (startCommit s).zone.gen = s.zone.gen ∧
    (startCommit s).zone.lastProposed = s.zone.lastProposed ∧ (startCommit s).zone.draft = s.zone.draft ∧
    (startCommit s).zone.results = s.zone.results ∧ (startCommit s).zone.behind = s.zone.behind := by
  unfold startCommit; try dsimp only
  (repeat' split) <;> simp_all

@[simp] theorem commitEffect_frame (s : State) :
    (commitEffect s).now = s.now ∧ (commitEffect s).draws = s.draws ∧ (commitEffect s).st = s.st ∧
    (commitEffect s).store = s.store ∧ (commitEffect s).view = s.view ∧ (commitEffect s).budget = s.budget ∧
    (commitEffect s).cool = s.cool ∧ (commitEffect s).sup = s.sup ∧ (commitEffect s).seat = s.seat ∧
    (commitEffect s).pending = s.pending ∧ (commitEffect s).host.slot = s.host.slot ∧
    (commitEffect s).host.cursor = s.host.cursor ∧ (commitEffect s).host.out = s.host.out ∧
    (commitEffect s).link.rx = s.link.rx ∧ (commitEffect s).link.counters = s.link.counters ∧
    (commitEffect s).link.hold = s.link.hold ∧ (commitEffect s).link.guard = s.link.guard ∧
    (commitEffect s).link.idleFrom = s.link.idleFrom ∧
    (commitEffect s).link.listenFrom = s.link.listenFrom ∧ (commitEffect s).link.ownUntil = s.link.ownUntil := by
  unfold commitEffect; dsimp only
  (repeat' split) <;> simp

@[simp] theorem abandon_frame (r : Reason) (l : List Byte) (s : State) :
    (abandon r l s).now = s.now ∧ (abandon r l s).draws = s.draws ∧ (abandon r l s).st = s.st ∧
    (abandon r l s).store = s.store ∧ (abandon r l s).view = s.view ∧ (abandon r l s).budget = s.budget ∧
    (abandon r l s).cool = s.cool ∧ (abandon r l s).sup = s.sup ∧ (abandon r l s).seat = s.seat ∧
    (abandon r l s).port = s.port ∧ (abandon r l s).filt = s.filt ∧ (abandon r l s).pending = s.pending ∧
    (abandon r l s).zone.active = s.zone.active ∧ (abandon r l s).zone.gen = s.zone.gen ∧
    (abandon r l s).zone.lastProposed = s.zone.lastProposed ∧ (abandon r l s).zone.draft = s.zone.draft ∧
    (abandon r l s).zone.results = s.zone.results ∧ (abandon r l s).zone.behind = s.zone.behind ∧
    (abandon r l s).link.rx = s.link.rx ∧ (abandon r l s).link.counters = s.link.counters ∧
    (abandon r l s).link.hold = s.link.hold ∧ (abandon r l s).link.guard = s.link.guard ∧
    (abandon r l s).link.idleFrom = s.link.idleFrom ∧
    (abandon r l s).link.listenFrom = s.link.listenFrom ∧ (abandon r l s).link.ownUntil = s.link.ownUntil ∧ (abandon r l s).host.slot = s.host.slot ∧
    (abandon r l s).host.cursor = s.host.cursor ∧ (abandon r l s).host.out = s.host.out := by
  unfold abandon; try dsimp only
  (repeat' split) <;> simp_all

@[simp] theorem abandonOn_frame (v : Vote) (s : State) :
    (abandonOn v s).now = s.now ∧ (abandonOn v s).draws = s.draws ∧ (abandonOn v s).st = s.st ∧
    (abandonOn v s).store = s.store ∧ (abandonOn v s).view = s.view ∧ (abandonOn v s).budget = s.budget ∧
    (abandonOn v s).cool = s.cool ∧ (abandonOn v s).sup = s.sup ∧ (abandonOn v s).seat = s.seat ∧
    (abandonOn v s).port = s.port ∧ (abandonOn v s).filt = s.filt ∧ (abandonOn v s).pending = s.pending ∧
    (abandonOn v s).zone.active = s.zone.active ∧ (abandonOn v s).zone.gen = s.zone.gen ∧
    (abandonOn v s).zone.lastProposed = s.zone.lastProposed ∧ (abandonOn v s).zone.draft = s.zone.draft ∧
    (abandonOn v s).zone.results = s.zone.results ∧ (abandonOn v s).zone.behind = s.zone.behind ∧
    (abandonOn v s).link.rx = s.link.rx ∧ (abandonOn v s).link.counters = s.link.counters ∧
    (abandonOn v s).link.hold = s.link.hold ∧ (abandonOn v s).link.guard = s.link.guard ∧
    (abandonOn v s).link.idleFrom = s.link.idleFrom ∧
    (abandonOn v s).link.listenFrom = s.link.listenFrom ∧ (abandonOn v s).link.ownUntil = s.link.ownUntil ∧ (abandonOn v s).host.slot = s.host.slot ∧
    (abandonOn v s).host.cursor = s.host.cursor ∧ (abandonOn v s).host.out = s.host.out := by
  unfold abandonOn; try dsimp only
  (repeat' split) <;> simp_all

@[simp] theorem decideSet_frame (s : State) :
    (decideSet s).now = s.now ∧ (decideSet s).draws = s.draws ∧ (decideSet s).st = s.st ∧
    (decideSet s).view = s.view ∧ (decideSet s).budget = s.budget ∧ (decideSet s).cool = s.cool ∧
    (decideSet s).sup = s.sup ∧ (decideSet s).seat = s.seat ∧ (decideSet s).port = s.port ∧
    (decideSet s).filt = s.filt ∧ (decideSet s).pending = s.pending ∧ (decideSet s).zone.active = s.zone.active ∧
    (decideSet s).zone.gen = s.zone.gen ∧ (decideSet s).zone.lastProposed = s.zone.lastProposed ∧
    (decideSet s).zone.draft = s.zone.draft ∧ (decideSet s).zone.results = s.zone.results ∧
    (decideSet s).zone.behind = s.zone.behind ∧ (decideSet s).link.rx = s.link.rx ∧
    (decideSet s).link.counters = s.link.counters ∧ (decideSet s).link.hold = s.link.hold ∧
    (decideSet s).link.guard = s.link.guard ∧ (decideSet s).link.idleFrom = s.link.idleFrom ∧
    (decideSet s).link.listenFrom = s.link.listenFrom ∧ (decideSet s).link.ownUntil = s.link.ownUntil ∧
    (decideSet s).host.slot = s.host.slot ∧ (decideSet s).host.cursor = s.host.cursor ∧
    (decideSet s).host.out = s.host.out := by
  unfold decideSet; try dsimp only
  (repeat' split) <;> simp_all

@[simp] theorem segReported_frame (g k : Nat) (s : State) :
    (segReported g k s).now = s.now ∧ (segReported g k s).draws = s.draws ∧ (segReported g k s).st = s.st ∧
    (segReported g k s).view = s.view ∧ (segReported g k s).budget = s.budget ∧
    (segReported g k s).cool = s.cool ∧ (segReported g k s).sup = s.sup ∧ (segReported g k s).seat = s.seat ∧
    (segReported g k s).port = s.port ∧ (segReported g k s).filt = s.filt ∧
    (segReported g k s).pending = s.pending ∧ (segReported g k s).zone.active = s.zone.active ∧
    (segReported g k s).zone.gen = s.zone.gen ∧ (segReported g k s).zone.lastProposed = s.zone.lastProposed ∧
    (segReported g k s).zone.draft = s.zone.draft ∧ (segReported g k s).zone.results = s.zone.results ∧
    (segReported g k s).zone.behind = s.zone.behind ∧ (segReported g k s).link.rx = s.link.rx ∧
    (segReported g k s).link.counters = s.link.counters ∧ (segReported g k s).link.hold = s.link.hold ∧
    (segReported g k s).link.guard = s.link.guard ∧ (segReported g k s).link.idleFrom = s.link.idleFrom ∧
    (segReported g k s).link.listenFrom = s.link.listenFrom ∧ (segReported g k s).link.ownUntil = s.link.ownUntil ∧
    (segReported g k s).host.slot = s.host.slot ∧ (segReported g k s).host.cursor = s.host.cursor ∧
    (segReported g k s).host.out = s.host.out := by
  unfold segReported; try dsimp only
  (repeat' split) <;> simp_all

@[simp] theorem takeVote_frame (a : Addr) (g : Nat) (v : Verdict) (r : Reason) (p : Option Nat) (s : State) :
    (takeVote a g v r p s).now = s.now ∧ (takeVote a g v r p s).draws = s.draws ∧
    (takeVote a g v r p s).st = s.st ∧ (takeVote a g v r p s).view = s.view ∧
    (takeVote a g v r p s).budget = s.budget ∧ (takeVote a g v r p s).cool = s.cool ∧
    (takeVote a g v r p s).sup = s.sup ∧ (takeVote a g v r p s).seat = s.seat ∧
    (takeVote a g v r p s).port = s.port ∧ (takeVote a g v r p s).filt = s.filt ∧
    (takeVote a g v r p s).pending = s.pending ∧ (takeVote a g v r p s).link.rx = s.link.rx ∧
    (takeVote a g v r p s).link.counters = s.link.counters ∧ (takeVote a g v r p s).link.hold = s.link.hold ∧
    (takeVote a g v r p s).link.guard = s.link.guard ∧ (takeVote a g v r p s).link.idleFrom = s.link.idleFrom ∧
    (takeVote a g v r p s).link.listenFrom = s.link.listenFrom ∧ (takeVote a g v r p s).link.ownUntil = s.link.ownUntil ∧
    (takeVote a g v r p s).host.slot = s.host.slot ∧ (takeVote a g v r p s).host.cursor = s.host.cursor ∧
    (takeVote a g v r p s).host.out = s.host.out := by
  unfold takeVote; try dsimp only
  (repeat' split) <;> simp_all

@[simp] theorem vote_frame (a : Addr) (g : Nat) (v : Verdict) (r : Reason) (p : Option Nat) (s : State) :
    (vote a g v r p s).now = s.now ∧ (vote a g v r p s).draws = s.draws ∧ (vote a g v r p s).st = s.st ∧
    (vote a g v r p s).store = s.store ∧ (vote a g v r p s).view = s.view ∧ (vote a g v r p s).budget = s.budget ∧
    (vote a g v r p s).cool = s.cool ∧ (vote a g v r p s).sup = s.sup ∧ (vote a g v r p s).seat = s.seat ∧
    (vote a g v r p s).port = s.port ∧ (vote a g v r p s).filt = s.filt ∧ (vote a g v r p s).host = s.host ∧
    (vote a g v r p s).pending = s.pending ∧ (vote a g v r p s).zone.active = s.zone.active ∧
    (vote a g v r p s).zone.gen = s.zone.gen ∧ (vote a g v r p s).zone.lastProposed = s.zone.lastProposed ∧
    (vote a g v r p s).zone.draft = s.zone.draft ∧ (vote a g v r p s).zone.results = s.zone.results ∧
    (vote a g v r p s).zone.behind = s.zone.behind ∧ (vote a g v r p s).link.rx = s.link.rx ∧
    (vote a g v r p s).link.counters = s.link.counters ∧ (vote a g v r p s).link.hold = s.link.hold ∧
    (vote a g v r p s).link.guard = s.link.guard ∧ (vote a g v r p s).link.idleFrom = s.link.idleFrom ∧
    (vote a g v r p s).link.listenFrom = s.link.listenFrom ∧ (vote a g v r p s).link.ownUntil = s.link.ownUntil := by
  unfold vote; try dsimp only
  (repeat' split) <;> simp_all

@[simp] theorem refuseSet_frame (r : Reason) (p : Option Nat) (s : State) :
    (refuseSet r p s).now = s.now ∧ (refuseSet r p s).draws = s.draws ∧ (refuseSet r p s).st = s.st ∧
    (refuseSet r p s).store = s.store ∧ (refuseSet r p s).view = s.view ∧ (refuseSet r p s).budget = s.budget ∧
    (refuseSet r p s).cool = s.cool ∧ (refuseSet r p s).sup = s.sup ∧ (refuseSet r p s).seat = s.seat ∧
    (refuseSet r p s).port = s.port ∧ (refuseSet r p s).filt = s.filt ∧ (refuseSet r p s).host = s.host ∧
    (refuseSet r p s).pending = s.pending ∧ (refuseSet r p s).zone.active = s.zone.active ∧
    (refuseSet r p s).zone.gen = s.zone.gen ∧ (refuseSet r p s).zone.lastProposed = s.zone.lastProposed ∧
    (refuseSet r p s).zone.draft = s.zone.draft ∧ (refuseSet r p s).zone.results = s.zone.results ∧
    (refuseSet r p s).zone.behind = s.zone.behind ∧ (refuseSet r p s).link.rx = s.link.rx ∧
    (refuseSet r p s).link.counters = s.link.counters ∧ (refuseSet r p s).link.hold = s.link.hold ∧
    (refuseSet r p s).link.guard = s.link.guard ∧ (refuseSet r p s).link.idleFrom = s.link.idleFrom ∧
    (refuseSet r p s).link.listenFrom = s.link.listenFrom ∧ (refuseSet r p s).link.ownUntil = s.link.ownUntil := by
  unfold refuseSet; try dsimp only
  (repeat' split) <;> simp_all

@[simp] theorem completeSet_frame (s : State) :
    (completeSet s).now = s.now ∧ (completeSet s).draws = s.draws ∧ (completeSet s).st = s.st ∧
    (completeSet s).store = s.store ∧ (completeSet s).view = s.view ∧ (completeSet s).budget = s.budget ∧
    (completeSet s).cool = s.cool ∧ (completeSet s).sup = s.sup ∧ (completeSet s).seat = s.seat ∧
    (completeSet s).port = s.port ∧ (completeSet s).filt = s.filt ∧ (completeSet s).host = s.host ∧
    (completeSet s).pending = s.pending ∧ (completeSet s).zone.active = s.zone.active ∧
    (completeSet s).zone.gen = s.zone.gen ∧ (completeSet s).zone.lastProposed = s.zone.lastProposed ∧
    (completeSet s).zone.draft = s.zone.draft ∧ (completeSet s).zone.results = s.zone.results ∧
    (completeSet s).zone.behind = s.zone.behind ∧ (completeSet s).link.rx = s.link.rx ∧
    (completeSet s).link.counters = s.link.counters ∧ (completeSet s).link.hold = s.link.hold ∧
    (completeSet s).link.guard = s.link.guard ∧ (completeSet s).link.idleFrom = s.link.idleFrom ∧
    (completeSet s).link.listenFrom = s.link.listenFrom ∧ (completeSet s).link.ownUntil = s.link.ownUntil := by
  unfold completeSet; try dsimp only
  (repeat' split) <;> simp_all

@[simp] theorem takeOpen_frame (a : Addr) (g n k : Nat) (s : State) :
    (takeOpen a g n k s).now = s.now ∧ (takeOpen a g n k s).draws = s.draws ∧ (takeOpen a g n k s).st = s.st ∧
    (takeOpen a g n k s).store = s.store ∧ (takeOpen a g n k s).view = s.view ∧
    (takeOpen a g n k s).budget = s.budget ∧ (takeOpen a g n k s).cool = s.cool ∧
    (takeOpen a g n k s).sup = s.sup ∧ (takeOpen a g n k s).seat = s.seat ∧ (takeOpen a g n k s).port = s.port ∧
    (takeOpen a g n k s).filt = s.filt ∧ (takeOpen a g n k s).host = s.host ∧
    (takeOpen a g n k s).pending = s.pending ∧ (takeOpen a g n k s).zone.active = s.zone.active ∧
    (takeOpen a g n k s).zone.gen = s.zone.gen ∧ (takeOpen a g n k s).zone.lastProposed = s.zone.lastProposed ∧
    (takeOpen a g n k s).zone.draft = s.zone.draft ∧ (takeOpen a g n k s).zone.results = s.zone.results ∧
    (takeOpen a g n k s).zone.behind = s.zone.behind ∧ (takeOpen a g n k s).link.rx = s.link.rx ∧
    (takeOpen a g n k s).link.counters = s.link.counters ∧ (takeOpen a g n k s).link.hold = s.link.hold ∧
    (takeOpen a g n k s).link.guard = s.link.guard ∧ (takeOpen a g n k s).link.idleFrom = s.link.idleFrom ∧
    (takeOpen a g n k s).link.listenFrom = s.link.listenFrom ∧ (takeOpen a g n k s).link.ownUntil = s.link.ownUntil := by
  unfold takeOpen; try dsimp only
  (repeat' split) <;> simp_all

@[simp] theorem supersede_frame (s : State) :
    (supersede s).now = s.now ∧ (supersede s).draws = s.draws ∧ (supersede s).st = s.st ∧
    (supersede s).store = s.store ∧ (supersede s).link = s.link ∧ (supersede s).view = s.view ∧
    (supersede s).budget = s.budget ∧ (supersede s).cool = s.cool ∧ (supersede s).sup = s.sup ∧
    (supersede s).seat = s.seat ∧ (supersede s).port = s.port ∧ (supersede s).filt = s.filt ∧
    (supersede s).dep = s.dep ∧ (supersede s).pending = s.pending ∧ (supersede s).zone.active = s.zone.active ∧
    (supersede s).zone.gen = s.zone.gen ∧ (supersede s).zone.lastProposed = s.zone.lastProposed ∧
    (supersede s).zone.draft = s.zone.draft ∧ (supersede s).zone.results = s.zone.results ∧
    (supersede s).zone.behind = s.zone.behind ∧ (supersede s).host.slot = s.host.slot ∧
    (supersede s).host.cursor = s.host.cursor ∧ (supersede s).host.out = s.host.out := by
  unfold supersede; try dsimp only
  (repeat' split) <;> simp_all

@[simp] theorem receiveOpen_frame (a : Addr) (g n k : Nat) (s : State) :
    (receiveOpen a g n k s).now = s.now ∧ (receiveOpen a g n k s).draws = s.draws ∧
    (receiveOpen a g n k s).st = s.st ∧ (receiveOpen a g n k s).store = s.store ∧
    (receiveOpen a g n k s).view = s.view ∧ (receiveOpen a g n k s).budget = s.budget ∧
    (receiveOpen a g n k s).cool = s.cool ∧ (receiveOpen a g n k s).sup = s.sup ∧
    (receiveOpen a g n k s).seat = s.seat ∧ (receiveOpen a g n k s).port = s.port ∧
    (receiveOpen a g n k s).filt = s.filt ∧ (receiveOpen a g n k s).pending = s.pending ∧
    (receiveOpen a g n k s).zone.active = s.zone.active ∧ (receiveOpen a g n k s).zone.gen = s.zone.gen ∧
    (receiveOpen a g n k s).zone.lastProposed = s.zone.lastProposed ∧
    (receiveOpen a g n k s).zone.draft = s.zone.draft ∧ (receiveOpen a g n k s).zone.results = s.zone.results ∧
    (receiveOpen a g n k s).zone.behind = s.zone.behind ∧ (receiveOpen a g n k s).link.rx = s.link.rx ∧
    (receiveOpen a g n k s).link.counters = s.link.counters ∧ (receiveOpen a g n k s).link.hold = s.link.hold ∧
    (receiveOpen a g n k s).link.guard = s.link.guard ∧ (receiveOpen a g n k s).link.idleFrom = s.link.idleFrom ∧
    (receiveOpen a g n k s).link.listenFrom = s.link.listenFrom ∧ (receiveOpen a g n k s).link.ownUntil = s.link.ownUntil ∧
    (receiveOpen a g n k s).host.slot = s.host.slot ∧ (receiveOpen a g n k s).host.cursor = s.host.cursor ∧
    (receiveOpen a g n k s).host.out = s.host.out := by
  unfold receiveOpen; try dsimp only
  (repeat' split) <;> simp_all

@[simp] theorem receiveSeg_frame (a : Addr) (g k : Nat) (l : List ZEntry) (s : State) :
    (receiveSeg a g k l s).now = s.now ∧ (receiveSeg a g k l s).draws = s.draws ∧
    (receiveSeg a g k l s).st = s.st ∧ (receiveSeg a g k l s).store = s.store ∧
    (receiveSeg a g k l s).view = s.view ∧ (receiveSeg a g k l s).budget = s.budget ∧
    (receiveSeg a g k l s).cool = s.cool ∧ (receiveSeg a g k l s).sup = s.sup ∧
    (receiveSeg a g k l s).seat = s.seat ∧ (receiveSeg a g k l s).port = s.port ∧
    (receiveSeg a g k l s).filt = s.filt ∧ (receiveSeg a g k l s).host = s.host ∧
    (receiveSeg a g k l s).pending = s.pending ∧ (receiveSeg a g k l s).zone.active = s.zone.active ∧
    (receiveSeg a g k l s).zone.gen = s.zone.gen ∧
    (receiveSeg a g k l s).zone.lastProposed = s.zone.lastProposed ∧
    (receiveSeg a g k l s).zone.draft = s.zone.draft ∧ (receiveSeg a g k l s).zone.results = s.zone.results ∧
    (receiveSeg a g k l s).zone.behind = s.zone.behind ∧ (receiveSeg a g k l s).link.rx = s.link.rx ∧
    (receiveSeg a g k l s).link.counters = s.link.counters ∧ (receiveSeg a g k l s).link.hold = s.link.hold ∧
    (receiveSeg a g k l s).link.guard = s.link.guard ∧ (receiveSeg a g k l s).link.idleFrom = s.link.idleFrom ∧
    (receiveSeg a g k l s).link.listenFrom = s.link.listenFrom ∧ (receiveSeg a g k l s).link.ownUntil = s.link.ownUntil := by
  unfold receiveSeg; try dsimp only
  (repeat' split) <;> simp_all

@[simp] theorem receiveCommit_frame (a : Addr) (g : Nat) (s : State) :
    (receiveCommit a g s).now = s.now ∧ (receiveCommit a g s).draws = s.draws ∧ (receiveCommit a g s).st = s.st ∧
    (receiveCommit a g s).link = s.link ∧ (receiveCommit a g s).view = s.view ∧
    (receiveCommit a g s).budget = s.budget ∧ (receiveCommit a g s).cool = s.cool ∧
    (receiveCommit a g s).sup = s.sup ∧ (receiveCommit a g s).seat = s.seat ∧
    (receiveCommit a g s).port = s.port ∧ (receiveCommit a g s).filt = s.filt ∧
    (receiveCommit a g s).dep = s.dep ∧ (receiveCommit a g s).host = s.host ∧
    (receiveCommit a g s).pending = s.pending ∧ (receiveCommit a g s).zone.active = s.zone.active ∧
    (receiveCommit a g s).zone.gen = s.zone.gen ∧ (receiveCommit a g s).zone.lastProposed = s.zone.lastProposed ∧
    (receiveCommit a g s).zone.draft = s.zone.draft ∧ (receiveCommit a g s).zone.results = s.zone.results ∧
    (receiveCommit a g s).zone.behind = s.zone.behind := by
  unfold receiveCommit; try dsimp only
  (repeat' split) <;> simp_all

@[simp] theorem abandonReady_frame (r : Nat) (s : State) :
    (abandonReady r s).now = s.now ∧ (abandonReady r s).draws = s.draws ∧ (abandonReady r s).st = s.st ∧
    (abandonReady r s).store = s.store ∧ (abandonReady r s).link = s.link ∧ (abandonReady r s).view = s.view ∧
    (abandonReady r s).budget = s.budget ∧ (abandonReady r s).cool = s.cool ∧ (abandonReady r s).sup = s.sup ∧
    (abandonReady r s).seat = s.seat ∧ (abandonReady r s).port = s.port ∧ (abandonReady r s).filt = s.filt ∧
    (abandonReady r s).dep = s.dep ∧ (abandonReady r s).pending = s.pending ∧
    (abandonReady r s).zone.active = s.zone.active ∧ (abandonReady r s).zone.gen = s.zone.gen ∧
    (abandonReady r s).zone.lastProposed = s.zone.lastProposed ∧ (abandonReady r s).zone.draft = s.zone.draft ∧
    (abandonReady r s).zone.results = s.zone.results ∧ (abandonReady r s).zone.behind = s.zone.behind ∧
    (abandonReady r s).host.slot = s.host.slot ∧ (abandonReady r s).host.cursor = s.host.cursor ∧
    (abandonReady r s).host.out = s.host.out := by
  unfold abandonReady; try dsimp only
  (repeat' split) <;> simp_all

@[simp] theorem receiveAbandon_frame (a : Addr) (g r : Nat) (s : State) :
    (receiveAbandon a g r s).now = s.now ∧ (receiveAbandon a g r s).draws = s.draws ∧
    (receiveAbandon a g r s).st = s.st ∧ (receiveAbandon a g r s).store = s.store ∧
    (receiveAbandon a g r s).link = s.link ∧ (receiveAbandon a g r s).view = s.view ∧
    (receiveAbandon a g r s).budget = s.budget ∧ (receiveAbandon a g r s).cool = s.cool ∧
    (receiveAbandon a g r s).sup = s.sup ∧ (receiveAbandon a g r s).seat = s.seat ∧
    (receiveAbandon a g r s).port = s.port ∧ (receiveAbandon a g r s).filt = s.filt ∧
    (receiveAbandon a g r s).dep = s.dep ∧ (receiveAbandon a g r s).pending = s.pending ∧
    (receiveAbandon a g r s).zone.active = s.zone.active ∧ (receiveAbandon a g r s).zone.gen = s.zone.gen ∧
    (receiveAbandon a g r s).zone.lastProposed = s.zone.lastProposed ∧
    (receiveAbandon a g r s).zone.draft = s.zone.draft ∧ (receiveAbandon a g r s).zone.results = s.zone.results ∧
    (receiveAbandon a g r s).zone.behind = s.zone.behind ∧ (receiveAbandon a g r s).host.slot = s.host.slot ∧
    (receiveAbandon a g r s).host.cursor = s.host.cursor ∧ (receiveAbandon a g r s).host.out = s.host.out := by
  unfold receiveAbandon; try dsimp only
  (repeat' split) <;> simp_all

@[simp] theorem implicitDecision_frame (p : Addr) (s : State) :
    (implicitDecision p s).now = s.now ∧ (implicitDecision p s).draws = s.draws ∧
    (implicitDecision p s).st = s.st ∧ (implicitDecision p s).link = s.link ∧
    (implicitDecision p s).view = s.view ∧ (implicitDecision p s).budget = s.budget ∧
    (implicitDecision p s).cool = s.cool ∧ (implicitDecision p s).sup = s.sup ∧
    (implicitDecision p s).seat = s.seat ∧ (implicitDecision p s).port = s.port ∧
    (implicitDecision p s).filt = s.filt ∧ (implicitDecision p s).dep = s.dep ∧
    (implicitDecision p s).pending = s.pending ∧ (implicitDecision p s).zone.active = s.zone.active ∧
    (implicitDecision p s).zone.gen = s.zone.gen ∧
    (implicitDecision p s).zone.lastProposed = s.zone.lastProposed ∧
    (implicitDecision p s).zone.draft = s.zone.draft ∧ (implicitDecision p s).zone.results = s.zone.results ∧
    (implicitDecision p s).zone.behind = s.zone.behind ∧ (implicitDecision p s).host.slot = s.host.slot ∧
    (implicitDecision p s).host.cursor = s.host.cursor ∧ (implicitDecision p s).host.out = s.host.out := by
  unfold implicitDecision; try dsimp only
  (repeat' split) <;> simp_all

@[simp] theorem judgeBehind_frame (p : Addr) (s : State) :
    (judgeBehind p s).now = s.now ∧ (judgeBehind p s).draws = s.draws ∧ (judgeBehind p s).st = s.st ∧
    (judgeBehind p s).store = s.store ∧ (judgeBehind p s).link = s.link ∧ (judgeBehind p s).view = s.view ∧
    (judgeBehind p s).budget = s.budget ∧ (judgeBehind p s).cool = s.cool ∧ (judgeBehind p s).sup = s.sup ∧
    (judgeBehind p s).seat = s.seat ∧ (judgeBehind p s).port = s.port ∧ (judgeBehind p s).filt = s.filt ∧
    (judgeBehind p s).dep = s.dep ∧ (judgeBehind p s).pending = s.pending ∧
    (judgeBehind p s).host.slot = s.host.slot ∧ (judgeBehind p s).host.cursor = s.host.cursor ∧
    (judgeBehind p s).host.out = s.host.out := by
  unfold judgeBehind; try dsimp only
  (repeat' split) <;> simp_all

@[simp] theorem leaveZoning_frame (s : State) :
    (leaveZoning s).now = s.now ∧ (leaveZoning s).draws = s.draws ∧ (leaveZoning s).st = s.st ∧
    (leaveZoning s).store = s.store ∧ (leaveZoning s).view = s.view ∧ (leaveZoning s).budget = s.budget ∧
    (leaveZoning s).cool = s.cool ∧ (leaveZoning s).sup = s.sup ∧ (leaveZoning s).seat = s.seat ∧
    (leaveZoning s).port = s.port ∧ (leaveZoning s).filt = s.filt ∧ (leaveZoning s).pending = s.pending ∧
    (leaveZoning s).zone.active = s.zone.active ∧ (leaveZoning s).zone.gen = s.zone.gen ∧
    (leaveZoning s).zone.lastProposed = s.zone.lastProposed ∧ (leaveZoning s).zone.draft = s.zone.draft ∧
    (leaveZoning s).zone.results = s.zone.results ∧ (leaveZoning s).zone.behind = s.zone.behind ∧
    (leaveZoning s).link.rx = s.link.rx ∧ (leaveZoning s).link.counters = s.link.counters ∧
    (leaveZoning s).link.hold = s.link.hold ∧ (leaveZoning s).link.guard = s.link.guard ∧
    (leaveZoning s).link.idleFrom = s.link.idleFrom ∧
    (leaveZoning s).link.listenFrom = s.link.listenFrom ∧ (leaveZoning s).link.ownUntil = s.link.ownUntil ∧ (leaveZoning s).host.slot = s.host.slot ∧
    (leaveZoning s).host.cursor = s.host.cursor ∧ (leaveZoning s).host.out = s.host.out := by
  unfold leaveZoning; try dsimp only
  (repeat' split) <;> simp_all

@[simp] theorem restartOrigin_frame (s : State) :
    (restartOrigin s).now = s.now ∧ (restartOrigin s).draws = s.draws ∧ (restartOrigin s).st = s.st ∧
    (restartOrigin s).store = s.store ∧ (restartOrigin s).link = s.link ∧ (restartOrigin s).view = s.view ∧
    (restartOrigin s).budget = s.budget ∧ (restartOrigin s).cool = s.cool ∧ (restartOrigin s).sup = s.sup ∧
    (restartOrigin s).seat = s.seat ∧ (restartOrigin s).port = s.port ∧ (restartOrigin s).filt = s.filt ∧
    (restartOrigin s).dep = s.dep ∧ (restartOrigin s).pending = s.pending ∧
    (restartOrigin s).zone.active = s.zone.active ∧ (restartOrigin s).zone.gen = s.zone.gen ∧
    (restartOrigin s).zone.lastProposed = s.zone.lastProposed ∧ (restartOrigin s).zone.draft = s.zone.draft ∧
    (restartOrigin s).zone.results = s.zone.results ∧ (restartOrigin s).zone.behind = s.zone.behind ∧
    (restartOrigin s).host.slot = s.host.slot ∧ (restartOrigin s).host.cursor = s.host.cursor ∧
    (restartOrigin s).host.out = s.host.out := by
  unfold restartOrigin; try dsimp only
  (repeat' split) <;> simp_all

@[simp] theorem restartReceiver_frame (s : State) :
    (restartReceiver s).now = s.now ∧ (restartReceiver s).draws = s.draws ∧ (restartReceiver s).st = s.st ∧
    (restartReceiver s).store = s.store ∧ (restartReceiver s).link = s.link ∧ (restartReceiver s).view = s.view ∧
    (restartReceiver s).budget = s.budget ∧ (restartReceiver s).cool = s.cool ∧ (restartReceiver s).sup = s.sup ∧
    (restartReceiver s).seat = s.seat ∧ (restartReceiver s).port = s.port ∧ (restartReceiver s).filt = s.filt ∧
    (restartReceiver s).dep = s.dep ∧ (restartReceiver s).pending = s.pending ∧
    (restartReceiver s).zone.active = s.zone.active ∧ (restartReceiver s).zone.gen = s.zone.gen ∧
    (restartReceiver s).zone.lastProposed = s.zone.lastProposed ∧ (restartReceiver s).zone.draft = s.zone.draft ∧
    (restartReceiver s).zone.results = s.zone.results ∧ (restartReceiver s).zone.behind = s.zone.behind ∧
    (restartReceiver s).host.slot = s.host.slot ∧ (restartReceiver s).host.cursor = s.host.cursor ∧
    (restartReceiver s).host.out = s.host.out := by
  unfold restartReceiver; try dsimp only
  (repeat' split) <;> simp_all

@[simp] theorem restartZoning_frame (s : State) :
    (restartZoning s).now = s.now ∧ (restartZoning s).draws = s.draws ∧ (restartZoning s).st = s.st ∧
    (restartZoning s).store = s.store ∧ (restartZoning s).link = s.link ∧ (restartZoning s).view = s.view ∧
    (restartZoning s).budget = s.budget ∧ (restartZoning s).cool = s.cool ∧ (restartZoning s).sup = s.sup ∧
    (restartZoning s).seat = s.seat ∧ (restartZoning s).port = s.port ∧ (restartZoning s).filt = s.filt ∧
    (restartZoning s).dep = s.dep ∧ (restartZoning s).pending = s.pending ∧
    (restartZoning s).zone.active = s.zone.active ∧ (restartZoning s).zone.gen = s.zone.gen ∧
    (restartZoning s).zone.lastProposed = s.zone.lastProposed ∧ (restartZoning s).zone.draft = s.zone.draft ∧
    (restartZoning s).zone.results = s.zone.results ∧ (restartZoning s).zone.behind = s.zone.behind ∧
    (restartZoning s).host.slot = s.host.slot ∧ (restartZoning s).host.cursor = s.host.cursor ∧
    (restartZoning s).host.out = s.host.out := by
  unfold restartZoning; try dsimp only
  (repeat' split) <;> simp_all

@[simp] theorem examineGates_frame (s : State) :
    (examineGates s).now = s.now ∧ (examineGates s).draws = s.draws ∧ (examineGates s).st = s.st ∧
    (examineGates s).store = s.store ∧ (examineGates s).link = s.link ∧ (examineGates s).view = s.view ∧
    (examineGates s).cool = s.cool ∧ (examineGates s).sup = s.sup ∧ (examineGates s).seat = s.seat ∧
    (examineGates s).port = s.port ∧ (examineGates s).zone = s.zone ∧ (examineGates s).filt = s.filt ∧
    (examineGates s).dep = s.dep ∧ (examineGates s).host = s.host ∧ (examineGates s).pending = s.pending ∧
    (examineGates s).budget.retry = s.budget.retry ∧ (examineGates s).budget.heldView = s.budget.heldView ∧
    (examineGates s).budget.derate = s.budget.derate ∧ (examineGates s).budget.offer = s.budget.offer := by
  unfold examineGates; try dsimp only
  (repeat' split) <;> simp_all

@[simp] theorem shedAll_frame (fuel : Nat) (s : State) :
    (shedAll fuel s).now = s.now ∧ (shedAll fuel s).draws = s.draws ∧ (shedAll fuel s).st = s.st ∧
    (shedAll fuel s).store = s.store ∧ (shedAll fuel s).link = s.link ∧ (shedAll fuel s).cool = s.cool ∧
    (shedAll fuel s).sup = s.sup ∧ (shedAll fuel s).seat = s.seat ∧ (shedAll fuel s).zone = s.zone ∧
    (shedAll fuel s).dep = s.dep ∧ (shedAll fuel s).pending = s.pending ∧
    (shedAll fuel s).port.history = s.port.history ∧
    (shedAll fuel s).port.boundary = s.port.boundary ∧ (shedAll fuel s).host.slot = s.host.slot ∧
    (shedAll fuel s).host.cursor = s.host.cursor ∧ (shedAll fuel s).host.out = s.host.out ∧
    (shedAll fuel s).view.period = s.view.period ∧ (shedAll fuel s).view.faultLow = s.view.faultLow ∧
    (shedAll fuel s).view.faultMeasure = s.view.faultMeasure ∧ (shedAll fuel s).view.faultSet = s.view.faultSet := by
  induction fuel generalizing s with
  | zero => simp [shedAll]
  | succ n ih =>
    unfold shedAll
    (repeat' split) <;> simp [ih]

@[simp] theorem actUncovered_frame (s : State) :
    (actUncovered s).now = s.now ∧ (actUncovered s).draws = s.draws ∧ (actUncovered s).st = s.st ∧
    (actUncovered s).store = s.store ∧ (actUncovered s).link = s.link ∧ (actUncovered s).cool = s.cool ∧
    (actUncovered s).sup = s.sup ∧ (actUncovered s).seat = s.seat ∧ (actUncovered s).zone = s.zone ∧
    (actUncovered s).dep = s.dep ∧ (actUncovered s).pending = s.pending ∧
    (actUncovered s).port.history = s.port.history ∧
    (actUncovered s).port.boundary = s.port.boundary ∧ (actUncovered s).host.slot = s.host.slot ∧
    (actUncovered s).host.cursor = s.host.cursor ∧ (actUncovered s).host.out = s.host.out ∧
    (actUncovered s).view.period = s.view.period ∧ (actUncovered s).view.faultLow = s.view.faultLow ∧
    (actUncovered s).view.faultMeasure = s.view.faultMeasure ∧ (actUncovered s).view.faultSet = s.view.faultSet := by
  unfold actUncovered; dsimp only
  (repeat' split) <;> simp

@[simp] theorem reevaluate_frame (s : State) :
    (reevaluate s).now = s.now ∧ (reevaluate s).draws = s.draws ∧ (reevaluate s).st = s.st ∧
    (reevaluate s).store = s.store ∧ (reevaluate s).link = s.link ∧ (reevaluate s).cool = s.cool ∧
    (reevaluate s).sup = s.sup ∧ (reevaluate s).seat = s.seat ∧ (reevaluate s).zone = s.zone ∧
    (reevaluate s).dep = s.dep ∧ (reevaluate s).pending = s.pending ∧
    (reevaluate s).port.history = s.port.history ∧
    (reevaluate s).port.boundary = s.port.boundary ∧ (reevaluate s).host.slot = s.host.slot ∧
    (reevaluate s).host.cursor = s.host.cursor ∧ (reevaluate s).host.out = s.host.out ∧
    (reevaluate s).view.period = s.view.period ∧ (reevaluate s).view.faultLow = s.view.faultLow ∧
    (reevaluate s).view.faultMeasure = s.view.faultMeasure ∧ (reevaluate s).view.faultSet = s.view.faultSet := by
  unfold reevaluate; dsimp only
  (repeat' split) <;> simp

@[simp] theorem propagate_frame (fuel : Nat) (s : State) :
    (propagate fuel s).now = s.now ∧ (propagate fuel s).draws = s.draws ∧ (propagate fuel s).st = s.st ∧
    (propagate fuel s).store = s.store ∧ (propagate fuel s).link = s.link ∧ (propagate fuel s).sup = s.sup ∧
    (propagate fuel s).seat = s.seat ∧ (propagate fuel s).zone = s.zone ∧ (propagate fuel s).dep = s.dep ∧
    (propagate fuel s).pending = s.pending ∧ (propagate fuel s).port.history = s.port.history ∧
    (propagate fuel s).port.boundary = s.port.boundary ∧
    (propagate fuel s).host.slot = s.host.slot ∧ (propagate fuel s).host.cursor = s.host.cursor ∧
    (propagate fuel s).host.out = s.host.out ∧ (propagate fuel s).view.period = s.view.period ∧
    (propagate fuel s).view.faultLow = s.view.faultLow ∧
    (propagate fuel s).view.faultMeasure = s.view.faultMeasure ∧
    (propagate fuel s).view.faultSet = s.view.faultSet ∧ (propagate fuel s).cool.readings = s.cool.readings ∧
    (propagate fuel s).cool.hottest = s.cool.hottest ∧ (propagate fuel s).cool.sampled = s.cool.sampled ∧
    (propagate fuel s).cool.sampleAt = s.cool.sampleAt ∧ (propagate fuel s).cool.demand = s.cool.demand ∧
    (propagate fuel s).cool.forced = s.cool.forced ∧ (propagate fuel s).cool.critCount = s.cool.critCount ∧
    (propagate fuel s).cool.clearCount = s.cool.clearCount ∧
    (propagate fuel s).cool.shutCount = s.cool.shutCount ∧ (propagate fuel s).cool.thermal = s.cool.thermal ∧
    (propagate fuel s).cool.rotors = s.cool.rotors ∧ (propagate fuel s).cool.checkAt = s.cool.checkAt := by
  induction fuel generalizing s with
  | zero => simp [propagate]
  | succ n ih =>
    unfold propagate; dsimp only
    split <;> simp [ih]

@[simp] theorem handOn_frame (s : State) :
    (handOn s).now = s.now ∧ (handOn s).draws = s.draws ∧ (handOn s).st = s.st ∧
    (handOn s).store = s.store ∧ (handOn s).link = s.link ∧ (handOn s).sup = s.sup ∧
    (handOn s).seat = s.seat ∧ (handOn s).zone = s.zone ∧ (handOn s).dep = s.dep ∧
    (handOn s).pending = s.pending ∧ (handOn s).port.history = s.port.history ∧
    (handOn s).port.boundary = s.port.boundary ∧
    (handOn s).host.slot = s.host.slot ∧ (handOn s).host.cursor = s.host.cursor ∧
    (handOn s).host.out = s.host.out ∧ (handOn s).view.period = s.view.period ∧
    (handOn s).view.faultLow = s.view.faultLow ∧
    (handOn s).view.faultMeasure = s.view.faultMeasure ∧
    (handOn s).view.faultSet = s.view.faultSet ∧ (handOn s).cool.readings = s.cool.readings ∧
    (handOn s).cool.hottest = s.cool.hottest ∧ (handOn s).cool.sampled = s.cool.sampled ∧
    (handOn s).cool.sampleAt = s.cool.sampleAt ∧ (handOn s).cool.demand = s.cool.demand ∧
    (handOn s).cool.forced = s.cool.forced ∧ (handOn s).cool.critCount = s.cool.critCount ∧
    (handOn s).cool.clearCount = s.cool.clearCount ∧
    (handOn s).cool.shutCount = s.cool.shutCount ∧ (handOn s).cool.thermal = s.cool.thermal ∧
    (handOn s).cool.rotors = s.cool.rotors ∧ (handOn s).cool.checkAt = s.cool.checkAt := by
  unfold handOn
  split <;> simp

@[simp] theorem viewChanged_frame (p : Addr) (s : State) :
    (viewChanged p s).now = s.now ∧ (viewChanged p s).draws = s.draws ∧ (viewChanged p s).st = s.st ∧
    (viewChanged p s).sup = s.sup ∧ (viewChanged p s).dep = s.dep ∧ (viewChanged p s).pending = s.pending ∧
    (viewChanged p s).port.history = s.port.history ∧
    (viewChanged p s).port.boundary = s.port.boundary ∧ (viewChanged p s).host.slot = s.host.slot ∧
    (viewChanged p s).host.cursor = s.host.cursor ∧ (viewChanged p s).host.out = s.host.out ∧
    (viewChanged p s).view.period = s.view.period ∧ (viewChanged p s).view.faultLow = s.view.faultLow ∧
    (viewChanged p s).view.faultMeasure = s.view.faultMeasure ∧
    (viewChanged p s).view.faultSet = s.view.faultSet ∧ (viewChanged p s).cool.readings = s.cool.readings ∧
    (viewChanged p s).cool.hottest = s.cool.hottest ∧ (viewChanged p s).cool.sampled = s.cool.sampled ∧
    (viewChanged p s).cool.sampleAt = s.cool.sampleAt ∧ (viewChanged p s).cool.demand = s.cool.demand ∧
    (viewChanged p s).cool.forced = s.cool.forced ∧ (viewChanged p s).cool.critCount = s.cool.critCount ∧
    (viewChanged p s).cool.clearCount = s.cool.clearCount ∧ (viewChanged p s).cool.shutCount = s.cool.shutCount ∧
    (viewChanged p s).cool.thermal = s.cool.thermal ∧ (viewChanged p s).cool.rotors = s.cool.rotors ∧
    (viewChanged p s).cool.checkAt = s.cool.checkAt ∧ (viewChanged p s).link.rx = s.link.rx ∧
    (viewChanged p s).link.counters = s.link.counters ∧ (viewChanged p s).link.hold = s.link.hold ∧
    (viewChanged p s).link.guard = s.link.guard ∧ (viewChanged p s).link.idleFrom = s.link.idleFrom ∧
    (viewChanged p s).link.listenFrom = s.link.listenFrom ∧ (viewChanged p s).link.ownUntil = s.link.ownUntil := by
  unfold viewChanged; try dsimp only
  (repeat' split) <;> simp_all

@[simp] theorem offerChanged_frame (s : State) :
    (offerChanged s).now = s.now ∧ (offerChanged s).draws = s.draws ∧ (offerChanged s).st = s.st ∧
    (offerChanged s).store = s.store ∧ (offerChanged s).budget = s.budget ∧
    (offerChanged s).cool = s.cool ∧ (offerChanged s).sup = s.sup ∧ (offerChanged s).seat = s.seat ∧
    (offerChanged s).port = s.port ∧ (offerChanged s).zone = s.zone ∧ (offerChanged s).filt = s.filt ∧
    (offerChanged s).dep = s.dep ∧ (offerChanged s).host = s.host ∧
    (offerChanged s).pending = s.pending ∧ (offerChanged s).link.rx = s.link.rx ∧
    (offerChanged s).link.counters = s.link.counters ∧ (offerChanged s).link.hold = s.link.hold ∧
    (offerChanged s).link.guard = s.link.guard ∧ (offerChanged s).link.idleFrom = s.link.idleFrom ∧
    (offerChanged s).link.listenFrom = s.link.listenFrom ∧ (offerChanged s).link.ownUntil = s.link.ownUntil ∧
    (offerChanged s).view.entries = s.view.entries ∧ (offerChanged s).view.pull = s.view.pull ∧
    (offerChanged s).view.faultLow = s.view.faultLow ∧
    (offerChanged s).view.faultMeasure = s.view.faultMeasure ∧
    (offerChanged s).view.faultSet = s.view.faultSet := by
  unfold offerChanged; try dsimp only
  (repeat' split) <;> simp_all

@[simp] theorem changeState_frame (t : StationState) (c : Cause) (s : State) :
    (changeState t c s).now = s.now ∧ (changeState t c s).draws = s.draws ∧ (changeState t c s).store = s.store ∧
    (changeState t c s).link = s.link ∧ (changeState t c s).port = s.port ∧ (changeState t c s).zone = s.zone ∧
    (changeState t c s).filt = s.filt ∧ (changeState t c s).dep = s.dep ∧
    (changeState t c s).pending = s.pending ∧ (changeState t c s).st.straps = s.st.straps ∧
    (changeState t c s).st.settings = s.st.settings ∧ (changeState t c s).st.ejectPin = s.st.ejectPin ∧
    (changeState t c s).st.ejectOpen = s.st.ejectOpen ∧ (changeState t c s).st.ejectMeasure = s.st.ejectMeasure ∧
    (changeState t c s).st.clash = s.st.clash ∧ (changeState t c s).st.pwroff = s.st.pwroff ∧
    (changeState t c s).st.resetCause = s.st.resetCause ∧ (changeState t c s).cool.readings = s.cool.readings ∧
    (changeState t c s).cool.hottest = s.cool.hottest ∧ (changeState t c s).cool.sampled = s.cool.sampled ∧
    (changeState t c s).cool.sampleAt = s.cool.sampleAt ∧ (changeState t c s).cool.demand = s.cool.demand ∧
    (changeState t c s).cool.forced = s.cool.forced ∧ (changeState t c s).cool.critCount = s.cool.critCount ∧
    (changeState t c s).cool.clearCount = s.cool.clearCount ∧
    (changeState t c s).cool.shutCount = s.cool.shutCount ∧ (changeState t c s).cool.thermal = s.cool.thermal ∧
    (changeState t c s).cool.rotors = s.cool.rotors ∧ (changeState t c s).cool.checkAt = s.cool.checkAt ∧
    (changeState t c s).host.slot = s.host.slot ∧ (changeState t c s).host.cursor = s.host.cursor ∧
    (changeState t c s).host.out = s.host.out := by
  unfold changeState; dsimp only
  split <;> simp

@[simp] theorem enterLeaving_frame (s : State) :
    (enterLeaving s).now = s.now ∧ (enterLeaving s).draws = s.draws ∧ (enterLeaving s).st = s.st ∧
    (enterLeaving s).store = s.store ∧ (enterLeaving s).view = s.view ∧ (enterLeaving s).budget = s.budget ∧
    (enterLeaving s).cool = s.cool ∧ (enterLeaving s).sup = s.sup ∧ (enterLeaving s).seat = s.seat ∧
    (enterLeaving s).port = s.port ∧ (enterLeaving s).filt = s.filt ∧ (enterLeaving s).pending = s.pending ∧
    (enterLeaving s).zone.active = s.zone.active ∧ (enterLeaving s).zone.gen = s.zone.gen ∧
    (enterLeaving s).zone.lastProposed = s.zone.lastProposed ∧ (enterLeaving s).zone.draft = s.zone.draft ∧
    (enterLeaving s).zone.results = s.zone.results ∧ (enterLeaving s).zone.behind = s.zone.behind ∧
    (enterLeaving s).link.rx = s.link.rx ∧ (enterLeaving s).link.counters = s.link.counters ∧
    (enterLeaving s).link.hold = s.link.hold ∧ (enterLeaving s).link.guard = s.link.guard ∧
    (enterLeaving s).link.idleFrom = s.link.idleFrom ∧
    (enterLeaving s).link.listenFrom = s.link.listenFrom ∧ (enterLeaving s).link.ownUntil = s.link.ownUntil ∧ (enterLeaving s).host.slot = s.host.slot ∧
    (enterLeaving s).host.cursor = s.host.cursor ∧ (enterLeaving s).host.out = s.host.out := by
  unfold enterLeaving; try dsimp only
  (repeat' split) <;> simp_all

@[simp] theorem giveChunk_frame (s : State) :
    (giveChunk s).now = s.now ∧ (giveChunk s).draws = s.draws ∧ (giveChunk s).st = s.st ∧
    (giveChunk s).link = s.link ∧ (giveChunk s).view = s.view ∧ (giveChunk s).budget = s.budget ∧
    (giveChunk s).cool = s.cool ∧ (giveChunk s).sup = s.sup ∧ (giveChunk s).port = s.port ∧
    (giveChunk s).zone = s.zone ∧ (giveChunk s).filt = s.filt ∧ (giveChunk s).dep = s.dep ∧
    (giveChunk s).pending = s.pending ∧ (giveChunk s).host.slot = s.host.slot ∧
    (giveChunk s).host.cursor = s.host.cursor ∧ (giveChunk s).host.out = s.host.out := by
  unfold giveChunk; try dsimp only
  (repeat' split) <;> simp_all

@[simp] theorem endGift_frame (s : State) :
    (endGift s).now = s.now ∧ (endGift s).draws = s.draws ∧ (endGift s).st = s.st ∧ (endGift s).store = s.store ∧
    (endGift s).view = s.view ∧ (endGift s).budget = s.budget ∧ (endGift s).cool = s.cool ∧
    (endGift s).sup = s.sup ∧ (endGift s).seat = s.seat ∧ (endGift s).port = s.port ∧ (endGift s).filt = s.filt ∧
    (endGift s).pending = s.pending ∧ (endGift s).zone.active = s.zone.active ∧
    (endGift s).zone.gen = s.zone.gen ∧ (endGift s).zone.lastProposed = s.zone.lastProposed ∧
    (endGift s).zone.draft = s.zone.draft ∧ (endGift s).zone.results = s.zone.results ∧
    (endGift s).zone.behind = s.zone.behind ∧ (endGift s).link.rx = s.link.rx ∧
    (endGift s).link.counters = s.link.counters ∧ (endGift s).link.hold = s.link.hold ∧
    (endGift s).link.guard = s.link.guard ∧ (endGift s).link.idleFrom = s.link.idleFrom ∧
    (endGift s).link.listenFrom = s.link.listenFrom ∧ (endGift s).link.ownUntil = s.link.ownUntil ∧
    (endGift s).host.slot = s.host.slot ∧ (endGift s).host.cursor = s.host.cursor ∧
    (endGift s).host.out = s.host.out := by
  unfold endGift; try dsimp only
  (repeat' split) <;> simp_all

@[simp] theorem enterGift_frame (s : State) :
    (enterGift s).now = s.now ∧ (enterGift s).draws = s.draws ∧ (enterGift s).st = s.st ∧
    (enterGift s).view = s.view ∧ (enterGift s).budget = s.budget ∧ (enterGift s).cool = s.cool ∧
    (enterGift s).sup = s.sup ∧ (enterGift s).port = s.port ∧ (enterGift s).filt = s.filt ∧
    (enterGift s).pending = s.pending ∧ (enterGift s).zone.active = s.zone.active ∧
    (enterGift s).zone.gen = s.zone.gen ∧ (enterGift s).zone.lastProposed = s.zone.lastProposed ∧
    (enterGift s).zone.draft = s.zone.draft ∧ (enterGift s).zone.results = s.zone.results ∧
    (enterGift s).zone.behind = s.zone.behind ∧ (enterGift s).link.rx = s.link.rx ∧
    (enterGift s).link.counters = s.link.counters ∧ (enterGift s).link.hold = s.link.hold ∧
    (enterGift s).link.guard = s.link.guard ∧ (enterGift s).link.idleFrom = s.link.idleFrom ∧
    (enterGift s).link.listenFrom = s.link.listenFrom ∧ (enterGift s).link.ownUntil = s.link.ownUntil ∧
    (enterGift s).host.slot = s.host.slot ∧ (enterGift s).host.cursor = s.host.cursor ∧
    (enterGift s).host.out = s.host.out := by
  unfold enterGift; dsimp only
  (repeat' split) <;> simp

@[simp] theorem forceDeparture_frame (s : State) :
    (forceDeparture s).now = s.now ∧ (forceDeparture s).draws = s.draws ∧ (forceDeparture s).st = s.st ∧
    (forceDeparture s).store = s.store ∧ (forceDeparture s).view = s.view ∧ (forceDeparture s).cool = s.cool ∧
    (forceDeparture s).sup = s.sup ∧ (forceDeparture s).pending = s.pending ∧
    (forceDeparture s).zone.active = s.zone.active ∧ (forceDeparture s).zone.gen = s.zone.gen ∧
    (forceDeparture s).zone.lastProposed = s.zone.lastProposed ∧ (forceDeparture s).zone.draft = s.zone.draft ∧
    (forceDeparture s).zone.results = s.zone.results ∧ (forceDeparture s).zone.behind = s.zone.behind ∧
    (forceDeparture s).link.rx = s.link.rx ∧ (forceDeparture s).link.counters = s.link.counters ∧
    (forceDeparture s).link.hold = s.link.hold ∧ (forceDeparture s).link.guard = s.link.guard ∧
    (forceDeparture s).link.idleFrom = s.link.idleFrom ∧
    (forceDeparture s).link.listenFrom = s.link.listenFrom ∧ (forceDeparture s).link.ownUntil = s.link.ownUntil ∧ (forceDeparture s).host.slot = s.host.slot ∧
    (forceDeparture s).host.cursor = s.host.cursor ∧ (forceDeparture s).host.out = s.host.out := by
  unfold forceDeparture; dsimp only
  (repeat' split) <;> simp

@[simp] theorem enterDeparted_frame (s : State) :
    (enterDeparted s).now = s.now ∧ (enterDeparted s).draws = s.draws ∧ (enterDeparted s).store = s.store ∧
    (enterDeparted s).link = s.link ∧ (enterDeparted s).port = s.port ∧ (enterDeparted s).zone = s.zone ∧
    (enterDeparted s).filt = s.filt ∧ (enterDeparted s).pending = s.pending ∧
    (enterDeparted s).st.straps = s.st.straps ∧ (enterDeparted s).st.settings = s.st.settings ∧
    (enterDeparted s).st.ejectPin = s.st.ejectPin ∧ (enterDeparted s).st.ejectOpen = s.st.ejectOpen ∧
    (enterDeparted s).st.ejectMeasure = s.st.ejectMeasure ∧ (enterDeparted s).st.clash = s.st.clash ∧
    (enterDeparted s).st.pwroff = s.st.pwroff ∧ (enterDeparted s).st.resetCause = s.st.resetCause ∧
    (enterDeparted s).cool.readings = s.cool.readings ∧ (enterDeparted s).cool.hottest = s.cool.hottest ∧
    (enterDeparted s).cool.sampled = s.cool.sampled ∧ (enterDeparted s).cool.sampleAt = s.cool.sampleAt ∧
    (enterDeparted s).cool.demand = s.cool.demand ∧ (enterDeparted s).cool.forced = s.cool.forced ∧
    (enterDeparted s).cool.critCount = s.cool.critCount ∧ (enterDeparted s).cool.clearCount = s.cool.clearCount ∧
    (enterDeparted s).cool.shutCount = s.cool.shutCount ∧ (enterDeparted s).cool.thermal = s.cool.thermal ∧
    (enterDeparted s).cool.rotors = s.cool.rotors ∧ (enterDeparted s).cool.checkAt = s.cool.checkAt ∧
    (enterDeparted s).host.slot = s.host.slot ∧ (enterDeparted s).host.cursor = s.host.cursor ∧
    (enterDeparted s).host.out = s.host.out := by
  unfold enterDeparted; dsimp only
  (repeat' split) <;> simp

/-- What a transition puts in the station group (R9, R10, R14). -/
@[simp] theorem changeState_st (t : StationState) (c : Cause) (s : State) :
    (changeState t c s).st.state = t ∧ (changeState t c s).st.ready = decide (t = .departed) ∧
    (changeState t c s).st.drops = s.st.drops ∧ (changeState t c s).st.silence = s.st.silence ∧
    (changeState t c s).st.silenceArmed = s.st.silenceArmed ∧
    (changeState t c s).st.joinTimer = (if t = .joining then some (s.now + Config.ms 1000) else none) ∧
    (changeState t c s).st.pend = (if t = .joining then s.st.pend else .none) := by
  unfold changeState; dsimp only
  split <;> simp

/-- On leaving ACTIVE no window is open and no retry timer runs (R76, R77). -/
theorem changeState_window (t : StationState) (c : Cause) (s : State) (h : t ≠ .active) :
    (changeState t c s).budget.window = none ∧ (changeState t c s).budget.retry = none := by
  unfold changeState
  simp [h]

/-- The held view is taken on entry into ISOLATED and discarded on any other (R57). -/
theorem changeState_held (t : StationState) (c : Cause) (s : State) :
    (changeState t c s).budget.heldView = if t = .isolated then some (liveView s) else none := by
  unfold changeState; dsimp only
  split <;> simp

@[simp] theorem isolate_frame (c : Cause) (s : State) :
    (isolate c s).now = s.now ∧ (isolate c s).draws = s.draws ∧ (isolate c s).store = s.store ∧
    (isolate c s).link = s.link ∧ (isolate c s).port = s.port ∧ (isolate c s).zone = s.zone ∧
    (isolate c s).filt = s.filt ∧ (isolate c s).dep = s.dep ∧ (isolate c s).pending = s.pending ∧
    (isolate c s).st.straps = s.st.straps ∧ (isolate c s).st.settings = s.st.settings ∧
    (isolate c s).st.ejectPin = s.st.ejectPin ∧ (isolate c s).st.ejectOpen = s.st.ejectOpen ∧
    (isolate c s).st.ejectMeasure = s.st.ejectMeasure ∧ (isolate c s).st.clash = s.st.clash ∧
    (isolate c s).st.pwroff = s.st.pwroff ∧ (isolate c s).st.resetCause = s.st.resetCause ∧
    (isolate c s).cool.readings = s.cool.readings ∧ (isolate c s).cool.hottest = s.cool.hottest ∧
    (isolate c s).cool.sampled = s.cool.sampled ∧ (isolate c s).cool.sampleAt = s.cool.sampleAt ∧
    (isolate c s).cool.demand = s.cool.demand ∧ (isolate c s).cool.forced = s.cool.forced ∧
    (isolate c s).cool.critCount = s.cool.critCount ∧ (isolate c s).cool.clearCount = s.cool.clearCount ∧
    (isolate c s).cool.shutCount = s.cool.shutCount ∧ (isolate c s).cool.thermal = s.cool.thermal ∧
    (isolate c s).cool.rotors = s.cool.rotors ∧ (isolate c s).cool.checkAt = s.cool.checkAt ∧
    (isolate c s).host.slot = s.host.slot ∧ (isolate c s).host.cursor = s.host.cursor ∧
    (isolate c s).host.out = s.host.out := by
  unfold isolate; try dsimp only
  (repeat' split) <;> simp_all

@[simp] theorem enterActive_frame (s : State) :
    (enterActive s).now = s.now ∧ (enterActive s).draws = s.draws ∧ (enterActive s).store = s.store ∧
    (enterActive s).port = s.port ∧ (enterActive s).zone = s.zone ∧ (enterActive s).filt = s.filt ∧
    (enterActive s).dep = s.dep ∧ (enterActive s).pending = s.pending ∧ (enterActive s).st.straps = s.st.straps ∧
    (enterActive s).st.settings = s.st.settings ∧ (enterActive s).st.ejectPin = s.st.ejectPin ∧
    (enterActive s).st.ejectOpen = s.st.ejectOpen ∧ (enterActive s).st.ejectMeasure = s.st.ejectMeasure ∧
    (enterActive s).st.clash = s.st.clash ∧ (enterActive s).st.pwroff = s.st.pwroff ∧
    (enterActive s).st.resetCause = s.st.resetCause ∧ (enterActive s).cool.readings = s.cool.readings ∧
    (enterActive s).cool.hottest = s.cool.hottest ∧ (enterActive s).cool.sampled = s.cool.sampled ∧
    (enterActive s).cool.sampleAt = s.cool.sampleAt ∧ (enterActive s).cool.demand = s.cool.demand ∧
    (enterActive s).cool.forced = s.cool.forced ∧ (enterActive s).cool.critCount = s.cool.critCount ∧
    (enterActive s).cool.clearCount = s.cool.clearCount ∧ (enterActive s).cool.shutCount = s.cool.shutCount ∧
    (enterActive s).cool.thermal = s.cool.thermal ∧ (enterActive s).cool.rotors = s.cool.rotors ∧
    (enterActive s).cool.checkAt = s.cool.checkAt ∧ (enterActive s).host.slot = s.host.slot ∧
    (enterActive s).host.cursor = s.host.cursor ∧ (enterActive s).host.out = s.host.out ∧
    (enterActive s).link.rx = s.link.rx ∧ (enterActive s).link.counters = s.link.counters ∧
    (enterActive s).link.hold = s.link.hold ∧ (enterActive s).link.guard = s.link.guard ∧
    (enterActive s).link.idleFrom = s.link.idleFrom ∧
    (enterActive s).link.listenFrom = s.link.listenFrom ∧ (enterActive s).link.ownUntil = s.link.ownUntil := by
  unfold enterActive; try dsimp only
  (repeat' split) <;> simp_all

@[simp] theorem enterJoining_frame (c : Cause) (s : State) :
    (enterJoining c s).now = s.now ∧ (enterJoining c s).draws = s.draws ∧ (enterJoining c s).store = s.store ∧
    (enterJoining c s).link = s.link ∧ (enterJoining c s).zone = s.zone ∧ (enterJoining c s).dep = s.dep ∧
    (enterJoining c s).pending = s.pending ∧ (enterJoining c s).st.straps = s.st.straps ∧
    (enterJoining c s).st.settings = s.st.settings ∧ (enterJoining c s).st.ejectPin = s.st.ejectPin ∧
    (enterJoining c s).st.ejectOpen = s.st.ejectOpen ∧ (enterJoining c s).st.ejectMeasure = s.st.ejectMeasure ∧
    (enterJoining c s).st.clash = s.st.clash ∧ (enterJoining c s).st.pwroff = s.st.pwroff ∧
    (enterJoining c s).st.resetCause = s.st.resetCause ∧ (enterJoining c s).cool.readings = s.cool.readings ∧
    (enterJoining c s).cool.hottest = s.cool.hottest ∧ (enterJoining c s).cool.sampled = s.cool.sampled ∧
    (enterJoining c s).cool.sampleAt = s.cool.sampleAt ∧ (enterJoining c s).cool.demand = s.cool.demand ∧
    (enterJoining c s).cool.forced = s.cool.forced ∧ (enterJoining c s).cool.critCount = s.cool.critCount ∧
    (enterJoining c s).cool.clearCount = s.cool.clearCount ∧
    (enterJoining c s).cool.shutCount = s.cool.shutCount ∧ (enterJoining c s).cool.thermal = s.cool.thermal ∧
    (enterJoining c s).cool.rotors = s.cool.rotors ∧ (enterJoining c s).cool.checkAt = s.cool.checkAt ∧
    (enterJoining c s).host.slot = s.host.slot ∧ (enterJoining c s).host.cursor = s.host.cursor ∧
    (enterJoining c s).host.out = s.host.out ∧ (enterJoining c s).port.history = s.port.history ∧
    (enterJoining c s).port.boundary = s.port.boundary := by
  unfold enterJoining; simp

@[simp] theorem enterActive_state (s : State) : (enterActive s).st.state = .active := by simp [enterActive]

@[simp] theorem enterJoining_st (c : Cause) (s : State) :
    (enterJoining c s).st.state = .joining ∧ (enterJoining c s).st.ready = false ∧ (enterJoining c s).st.drops = 0 ∧
    (enterJoining c s).st.silence = s.st.silence ∧ (enterJoining c s).st.silenceArmed = s.st.silenceArmed ∧
    (enterJoining c s).st.pend = s.st.pend ∧
    (enterJoining c s).st.joinTimer = some (s.now + Config.ms 1000) := by
  simp [enterJoining]

/-- Outside DEPARTING no departure moves on. -/
theorem departProgress_of_ne (s0 s : State) (h : s.st.state ≠ .departing) : departProgress s0 s = s := by
  simp [departProgress, h]

theorem finish_frame (s0 : State) (s : State) (h : s.st.state ≠ .departing) :
    (finish s0 s).now = s.now ∧ (finish s0 s).draws = s.draws ∧ (finish s0 s).st = s.st ∧
    (finish s0 s).sup = s.sup ∧ (finish s0 s).zone = s.zone ∧ (finish s0 s).dep = s.dep ∧
    (finish s0 s).pending = s.pending ∧ (finish s0 s).link.rx = s.link.rx ∧
    (finish s0 s).link.counters = s.link.counters ∧ (finish s0 s).link.hold = s.link.hold ∧
    (finish s0 s).link.guard = s.link.guard ∧ (finish s0 s).link.idleFrom = s.link.idleFrom ∧
    (finish s0 s).link.listenFrom = s.link.listenFrom ∧ (finish s0 s).link.ownUntil = s.link.ownUntil ∧
    (finish s0 s).cool.readings = s.cool.readings ∧ (finish s0 s).cool.hottest = s.cool.hottest ∧
    (finish s0 s).cool.sampled = s.cool.sampled ∧ (finish s0 s).cool.sampleAt = s.cool.sampleAt ∧
    (finish s0 s).cool.demand = s.cool.demand ∧ (finish s0 s).cool.forced = s.cool.forced ∧
    (finish s0 s).cool.critCount = s.cool.critCount ∧ (finish s0 s).cool.clearCount = s.cool.clearCount ∧
    (finish s0 s).cool.shutCount = s.cool.shutCount ∧ (finish s0 s).cool.thermal = s.cool.thermal ∧
    (finish s0 s).cool.rotors = s.cool.rotors ∧ (finish s0 s).cool.checkAt = s.cool.checkAt ∧
    (finish s0 s).seat.free = s.seat.free ∧ (finish s0 s).seat.bound = s.seat.bound ∧
    (finish s0 s).seat.escrow = s.seat.escrow ∧ (finish s0 s).seat.receipts = s.seat.receipts ∧
    (finish s0 s).seat.next = s.seat.next ∧ (finish s0 s).seat.serial = s.seat.serial ∧
    (finish s0 s).seat.answers = s.seat.answers ∧ (finish s0 s).port.history = s.port.history ∧
    (finish s0 s).port.boundary = s.port.boundary ∧
    (finish s0 s).host.slot = s.host.slot ∧ (finish s0 s).host.cursor = s.host.cursor ∧
    (finish s0 s).host.out = s.host.out ∧ (finish s0 s).view.faultLow = s.view.faultLow ∧
    (finish s0 s).view.faultMeasure = s.view.faultMeasure ∧ (finish s0 s).view.faultSet = s.view.faultSet := by
  have hd : ∀ t : State, t.st = s.st → departProgress s0 t = t := fun t ht =>
    departProgress_of_ne s0 t (by rw [ht]; exact h)
  have hj : ∀ t : State, (if askEvent s0 t then judgeAsk t else t).st = t.st := by intro t; split <;> simp
  unfold finish; dsimp only
  rw [hd _ (hj s)]
  (repeat' split) <;> simp

end Sys2Proof.Machine
end

