-- ==== Sys2Proof/Laws/Finish.lean ====
section
/-! SUPPORT. What the end of a step leaves alone in every station state, DEPARTING among them, and what the
hand-on of a rotor's change does. -/

namespace Sys2Proof.Machine

@[simp] theorem makeGive_seat (r : Addr) (c : Nat) (a : Option Nat) (s : State) :
    (makeGive r c a s).seat.bound = s.seat.bound ∧ (makeGive r c a s).seat.receipts = s.seat.receipts ∧
    (makeGive r c a s).seat.serial = s.seat.serial := by
  unfold makeGive; dsimp only
  split <;> simp

@[simp] theorem giveChunk_seat (s : State) :
    (giveChunk s).seat.bound = s.seat.bound ∧ (giveChunk s).seat.receipts = s.seat.receipts ∧
    (giveChunk s).seat.serial = s.seat.serial := by
  unfold giveChunk
  (repeat' split) <;> simp

@[simp] theorem enterGift_seat (s : State) :
    (enterGift s).seat.bound = s.seat.bound ∧ (enterGift s).seat.receipts = s.seat.receipts ∧
    (enterGift s).seat.serial = s.seat.serial := by
  unfold enterGift; dsimp only
  (repeat' split) <;> simp

@[simp] theorem changeState_seat (t : StationState) (c : Cause) (s : State) :
    (changeState t c s).seat.bound = s.seat.bound ∧ (changeState t c s).seat.receipts = s.seat.receipts ∧
    (changeState t c s).seat.serial = s.seat.serial ∧ (changeState t c s).seat.free = s.seat.free ∧
    (changeState t c s).seat.escrow = s.seat.escrow ∧ (changeState t c s).seat.next = s.seat.next := by
  unfold changeState stopAsking; dsimp only
  split <;> simp

@[simp] theorem enterDeparted_seat (s : State) :
    (enterDeparted s).seat.bound = s.seat.bound ∧ (enterDeparted s).seat.receipts = s.seat.receipts ∧
    (enterDeparted s).seat.serial = s.seat.serial ∧ (enterDeparted s).seat.free = s.seat.free ∧
    (enterDeparted s).seat.next = s.seat.next := by
  unfold enterDeparted stopEscrow; dsimp only
  (repeat' split) <;> simp

@[simp] theorem changeState_view (t : StationState) (c : Cause) (s : State) :
    (changeState t c s).view.faultLow = s.view.faultLow ∧
    (changeState t c s).view.faultMeasure = s.view.faultMeasure ∧
    (changeState t c s).view.faultSet = s.view.faultSet ∧ (changeState t c s).view.entries = s.view.entries ∧
    (changeState t c s).view.pull = s.view.pull := by
  unfold changeState; dsimp only
  split <;> simp

@[simp] theorem enterDeparted_view (s : State) :
    (enterDeparted s).view.faultLow = s.view.faultLow ∧
    (enterDeparted s).view.faultMeasure = s.view.faultMeasure ∧
    (enterDeparted s).view.faultSet = s.view.faultSet ∧ (enterDeparted s).view.entries = s.view.entries := by
  unfold enterDeparted stopEscrow; dsimp only
  (repeat' split) <;> simp

@[simp] theorem offerDepart_always (s : State) :
    (offerDepart s).now = s.now ∧ (offerDepart s).draws = s.draws ∧ (offerDepart s).pending = s.pending ∧
    (offerDepart s).link.rx = s.link.rx ∧ (offerDepart s).link.counters = s.link.counters ∧
    (offerDepart s).link.hold = s.link.hold ∧ (offerDepart s).link.guard = s.link.guard ∧
    (offerDepart s).link.idleFrom = s.link.idleFrom ∧
    (offerDepart s).link.listenFrom = s.link.listenFrom ∧ (offerDepart s).link.ownUntil = s.link.ownUntil ∧ (offerDepart s).view.faultLow = s.view.faultLow ∧
    (offerDepart s).view.faultMeasure = s.view.faultMeasure ∧
    (offerDepart s).view.faultSet = s.view.faultSet ∧ (offerDepart s).cool.readings = s.cool.readings ∧
    (offerDepart s).cool.hottest = s.cool.hottest ∧ (offerDepart s).cool.sampled = s.cool.sampled ∧
    (offerDepart s).cool.sampleAt = s.cool.sampleAt ∧ (offerDepart s).cool.demand = s.cool.demand ∧
    (offerDepart s).cool.forced = s.cool.forced ∧ (offerDepart s).cool.critCount = s.cool.critCount ∧
    (offerDepart s).cool.clearCount = s.cool.clearCount ∧
    (offerDepart s).cool.shutCount = s.cool.shutCount ∧ (offerDepart s).cool.thermal = s.cool.thermal ∧
    (offerDepart s).cool.rotors = s.cool.rotors ∧ (offerDepart s).cool.checkAt = s.cool.checkAt ∧
    (offerDepart s).host.slot = s.host.slot ∧ (offerDepart s).host.cursor = s.host.cursor ∧
    (offerDepart s).host.out = s.host.out ∧ (offerDepart s).st.straps = s.st.straps ∧
    (offerDepart s).st.settings = s.st.settings ∧ (offerDepart s).st.ejectPin = s.st.ejectPin ∧
    (offerDepart s).st.ejectOpen = s.st.ejectOpen ∧ (offerDepart s).st.ejectMeasure = s.st.ejectMeasure ∧
    (offerDepart s).st.clash = s.st.clash ∧ (offerDepart s).st.pwroff = s.st.pwroff ∧
    (offerDepart s).st.resetCause = s.st.resetCause ∧ (offerDepart s).zone.active = s.zone.active ∧
    (offerDepart s).zone.gen = s.zone.gen ∧ (offerDepart s).zone.lastProposed = s.zone.lastProposed ∧
    (offerDepart s).zone.draft = s.zone.draft ∧ (offerDepart s).zone.results = s.zone.results ∧
    (offerDepart s).zone.behind = s.zone.behind ∧ (offerDepart s).seat.bound = s.seat.bound ∧
    (offerDepart s).seat.receipts = s.seat.receipts ∧ (offerDepart s).seat.serial = s.seat.serial ∧
    (offerDepart s).port.history = s.port.history ∧
    (offerDepart s).port.boundary = s.port.boundary := by
  unfold offerDepart
  split
  · split <;> rename_i h <;> (have := congrArg Prod.fst h; simp only at this; subst this; simp)
  · simp

@[simp] theorem departProgress_always (s0 : State) (s : State) :
    (departProgress s0 s).now = s.now ∧ (departProgress s0 s).draws = s.draws ∧
    (departProgress s0 s).pending = s.pending ∧ (departProgress s0 s).link.rx = s.link.rx ∧
    (departProgress s0 s).link.counters = s.link.counters ∧ (departProgress s0 s).link.hold = s.link.hold ∧
    (departProgress s0 s).link.guard = s.link.guard ∧ (departProgress s0 s).link.idleFrom = s.link.idleFrom ∧
    (departProgress s0 s).link.listenFrom = s.link.listenFrom ∧ (departProgress s0 s).link.ownUntil = s.link.ownUntil ∧
    (departProgress s0 s).view.faultLow = s.view.faultLow ∧
    (departProgress s0 s).view.faultMeasure = s.view.faultMeasure ∧
    (departProgress s0 s).view.faultSet = s.view.faultSet ∧
    (departProgress s0 s).cool.readings = s.cool.readings ∧ (departProgress s0 s).cool.hottest = s.cool.hottest ∧
    (departProgress s0 s).cool.sampled = s.cool.sampled ∧ (departProgress s0 s).cool.sampleAt = s.cool.sampleAt ∧
    (departProgress s0 s).cool.demand = s.cool.demand ∧ (departProgress s0 s).cool.forced = s.cool.forced ∧
    (departProgress s0 s).cool.critCount = s.cool.critCount ∧
    (departProgress s0 s).cool.clearCount = s.cool.clearCount ∧
    (departProgress s0 s).cool.shutCount = s.cool.shutCount ∧
    (departProgress s0 s).cool.thermal = s.cool.thermal ∧ (departProgress s0 s).cool.rotors = s.cool.rotors ∧
    (departProgress s0 s).cool.checkAt = s.cool.checkAt ∧ (departProgress s0 s).host.slot = s.host.slot ∧
    (departProgress s0 s).host.cursor = s.host.cursor ∧ (departProgress s0 s).host.out = s.host.out ∧
    (departProgress s0 s).st.straps = s.st.straps ∧ (departProgress s0 s).st.settings = s.st.settings ∧
    (departProgress s0 s).st.ejectPin = s.st.ejectPin ∧ (departProgress s0 s).st.ejectOpen = s.st.ejectOpen ∧
    (departProgress s0 s).st.ejectMeasure = s.st.ejectMeasure ∧ (departProgress s0 s).st.clash = s.st.clash ∧
    (departProgress s0 s).st.pwroff = s.st.pwroff ∧ (departProgress s0 s).st.resetCause = s.st.resetCause ∧
    (departProgress s0 s).zone.active = s.zone.active ∧ (departProgress s0 s).zone.gen = s.zone.gen ∧
    (departProgress s0 s).zone.lastProposed = s.zone.lastProposed ∧
    (departProgress s0 s).zone.draft = s.zone.draft ∧ (departProgress s0 s).zone.results = s.zone.results ∧
    (departProgress s0 s).zone.behind = s.zone.behind ∧ (departProgress s0 s).seat.bound = s.seat.bound ∧
    (departProgress s0 s).seat.receipts = s.seat.receipts ∧ (departProgress s0 s).seat.serial = s.seat.serial ∧
    (departProgress s0 s).port.history = s.port.history ∧
    (departProgress s0 s).port.boundary = s.port.boundary := by
  unfold departProgress
  split
  · split <;> (try split) <;> simp
  · simp

/-- The end of a step leaves these alone in every station state. -/
@[simp] theorem finish_always (s0 : State) (s : State) :
    (finish s0 s).now = s.now ∧ (finish s0 s).draws = s.draws ∧ (finish s0 s).pending = s.pending ∧
    (finish s0 s).link.rx = s.link.rx ∧ (finish s0 s).link.counters = s.link.counters ∧
    (finish s0 s).link.hold = s.link.hold ∧ (finish s0 s).link.guard = s.link.guard ∧
    (finish s0 s).link.idleFrom = s.link.idleFrom ∧
    (finish s0 s).link.listenFrom = s.link.listenFrom ∧ (finish s0 s).link.ownUntil = s.link.ownUntil ∧ (finish s0 s).view.faultLow = s.view.faultLow ∧
    (finish s0 s).view.faultMeasure = s.view.faultMeasure ∧ (finish s0 s).view.faultSet = s.view.faultSet ∧
    (finish s0 s).cool.readings = s.cool.readings ∧ (finish s0 s).cool.hottest = s.cool.hottest ∧
    (finish s0 s).cool.sampled = s.cool.sampled ∧ (finish s0 s).cool.sampleAt = s.cool.sampleAt ∧
    (finish s0 s).cool.demand = s.cool.demand ∧ (finish s0 s).cool.forced = s.cool.forced ∧
    (finish s0 s).cool.critCount = s.cool.critCount ∧ (finish s0 s).cool.clearCount = s.cool.clearCount ∧
    (finish s0 s).cool.shutCount = s.cool.shutCount ∧ (finish s0 s).cool.thermal = s.cool.thermal ∧
    (finish s0 s).cool.rotors = s.cool.rotors ∧ (finish s0 s).cool.checkAt = s.cool.checkAt ∧
    (finish s0 s).host.slot = s.host.slot ∧ (finish s0 s).host.cursor = s.host.cursor ∧
    (finish s0 s).host.out = s.host.out ∧ (finish s0 s).st.straps = s.st.straps ∧
    (finish s0 s).st.settings = s.st.settings ∧ (finish s0 s).st.ejectPin = s.st.ejectPin ∧
    (finish s0 s).st.ejectOpen = s.st.ejectOpen ∧ (finish s0 s).st.ejectMeasure = s.st.ejectMeasure ∧
    (finish s0 s).st.clash = s.st.clash ∧ (finish s0 s).st.pwroff = s.st.pwroff ∧
    (finish s0 s).st.resetCause = s.st.resetCause ∧ (finish s0 s).zone.active = s.zone.active ∧
    (finish s0 s).zone.gen = s.zone.gen ∧ (finish s0 s).zone.lastProposed = s.zone.lastProposed ∧
    (finish s0 s).zone.draft = s.zone.draft ∧ (finish s0 s).zone.results = s.zone.results ∧
    (finish s0 s).zone.behind = s.zone.behind ∧ (finish s0 s).seat.bound = s.seat.bound ∧
    (finish s0 s).seat.receipts = s.seat.receipts ∧ (finish s0 s).seat.serial = s.seat.serial ∧
    (finish s0 s).port.history = s.port.history ∧
    (finish s0 s).port.boundary = s.port.boundary := by
  unfold finish; dsimp only
  (repeat' split) <;> simp

/-- What the hand-on of a rotor's change leaves as the judgement of that rotor made it. -/
@[simp] theorem rotorEvent_frame (i : Nat) (f : State → State) (s : State) :
    (rotorEvent i f s).now = (f s).now ∧ (rotorEvent i f s).draws = (f s).draws ∧
    (rotorEvent i f s).st = (f s).st ∧ (rotorEvent i f s).store = (f s).store ∧
    (rotorEvent i f s).link = (f s).link ∧ (rotorEvent i f s).sup = (f s).sup ∧
    (rotorEvent i f s).seat = (f s).seat ∧ (rotorEvent i f s).zone = (f s).zone ∧
    (rotorEvent i f s).dep = (f s).dep ∧ (rotorEvent i f s).pending = (f s).pending ∧
    (rotorEvent i f s).host.slot = (f s).host.slot ∧ (rotorEvent i f s).host.cursor = (f s).host.cursor ∧
    (rotorEvent i f s).host.out = (f s).host.out ∧ (rotorEvent i f s).view.period = (f s).view.period ∧
    (rotorEvent i f s).view.faultLow = (f s).view.faultLow ∧
    (rotorEvent i f s).view.faultMeasure = (f s).view.faultMeasure ∧
    (rotorEvent i f s).view.faultSet = (f s).view.faultSet ∧
    (rotorEvent i f s).cool.readings = (f s).cool.readings ∧ (rotorEvent i f s).cool.hottest = (f s).cool.hottest ∧
    (rotorEvent i f s).cool.sampleAt = (f s).cool.sampleAt ∧ (rotorEvent i f s).cool.demand = (f s).cool.demand ∧
    (rotorEvent i f s).cool.forced = (f s).cool.forced ∧ (rotorEvent i f s).cool.thermal = (f s).cool.thermal ∧
    (rotorEvent i f s).cool.rotors = (f s).cool.rotors ∧ (rotorEvent i f s).cool.checkAt = (f s).cool.checkAt := by
  unfold rotorEvent; dsimp only
  split <;> simp [noteChange]

/-- Where a rotor's state stands, nothing is handed on. -/
theorem rotorEvent_of_same (i : Nat) (f : State → State) (s : State)
    (h : rotorStateAt i (f s) = rotorStateAt i s) : rotorEvent i f s = f s := by
  simp [rotorEvent, h]

/-- Where the own entry stands, following the blocks changes nothing (R44). -/
theorem refresh_of_ownEntry (s : State) (h : OwnEntry s) : refresh s = s := by
  have h4 := h.entry
  unfold refresh
  rw [← h.claim, ← h.tent, ← h.pull]
  dsimp only
  cases he : entryAt s (ownAddr s) with
  | empty => rfl
  | known p heard f =>
    have := h4 f (by simp [ownRecorded, he, Entry.fields?])
    simp only [this]
    exact if_pos trivial

/-- Where nothing is left to follow, the end of a step changes nothing. -/
theorem finish_of_quiet (s0 s : State) (h : Quiet s) (ha : askEvent s0 s = false) (hg : gateEvent s0 s = false) :
    finish s0 s = s := by
  have hn : s.announce = false := h.own.announced
  have hp : handOn s = s := by simp [handOn, hn, propagate, refresh_of_ownEntry s h.own]
  have hb : beginWrites s = s := by
    have h1 : ¬(s.store.seat.changed = true ∧ s.store.seat.writing.isNone = true) := by simpa using h.seat
    have h2 : ¬(s.store.zoning.changed = true ∧ s.store.zoning.writing.isNone = true) := by simpa using h.zoning
    simp only [beginWrites, if_neg h1, if_neg h2]
  simp [finish, ha, departProgress, h.still, hp, hg, offerChanged, hn, hb]

end Sys2Proof.Machine
end

