-- ==== Sys2Proof/Laws/PerInstr.lean ====
section
/-! SUPPORT. The per-command family Envelope: a well-formed host command's code is a code of the command envelope,
but for COMMAND_UNKNOWN's, which is none of them (R174, section 12.6). -/

namespace Sys2Proof.Laws.Envelope

/-- The command stands for a transaction with an unknown code. -/
def isUnknown : Instr → Bool
  | .commandUnknown _ _ => true
  | _ => false

def Statement (i : Instr) : Prop :=
  i.wellFormed = true → ∀ c, i.hostCode = some c → (c ∈ commandCodes ↔ isUnknown i = false)

theorem resetAssert (kind : ResetKind) : Statement (.resetAssert kind) := by
  rintro - d ⟨⟩

theorem resetRelease (pins : ReleasePins) : Statement (.resetRelease pins) := by
  rintro - d ⟨⟩

theorem ejectPinChange (isOpen : Bool) : Statement (.ejectPinChange isOpen) := by
  rintro - d ⟨⟩

theorem ejectJudgedOpen : Statement .ejectJudgedOpen := by
  rintro - d ⟨⟩

theorem ejectJudgedClosed : Statement .ejectJudgedClosed := by
  rintro - d ⟨⟩

theorem faultLineChange (isLow : Bool) : Statement (.faultLineChange isLow) := by
  rintro - d ⟨⟩

theorem faultConditionSet : Statement .faultConditionSet := by
  rintro - d ⟨⟩

theorem faultConditionClear : Statement .faultConditionClear := by
  rintro - d ⟨⟩

theorem sensorSample (r : Sensors) : Statement (.sensorSample r) := by
  rintro - d ⟨⟩

theorem rotorCheck (r : RotorPins) : Statement (.rotorCheck r) := by
  rintro - d ⟨⟩

theorem inOkChange (high : Bool) : Statement (.inOkChange high) := by
  rintro - d ⟨⟩

theorem outOkChange (high : Bool) : Statement (.outOkChange high) := by
  rintro - d ⟨⟩

theorem earlyWarnChange (asserted : Bool) : Statement (.earlyWarnChange asserted) := by
  rintro - d ⟨⟩

theorem outputLostExpire : Statement .outputLostExpire := by
  rintro - d ⟨⟩

theorem goodRunComplete : Statement .goodRunComplete := by
  rintro - d ⟨⟩

theorem storeWriteComplete (rec : RecordId) : Statement (.storeWriteComplete rec) := by
  rintro - d ⟨⟩

theorem lineActivityEnd (bits : List Bool) (lead : Nat) : Statement (.lineActivityEnd bits lead) := by
  rintro - d ⟨⟩

theorem txGapComplete : Statement .txGapComplete := by
  rintro - d ⟨⟩

theorem txCollision : Statement .txCollision := by
  rintro - d ⟨⟩

theorem jamEnd : Statement .jamEnd := by
  rintro - d ⟨⟩

theorem txFrameComplete : Statement .txFrameComplete := by
  rintro - d ⟨⟩

theorem backoffExpire (q : TxQueue) : Statement (.backoffExpire q) := by
  rintro - d ⟨⟩

theorem holdCounterExpire : Statement .holdCounterExpire := by
  rintro - d ⟨⟩

theorem holdGuardExpire : Statement .holdGuardExpire := by
  rintro - d ⟨⟩

theorem rollcallTaken : Statement .rollcallTaken := by
  rintro - d ⟨⟩

theorem supplyDropTaken : Statement .supplyDropTaken := by
  rintro - d ⟨⟩

theorem departTaken : Statement .departTaken := by
  rintro - d ⟨⟩

theorem seatAskTaken : Statement .seatAskTaken := by
  rintro - d ⟨⟩

theorem seatGiveTaken : Statement .seatGiveTaken := by
  rintro - d ⟨⟩

theorem seatAckTaken : Statement .seatAckTaken := by
  rintro - d ⟨⟩

theorem zoneOpenTaken : Statement .zoneOpenTaken := by
  rintro - d ⟨⟩

theorem zoneSegTaken : Statement .zoneSegTaken := by
  rintro - d ⟨⟩

theorem zoneVoteTaken : Statement .zoneVoteTaken := by
  rintro - d ⟨⟩

theorem zoneCommitTaken : Statement .zoneCommitTaken := by
  rintro - d ⟨⟩

theorem zoneAbandonTaken : Statement .zoneAbandonTaken := by
  rintro - d ⟨⟩

theorem rollcallPeriodExpire : Statement .rollcallPeriodExpire := by
  rintro - d ⟨⟩

theorem peerAgeExpire (peer : Addr) : Statement (.peerAgeExpire peer) := by
  rintro - d ⟨⟩

theorem silenceTimerExpire : Statement .silenceTimerExpire := by
  rintro - d ⟨⟩

theorem joiningTimerExpire : Statement .joiningTimerExpire := by
  rintro - d ⟨⟩

theorem settleWindowExpire : Statement .settleWindowExpire := by
  rintro - d ⟨⟩

theorem retryTimerExpire : Statement .retryTimerExpire := by
  rintro - d ⟨⟩

theorem fanHoldExpire : Statement .fanHoldExpire := by
  rintro - d ⟨⟩

theorem fanStepExpire : Statement .fanStepExpire := by
  rintro - d ⟨⟩

theorem askOutstandingExpire : Statement .askOutstandingExpire := by
  rintro - d ⟨⟩

theorem askSpacingExpire : Statement .askSpacingExpire := by
  rintro - d ⟨⟩

theorem answerDelayExpire (asker : Addr) : Statement (.answerDelayExpire asker) := by
  rintro - d ⟨⟩

theorem escrowTimerExpire (xfer : Nat) : Statement (.escrowTimerExpire xfer) := by
  rintro - d ⟨⟩

theorem lightingTimerExpire (port : Nat) : Statement (.lightingTimerExpire port) := by
  rintro - d ⟨⟩

theorem dimmingTimerExpire (port : Nat) : Statement (.dimmingTimerExpire port) := by
  rintro - d ⟨⟩

theorem historyBoundary : Statement .historyBoundary := by
  rintro - d ⟨⟩

theorem segmentTimerExpire : Statement .segmentTimerExpire := by
  rintro - d ⟨⟩

theorem voteWindowExpire : Statement .voteWindowExpire := by
  rintro - d ⟨⟩

theorem orphanTimerExpire : Statement .orphanTimerExpire := by
  rintro - d ⟨⟩

theorem zoneResendTimerExpire : Statement .zoneResendTimerExpire := by
  rintro - d ⟨⟩

theorem filterAck (port : Nat) : Statement (.filterAck port) := by
  rintro - d ⟨⟩

theorem filterTryExpire : Statement .filterTryExpire := by
  rintro - d ⟨⟩

theorem departureTimerExpire : Statement .departureTimerExpire := by
  rintro - d ⟨⟩

theorem departRetryExpire : Statement .departRetryExpire := by
  rintro - d ⟨⟩

theorem intDeassertIntervalExpire : Statement .intDeassertIntervalExpire := by
  rintro - d ⟨⟩

theorem fetch (reads : Nat) : Statement (.fetch reads) := by
  rintro - d ⟨⟩
  simp [commandCodes, isUnknown]

theorem set (rest : List Byte) : Statement (.set rest) := by
  rintro - d ⟨⟩
  simp [commandCodes, isUnknown]

theorem join (rest : List Byte) : Statement (.join rest) := by
  rintro - d ⟨⟩
  simp [commandCodes, isUnknown]

theorem depart (rest : List Byte) : Statement (.depart rest) := by
  rintro - d ⟨⟩
  simp [commandCodes, isUnknown]

theorem linkRestart (rest : List Byte) : Statement (.linkRestart rest) := by
  rintro - d ⟨⟩
  simp [commandCodes, isUnknown]

theorem forgetPeer (rest : List Byte) : Statement (.forgetPeer rest) := by
  rintro - d ⟨⟩
  simp [commandCodes, isUnknown]

theorem forceFans (rest : List Byte) : Statement (.forceFans rest) := by
  rintro - d ⟨⟩
  simp [commandCodes, isUnknown]

theorem portRequest (rest : List Byte) : Statement (.portRequest rest) := by
  rintro - d ⟨⟩
  simp [commandCodes, isUnknown]

theorem portCancel (rest : List Byte) : Statement (.portCancel rest) := by
  rintro - d ⟨⟩
  simp [commandCodes, isUnknown]

theorem portRelease (rest : List Byte) : Statement (.portRelease rest) := by
  rintro - d ⟨⟩
  simp [commandCodes, isUnknown]

theorem portAttach (rest : List Byte) : Statement (.portAttach rest) := by
  rintro - d ⟨⟩
  simp [commandCodes, isUnknown]

theorem portDetach (rest : List Byte) : Statement (.portDetach rest) := by
  rintro - d ⟨⟩
  simp [commandCodes, isUnknown]

theorem seatInstall (rest : List Byte) : Statement (.seatInstall rest) := by
  rintro - d ⟨⟩
  simp [commandCodes, isUnknown]

theorem seatWithdraw (rest : List Byte) : Statement (.seatWithdraw rest) := by
  rintro - d ⟨⟩
  simp [commandCodes, isUnknown]

theorem seatReclaim (rest : List Byte) : Statement (.seatReclaim rest) := by
  rintro - d ⟨⟩
  simp [commandCodes, isUnknown]

theorem zoneDraftClear (rest : List Byte) : Statement (.zoneDraftClear rest) := by
  rintro - d ⟨⟩
  simp [commandCodes, isUnknown]

theorem zoneDraftAdd (rest : List Byte) : Statement (.zoneDraftAdd rest) := by
  rintro - d ⟨⟩
  simp [commandCodes, isUnknown]

theorem zoneDraftRemove (rest : List Byte) : Statement (.zoneDraftRemove rest) := by
  rintro - d ⟨⟩
  simp [commandCodes, isUnknown]

theorem zonePublish (rest : List Byte) : Statement (.zonePublish rest) := by
  rintro - d ⟨⟩
  simp [commandCodes, isUnknown]

theorem readTable (rest : List Byte) : Statement (.readTable rest) := by
  rintro - d ⟨⟩
  simp [commandCodes, isUnknown]

theorem readNext (rest : List Byte) : Statement (.readNext rest) := by
  rintro - d ⟨⟩
  simp [commandCodes, isUnknown]

theorem readNotice (rest : List Byte) : Statement (.readNotice rest) := by
  rintro - d ⟨⟩
  simp [commandCodes, isUnknown]

theorem readCounters (rest : List Byte) : Statement (.readCounters rest) := by
  rintro - d ⟨⟩
  simp [commandCodes, isUnknown]

theorem readStatus (rest : List Byte) : Statement (.readStatus rest) := by
  rintro - d ⟨⟩
  simp [commandCodes, isUnknown]

theorem commandUnknown (code : Byte) (rest : List Byte) : Statement (.commandUnknown code rest) := by
  intro h d hd
  simp_all [Instr.wellFormed, Instr.hostCode, isUnknown]

end Sys2Proof.Laws.Envelope
end

