-- ==== Sys2Proof/Tests/Slice0.lean ====
section
/-! SUPPORT. Tests: the well-formedness checks, values the manual works out, one step of each command on small
states, and a state that meets the hypotheses of each statement that has any. -/

namespace Sys2Proof.Tests

open Sys2Proof.Machine Sys2Proof.Config

set_option Elab.async false

/-! ## WellFormed refuses one ill-formed term for each check -/

def somePins : ReleasePins :=
  { straps := { slot := 5, role := .line, redund := .n, cls := 0, eightRotors := false }, ejectOpen := false,
    faultLow := false, inOk := false, outOk := false, earlyWarn := false, rotorPresent := List.replicate 8 true }

theorem test_wf_present_count :
    (Instr.resetRelease { somePins with rotorPresent := [true] }).wellFormed = false := by decide
theorem test_wf_pins_good : (Instr.resetRelease somePins).wellFormed = true := by decide
theorem test_wf_rotor_present_count :
    (Instr.rotorCheck { present := [], pulses := List.replicate 8 0 }).wellFormed = false := by decide
theorem test_wf_pulses_count :
    (Instr.rotorCheck { present := List.replicate 8 true, pulses := [0] }).wellFormed = false := by decide
theorem test_wf_pulses_range :
    (Instr.rotorCheck { present := List.replicate 8 true, pulses := List.replicate 8 2185 }).wellFormed = false := by
  decide
theorem test_wf_activity_start : (Instr.lineActivityEnd [true, false] 0).wellFormed = false := by decide
theorem test_wf_activity_end : (Instr.lineActivityEnd [false, true] 0).wellFormed = false := by decide
theorem test_wf_activity_run :
    (Instr.lineActivityEnd ([false] ++ List.replicate 8 true ++ [false]) 0).wellFormed = false := by decide
theorem test_wf_activity_good :
    (Instr.lineActivityEnd ([false] ++ List.replicate 7 true ++ [false]) 0).wellFormed = true := by decide
theorem test_wf_activity_lead : (Instr.lineActivityEnd [false] 10).wellFormed = false := by decide
theorem test_wf_port : (Instr.filterAck 48).wellFormed = false := by decide
theorem test_wf_lighting_port : (Instr.lightingTimerExpire 48).wellFormed = false := by decide
theorem test_wf_dimming_port : (Instr.dimmingTimerExpire 48).wellFormed = false := by decide
theorem test_wf_xfer : (Instr.escrowTimerExpire 0).wellFormed = false := by decide
theorem test_wf_unknown_code : (Instr.commandUnknown 0x44#8 []).wellFormed = false := by decide

/-! ## Values the manual gives -/

/-- The published check values of the two checks the manual names (R21, R147), over the digits 1 to 9. -/
def digits : List Byte := [0x31, 0x32, 0x33, 0x34, 0x35, 0x36, 0x37, 0x38, 0x39]
theorem test_crc16 : crc16 digits = 0x29B1 := by decide +kernel
theorem test_crc32 : crc32 digits = 0xCBF43926 := by decide +kernel

/-- R82's table. -/
theorem test_demand :
    ([35, 36, 50, 62, 64, 65].map fun t => demandOf (Settings.default .line) false (some t)) = [30, 33, 65, 93, 98, 100] := by
  decide +kernel
/-- R58: 985 at 41 °C, 700 at 60 °C and above. -/
theorem test_derate : [some 40, some 41, some 60, some 61, none].map derateOf = [1000, 985, 700, 700, 700] := by
  decide +kernel
/-- R61's examples. -/
theorem test_margin : [0, 100, 18000].map marginedOf = [0, 97, 17460] := by decide +kernel
/-- R65: a rotor term is P at duty 100 and ceil(P × 27 / 1000) at duty 30. -/
theorem test_rotorTerm : [rotorTerm 20 30, rotorTerm 80 30, rotorTerm 20 100, rotorTerm 80 100] = [1, 3, 20, 80] := by
  decide +kernel
/-- R133: after starts at 0, 10, 20 and 30 ms the fifth waits for 200 ms. -/
theorem test_boundary : nextBoundary (ms 30) [0, ms 10, ms 20, ms 30] = some (ms 200) := by decide +kernel
/-- Stuffing: five recessive bits are followed by a dominant one (R19). -/
theorem test_stuffing : stuff 0 [true, true, true, true, true, true] = [true, true, true, true, true, false, true] := by
  decide
/-- A frame read back from its line bits is valid, with its destination, source, kind and payload (R19 to R21, R33). -/
theorem test_line_round_trip :
    judgeActivity (activityBytes (lineBits (Msg.frame 7 (.seatAsk 3 16)))) = .valid 0x3F 7 (Kind.code .seatAsk) [3, 16] := by
  decide +kernel

/-! ## One step of each command -/

/-- A station of a role at address 5, in a state, with every other value as after reset. -/
def stn (r : Role) (x : StationState) : State :=
  { State.underReset { slot := 5, role := r, redund := .n, cls := 0, eightRotors := false } State.reset.store .powerOn with
    st := { state := x, straps := { slot := 5, role := r, redund := .n, cls := 0, eightRotors := false },
            settings := Settings.default r, ejectPin := false, ejectOpen := false, ejectMeasure := none, pend := .none,
            joinTimer := none, silence := none, silenceArmed := false, drops := 0, clash := false,
            ready := decide (x = .departed), pwroff := false, resetCause := .powerOn } }

/-- The state after a command. -/
def ran (c : Instr) (s : State) : State := nextOf (exec c s) s

/-- A ROLLCALL's fields for tests. -/
def roll (r : Role) : Roll :=
  { state := .active, role := r, thermal := .normal, hottest := some 30, demand := 30, forced := false, claim := 100,
    tent := 0, offer := 0, supply := if r = .supply then some .good else none,
    duty := if r = .fan then some 30 else none, failed := if r = .fan then some 0 else none, giveable := 0, gen := 0,
    lock := .free, origin := none, proposed := none, faultHeld := false }

/-- `s` with a peer's entry. -/
def withPeer (a : Addr) (p : Presence) (f : Roll) (s : State) : State := setEntry a (.known p 0 f) s

/-- `s` with a frame at the head of its receive queue. -/
def withRx (src : Addr) (m : Msg) (s : State) : State :=
  { s with link.rx := [{ src := src, kind := m.kind, payload := m.payload }] }

/-- `s` with port 3 as `p`. -/
def withPort (p : Port) (s : State) : State := { s with port.recs := s.port.recs.set 3 p }

def portOf (t : PortState) : Port :=
  { Port.clear with state := t, req := some { draw := 100, priority := 1 }, seat := t.seated, timer := some 100 }

theorem test_reset_assert : (ran (.resetAssert .moduleReset) (stn .line .active)).st.state = .reset := by decide +kernel
theorem test_reset_release :
    ((ran (.resetRelease somePins) State.reset).st.state, (ran (.resetRelease somePins) State.reset).host.notices.map (·.kind))
      = (.setup, [.resetCause, .storeBlank, .storeBlank]) := by decide +kernel
theorem test_eject_edge : (ran (.ejectPinChange true) (stn .line .active)).st.ejectMeasure = some 40000 := by decide +kernel
theorem test_eject_open : (ran .ejectJudgedOpen { stn .fan .active with
    st.ejectPin := true, st.ejectMeasure := some 40000 }).st.state = .departed := by decide +kernel
theorem test_eject_closed : (ran .ejectJudgedClosed { stn .fan .departed with
    st.ejectOpen := true, st.ejectMeasure := some 40000 }).st.state = .joining := by decide +kernel
theorem test_fault_edge : (ran (.faultLineChange true) (stn .fan .active)).view.faultMeasure = some 1000000 := by
  decide +kernel
theorem test_fault_set : (ran .faultConditionSet { stn .fan .active with
    view.faultLow := true, view.faultMeasure := some 1000000 }).view.faultSet = true := by decide +kernel
theorem test_fault_clear : (ran .faultConditionClear { stn .fan .active with
    view.faultSet := true, view.faultMeasure := some 1000000 }).view.faultSet = false := by decide +kernel
theorem test_sample : (ran (.sensorSample { s0 := some 50, s1 := none, s2 := some 20, s3 := some 151, loadCode := 0 })
    { stn .line .active with cool.sampleAt := some 500000 }).cool.demand = 65 := by decide +kernel
/-- R85: eight samples at 95 °C or more take a NORMAL station to SHUTDOWN; READY follows on a station in SETUP (R13). -/
theorem test_shutdown : (ran (.sensorSample { s0 := some 95, s1 := none, s2 := none, s3 := none, loadCode := 0 })
    { stn .line .setup with
      cool.sampleAt := some 500000, cool.critCount := 7, cool.shutCount := 7 }).st.ready = true := by decide +kernel
theorem test_rotor_check : ((ran (.rotorCheck { present := List.replicate 8 true, pulses := [10, 300, 300, 300] })
    { stn .fan .active with
      cool.checkAt := some 8000000,
      cool.rotors := List.replicate 4 { state := .ok, low := 2, good := 0, speed := 0, skipEnd := none } }).cool.rotors.map
    (·.state)) = [.failed, .ok, .ok, .ok] := by decide +kernel
theorem test_in_ok : (ran (.inOkChange false) { stn .supply .active with
    sup.inOk := true, sup.enable := true, sup.state := .good }).sup.state = .warning := by decide +kernel
theorem test_out_ok : (ran (.outOkChange false) { stn .supply .active with sup.outOk := true }).sup.lostMeasure
    = some 10000 := by decide +kernel
theorem test_early_warn : (ran (.earlyWarnChange true) { stn .supply .active with
    sup.enable := true, sup.state := .starting }).link.urgent = [.supplyDrop] := by decide +kernel
theorem test_output_lost : (ran .outputLostExpire { stn .supply .active with
    sup.enable := true, sup.state := .good, sup.lostMeasure := some 7 }).sup.state = .failed := by decide +kernel
theorem test_good_run : (ran .goodRunComplete { stn .supply .active with
    sup.inOk := true, sup.outOk := true, sup.enable := true, sup.state := .starting,
    sup.goodRun := .running 7 }).budget.offer = 1050 := by decide +kernel
theorem test_store_written : (ran (.storeWriteComplete .seat) { stn .line .active with
    store.seat.writing := some { SeatRecord.blank with freeCount := 9 } }).store.seat.current.map (·.contents.freeCount)
    = some 9 := by decide +kernel
theorem test_runt : (ran (.lineActivityEnd [false] 0) (stn .line .active)).link.counters.runt = 1 := by decide +kernel
/-- What was on the line when reception began is not judged (R37). -/
theorem test_in_progress : (ran (.lineActivityEnd [false] 1) (stn .line .active)).link.counters.runt = 0 := by
  decide +kernel
/-- What the station's own attempt leaves is no runt (R32); a bit past its end is. -/
theorem test_own_fragment : ((ran (.lineActivityEnd [false, false] 0)
    { stn .line .active with link.ownUntil := some 2 }).link.counters.runt, (ran (.lineActivityEnd [false, true, false] 0)
    { stn .line .active with link.ownUntil := some 2 }).link.counters.runt) = (0, 1) := by decide +kernel
theorem test_gap : (ran .txGapComplete { stn .line .active with
    link.engine := .defer .urgent, link.urgent := [.hold 5] }).now = 24 := by decide +kernel
/-- A dominant level at bit 1, recessive, is a collision, whose jam follows the bit (R24); at bits 0 and 2, dominant,
and past the end bit there is none. -/
theorem test_collision :
    let s : State := { stn .line .active with
      link.engine := .send .urgent 0 [false, true, false], link.urgent := [.hold 5] }
    (ran .txCollision { s with now := 1 }).link.engine = .jam (some .urgent) 10 ∧
      ∀ n ∈ [0, 2, 3], ran .txCollision { s with now := n } = { s with now := n } := by decide +kernel
/-- The sixteenth collision drops the frame (R26). -/
theorem test_jam_drop : (ran .jamEnd { stn .line .active with
    link.engine := .jam (some .urgent) 8, link.urgent := [.hold 5], link.urgentTry.collisions := 16 }).link.counters.drops
    = 1 := by decide +kernel
theorem test_frame_sent : (ran .txFrameComplete { stn .line .active with
    link.engine := .send .urgent 0 [false, true], link.urgent := [.hold 5] }).link.counters.holdsSent = 1 := by
  decide +kernel
theorem test_backoff : (ran (.backoffExpire .urgent) { stn .line .active with
    link.urgent := [.hold 5], link.urgentTry.backoff := some 64 }).link.engine = .defer .urgent := by decide +kernel
theorem test_hold_counter : (ran .holdCounterExpire { stn .line .active with link.hold := some 9 }).link.hold = none := by
  decide +kernel
theorem test_hold_guard : (ran .holdGuardExpire { stn .line .active with link.guard := .running 9 }).link.guard
    = .clear := by decide +kernel
theorem test_rollcall_taken : (entryAt (ran .rollcallTaken (withRx 7 (.rollcall (roll .fan)) (stn .line .active))) 7)
    = .known .present 0 (roll .fan) := by decide +kernel
theorem test_supply_drop_taken : (entryAt (ran .supplyDropTaken
    (withRx 7 .supplyDrop (withPeer 7 .present { roll .supply with offer := 3000 } (stn .line .active)))) 7).fields?.map
      (·.offer) = some 0 := by decide +kernel
theorem test_depart_taken : (entryAt (ran .departTaken
    (withRx 7 .depart (withPeer 7 .present (roll .fan) (stn .line .active)))) 7).presence? = some .gone := by decide +kernel
theorem test_ask_taken : (ran .seatAskTaken (withRx 7 (.seatAsk 3 16)
    (withPeer 7 .present (roll .line) { stn .supervisor .active with seat.free := 8 }))).seat.answers.map (·.ends)
    = [20000] := by decide +kernel
theorem test_give_taken : (ran .seatGiveTaken (withRx 7 (.seatGive 1 5 none 4) (stn .line .active))).seat.free = 4 := by
  decide +kernel
def esc (stranded : Bool) : Escrow :=
  { xfer := 1, rcpt := 7, count := 4, ask := none, tries := 1, timer := some 9, unanswered := false,
    stranded := stranded }
theorem test_ack_taken : (ran .seatAckTaken (withRx 7 (.seatAck 5 1 4)
    { stn .line .active with seat.escrow := [esc false] })).seat.escrow = [] := by decide +kernel
theorem test_open_taken : (ran .zoneOpenTaken (withRx 7 (.zoneOpen 1 2 99) (stn .line .active))).zone.lock
    = .receiving := by decide +kernel
def receivingSet : State :=
  { stn .line .active with
    zone.lock := .receiving, zone.origin := some 7, zone.proposed := some 1, zone.segCount := 2, zone.check := 99,
    zone.segTimer := some 1000000 }
def fiveMembers : List ZEntry := [⟨1, 1⟩, ⟨1, 2⟩, ⟨1, 3⟩, ⟨1, 4⟩, ⟨1, 5⟩]
theorem test_seg_taken : (ran .zoneSegTaken (withRx 7 (.zoneSeg 1 1 fiveMembers) receivingSet)).zone.staged
    = fiveMembers := by decide +kernel
def collectingSet : State :=
  { stn .line .active with
    zone.lock := .collecting, zone.origin := some 5, zone.proposed := some 1, zone.staged := fiveMembers,
    zone.results := [{ voter := 7, verdict := none }], zone.voteTimer := some 4000000 }
theorem test_vote_taken : (ran .zoneVoteTaken (withRx 7 (.zoneVote 5 1 .ready .none none) collectingSet)).zone.commitPending
    = true := by decide +kernel
def readySet : State :=
  { stn .line .active with
    zone.lock := .ready, zone.origin := some 7, zone.proposed := some 1, zone.staged := fiveMembers,
    zone.orphanTimer := some 10000000 }
theorem test_commit_taken : (ran .zoneCommitTaken (withRx 7 (.zoneCommit 1) readySet)).zone.commitPending = true := by
  decide +kernel
theorem test_abandon_taken : (ran .zoneAbandonTaken (withRx 7 (.zoneAbandon 1 .check) readySet)).zone.lock = .free := by
  decide +kernel
theorem test_period : (ran .rollcallPeriodExpire { stn .line .active with view.period := some 500000 }).view.period
    = some 1000000 := by decide +kernel
theorem test_peer_age : (entryAt (ran (.peerAgeExpire 7) (withPeer 7 .present (roll .fan) (stn .line .active))) 7).presence?
    = some .lost := by decide +kernel
theorem test_silence : (ran .silenceTimerExpire { stn .line .active with
    st.silence := some 4000000, st.silenceArmed := true }).st.state = .isolated := by decide +kernel
theorem test_joining : (ran .joiningTimerExpire { stn .line .joining with st.joinTimer := some 2000000 }).st.state
    = .active := by decide +kernel
/-- A QUEUED port 3 at the head of an ACTIVE LINE station with a free seat. -/
def queuedStation : State :=
  withPort (portOf .queued) { stn .line .active with port.queue := [{ port := 3, fresh := true }], seat.free := 1 }
/-- The same with a supply in the view that covers it. -/
def coveredStation : State := withPeer 7 .present { roll .supply with offer := 3000 } queuedStation
theorem test_settle_window : (ran .settleWindowExpire { coveredStation with budget.window := some 80000 }).port.history
    = [80000] := by decide +kernel
theorem test_retry : (ran .retryTimerExpire { coveredStation with
    budget.retry := some 9, budget.margined := 2910 }).budget.window = some 80009 := by decide +kernel
theorem test_history : (ran .historyBoundary { coveredStation with
    port.history := [0], port.boundary := some 20000, budget.margined := 2910 }).budget.window = some 100000 := by decide +kernel
theorem test_fan_hold : (ran .fanHoldExpire { stn .fan .active with
    cool.ramp := .holding 9, cool.forcing := false, cool.demand := 30, cool.target := 30 }).cool.duty = 95 := by
  decide +kernel
theorem test_fan_step : (ran .fanStepExpire { stn .fan .active with
    cool.ramp := .stepping 9, cool.forcing := false, cool.duty := 33, cool.demand := 30, cool.target := 30 }).cool.ramp
    = .steady := by decide +kernel
theorem test_ask_outstanding : (ran .askOutstandingExpire { stn .line .active with
    seat.phase := .outstanding 9 }).seat.phase = .idle := by decide +kernel
theorem test_ask_spacing : (ran .askSpacingExpire { queuedStation with
    seat.free := 0, seat.phase := .spacing 9 }).seat.askNo = 1 := by decide +kernel
def answer7 : Answer := { asker := 7, ask := 3, count := 16, seen := 4, gives := [], ends := 9 }
theorem test_answer_delay : (ran (.answerDelayExpire 7) (withPeer 7 .present (roll .line)
    { stn .supervisor .active with seat.free := 100, seat.answers := [answer7] })).seat.escrow.map (·.count) = [12] := by
  decide +kernel
theorem test_escrow_timer : (ran (.escrowTimerExpire 1) (withPeer 7 .present (roll .line)
    { stn .line .active with seat.escrow := [esc false] })).seat.escrow.map (·.tries) = [2] := by decide +kernel
theorem test_lighting : (ran (.lightingTimerExpire 3) (withPeer 7 .present { roll .supply with offer := 3000 }
    (withPort (portOf .lighting) (stn .line .active)))).port.recs[3]?.map (·.state) = some .lit := by decide +kernel
theorem test_dimming : (ran (.dimmingTimerExpire 3) (withPort (portOf .dimming)
    { stn .line .active with seat.bound := 1 })).seat.free = 1 := by decide +kernel
theorem test_segment_timer : (ran .segmentTimerExpire receivingSet).zone.lock = .free := by decide +kernel
theorem test_vote_window : (ran .voteWindowExpire collectingSet).zone.lock = .free := by decide +kernel
theorem test_orphan : (ran .orphanTimerExpire readySet).zone.lock = .free := by decide +kernel
theorem test_resend : (ran .zoneResendTimerExpire { stn .line .active with
    zone.resend := some 9, zone.outbox := [.zoneCommit 1] }).link.normal.any (· = .zoneCommit 1) = true := by
  decide +kernel
def flight3 (second : Bool) : Flight :=
  { port := 3, mode := .list, list := [1, 2], gen := 1, second := second, ends := 40000, ignored := false }
def loadingStation (second : Bool) : State :=
  withPort { portOf .lit with filter := { state := .loading, mode := none, entries := 0, gen := 0, dirty := false } }
    { stn .line .active with filt.flight := some (flight3 second) }
theorem test_filter_ack : (ran (.filterAck 3) (loadingStation false)).port.recs[3]?.map (·.filter.entries) = some 2 := by
  decide +kernel
theorem test_filter_try : (ran .filterTryExpire (loadingStation true)).port.recs[3]?.map (·.filter.state)
    = some .fault := by decide +kernel
theorem test_departure_timer : (ran .departureTimerExpire { stn .line .departing with
    dep.kind := .orderly, dep.step := some .dimmingWait, dep.timer := some 9 }).st.state = .departed := by decide +kernel
theorem test_depart_retry : (ran .departRetryExpire { stn .fan .departing with
    dep.kind := .orderly, dep.step := some .departWait, dep.retry := some 9 }).st.ready = true := by decide +kernel
theorem test_int : (ran .intDeassertIntervalExpire { stn .fan .setup with
    host.intOff := some 9, host.notices := [{ kind := .faultOn, subject := 5, time := 0, detail := [] }] }).host.int
    = true := by decide +kernel

/-! ## The host's commands -/

theorem test_fetch : (ran (.fetch 2) { stn .line .setup with
    host.slot := .reply { status := .busy, tag := 9, data := [] } }).host.out = [0x02, 0x02, 0x09] := by decide +kernel
theorem test_set : (ran (.set [9, 3, 8, 0, 10]) (stn .line .setup)).st.settings.intMin = 10 := by decide +kernel
theorem test_set_range : (ran (.set [9, 3, 1, 0, 61]) (stn .line .setup)).st.settings.tLow = 35 := by decide +kernel
theorem test_join : (ran (.join [9, 0]) (stn .line .setup)).st.joinTimer = some 2000000 := by decide +kernel
theorem test_depart : (ran (.depart [9, 0]) (stn .line .joining)).st.pend = .command := by decide +kernel
theorem test_link_restart : (ran (.linkRestart [9, 0]) (withPeer 7 .present (roll .fan) (stn .line .active))).st.state
    = .joining := by decide +kernel
theorem test_forget : (entryAt (ran (.forgetPeer [9, 1, 7]) (withPeer 7 .gone (roll .fan) (stn .line .active))) 7)
    = .empty := by decide +kernel
theorem test_force_fans : (ran (.forceFans [9, 1, 1]) (stn .line .setup)).cool.forced = true := by decide +kernel
theorem test_port_request : (ran (.portRequest [9, 4, 3, 0, 200, 1]) (stn .line .active)).port.recs[3]?.bind (·.req)
    = some { draw := 150, priority := 1 } := by decide +kernel
theorem test_port_cancel : (ran (.portCancel [9, 1, 3]) queuedStation).port.queue = [] := by decide +kernel
theorem test_port_release : (ran (.portRelease [9, 1, 3]) (withPort (portOf .lit) (stn .line .joining))).port.recs[3]?.map
    (·.state) = some .dimming := by decide +kernel
theorem test_port_attach : (ran (.portAttach [9, 9, 3, 0, 0, 0, 0, 0, 0, 0, 7])
    (withPort (portOf .lit) (stn .line .joining))).filt.flight.map (·.mode) = some .permitAll := by decide +kernel
theorem test_port_detach : (ran (.portDetach [9, 1, 3]) (withPort (portOf .lit) (stn .line .joining))).filt.flight.map
    (·.mode) = some .denyAll := by decide +kernel
theorem test_seat_install : (ran (.seatInstall [9, 6, 0, 100, 0, 0, 0, 1]) (stn .supervisor .active)).seat.free
    = 100 := by decide +kernel
theorem test_seat_withdraw : (ran (.seatWithdraw [9, 2, 0, 3]) { stn .fan .setup with seat.free := 4 }).seat.free
    = 1 := by decide +kernel
theorem test_seat_reclaim : (ran (.seatReclaim [9, 4, 0, 0, 0, 1]) { stn .line .active with
    seat.escrow := [esc true] }).seat.free = 4 := by decide +kernel
theorem test_draft_clear : (ran (.zoneDraftClear [9, 0]) { stn .line .active with zone.draft := fiveMembers }).zone.draft
    = [] := by decide +kernel
theorem test_draft_add : (ran (.zoneDraftAdd [9, 10, 0, 1, 0, 0, 0, 0, 0, 0, 0, 6])
    { stn .line .active with zone.draft := fiveMembers }).host.slot
    = .reply { status := .ok, tag := 9, data := [0, 1, 0, 6] } := by decide +kernel
theorem test_draft_remove : (ran (.zoneDraftRemove [9, 10, 0, 1, 0, 0, 0, 0, 0, 0, 0, 5])
    { stn .line .active with zone.draft := fiveMembers }).zone.draft.length = 4 := by decide +kernel
theorem test_publish : (ran (.zonePublish [9, 0]) { stn .line .active with zone.draft := fiveMembers }).zone.proposed
    = some 1 := by decide +kernel
theorem test_read_table : (ran (.readTable [9, 3, 8, 0, 0]) (stn .fan .setup)).host.cursor
    = some { table := .rotors, next := 4, ended := true } := by decide +kernel
theorem test_read_next : (ran (.readNext [9, 0]) (stn .fan .setup)).host.slot
    = .reply { status := .wrongState, tag := 9, data := [] } := by decide +kernel
theorem test_read_notice : (ran (.readNotice [9, 0]) { stn .fan .setup with host.overflow := 3 }).host.slot
    = .reply { status := .ok, tag := 9, data := [3] } := by decide +kernel
theorem test_read_counters : (ran (.readCounters [9, 1, 1]) { stn .fan .setup with
    link.counters.sent := 3 }).link.counters.sent = 0 := by decide +kernel
theorem test_read_status : (match (ran (.readStatus [9, 0]) (stn .fan .setup)).host.slot with
    | .reply r => r.data.take 6 | _ => []) = [5, 2, 0, 0, 4, 1] := by decide +kernel
/-- R3: a LIT port's enable is high and a DARK one's low; a FAN station's PWM lines carry the duty, a SUPPLY station's
ML3 the output enable. -/
theorem test_lines :
    ([2, 3].map (lineDrive (withPort (portOf .lit) (stn .line .active))), [0, 11, 12].map (lineDrive (stn .fan .setup)),
      [2, 3].map (lineDrive { stn .supply .active with sup.enable := true }), lineDrive (stn .supervisor .active) 0)
      = ([.low, .high], [.input, .duty 100, .input], [.input, .high], .input) := by decide +kernel
/-- R158: a set waiting at a LINE station's READY receiver is dropped; with the lock FREE nothing of it moves. -/
theorem test_restart_zoning : ((ran (.linkRestart [9, 0]) { readySet with
    zone.resend := some 9, zone.outbox := [.zoneVote 7 1 .ready .none none] }).zone.outbox,
    (ran (.linkRestart [9, 0]) { stn .line .active with
      zone.resend := some 9, zone.outbox := [.zoneCommit 1] }).zone.outbox) = ([], [.zoneCommit 1]) := by decide +kernel
/-- R83: with the flag on a FAN station's target is 100, before JOIN too. -/
theorem test_force_target : (ran (.forceFans [9, 1, 1]) { stn .fan .setup with cool.target := 30 }).cool.target = 100 := by
  decide +kernel
/-- A FAN station whose own entry stands, with rotor 0 about to recover and rotor 1 about to fail. -/
def swappingFan : State :=
  let s : State := refresh { stn .fan .active with
    now := 8000000,
    cool.checkAt := some 8000000,
    cool.rotors := [{ state := .failed, low := 0, good := 4, speed := 0, skipEnd := none },
      { state := .ok, low := 2, good := 0, speed := 0, skipEnd := none }] }
  setEntry 5 (.known .present 0 (ownRoll s)) s
def swapped : State := ran (.rotorCheck { present := List.replicate 8 true, pulses := [187, 0] }) swappingFan
/-- R98: each of two changes that cancel out in the own entry is an event: a re-evaluation comes between their notices,
and the step offers a ROLLCALL and restarts its period (R41, R53). -/
theorem test_rotors_swap :
    ownRecorded swapped = ownRecorded swappingFan ∧
      swapped.host.notices.map (·.kind) = [.rotorOk, .budgetUncovered, .budgetExhausted, .rotorFailed] ∧
      swapped.link.normal.map (·.kind) = [.rollcall] ∧ swapped.view.period = some 8500000 := by decide +kernel
theorem test_unknown : (ran (.commandUnknown 0x7F#8 [9, 0]) (stn .fan .setup)).host.slot
    = .reply { status := .unknown, tag := 9, data := [] } := by decide +kernel

/-! ## States that meet the hypotheses of the statements -/

def setupStation : State := stn .line .setup

theorem setup_step : ∃ t, step setupStation = .next t := ⟨_, rfl⟩

theorem setup_port (n : Nat) (p : Port) (h : portAt setupStation n = some p) : p = Port.clear := by
  have h' : (List.replicate 24 Port.clear)[n]? = some p := h
  rw [List.getElem?_replicate] at h'
  split at h'
  · exact (Option.some.inj h').symm
  · cases h'

theorem witness_StepRunsFrontCommand :
    ({ setupStation with pending := [.fetch 0] } : State).pending = .fetch 0 :: [] := rfl

theorem setup_capacity : Capacity setupStation where
  urgent := by decide +kernel
  normal := by decide +kernel
  oneRollcall := by decide +kernel
  heldOnLine := by decide +kernel
  outbox := by decide +kernel
  portQueue := by decide +kernel
  loadQueue := by decide +kernel
  queued := fun n => ⟨fun h => (by cases h), fun ⟨p, h, hq⟩ => by rw [setup_port n p h] at hq; cases hq⟩
  loading := fun l h => by cases h
  escrow := ⟨by decide +kernel, by decide +kernel⟩
  escrowA := fun c h => by cases h
  escrowB := fun c h => by cases h
  escrowWriting := fun c h => by cases h
  receive := by decide +kernel
  notices := by decide +kernel
  overflow := by decide +kernel
  sent := by decide +kernel
  received := by decide +kernel
  collisions := by decide +kernel
  drops := by decide +kernel
  badCheck := by decide +kernel
  runt := by decide +kernel
  giant := by decide +kernel
  overrun := by decide +kernel
  unknownKind := by decide +kernel
  holdsSent := by decide +kernel
  holdsReceived := by decide +kernel

theorem setup_ports : PortsAgree setupStation :=
  ⟨by decide +kernel, by decide +kernel, fun e h => (by cases h),
    fun n p h hs => (by rw [setup_port n p h] at hs; rcases hs with hs | hs <;> cases hs),
    fun n p h => (by rw [setup_port n p h]; rfl), by decide +kernel⟩

theorem witness_CapacityKept : PortsAgree setupStation ∧ Capacity setupStation ∧ ∃ t, step setupStation = .next t :=
  ⟨setup_ports, setup_capacity, setup_step⟩

theorem witness_PinsKept : PinsHold setupStation ∧ ∃ t, step setupStation = .next t :=
  ⟨by constructor <;> decide +kernel, setup_step⟩

theorem setup_own : OwnEntry setupStation :=
  ⟨by decide +kernel, by decide +kernel, by decide +kernel, fun f h => (by
    have h0 : ownRecorded setupStation = none := by decide +kernel
    rw [h0] at h; cases h), by decide +kernel, by decide +kernel⟩

theorem witness_OwnEntryKept : OwnEntry setupStation ∧ ∃ t, step setupStation = .next t := ⟨setup_own, setup_step⟩

/-- A FAN station that has joined, with a failed rotor and a peer's demand to count. -/
def joinedFan : State := ran (.join [9, 0]) { stn .fan .setup with
  cool.demand := 40, cool.rotors := [{ state := .failed, low := 0, good := 0, speed := 0, skipEnd := none }] }

theorem own_of (s : State) (f : Roll) (h : ownRecorded s = some f) (hf : f = ownRoll s)
    (hc : s.budget.claim = steadyClaim s) (ht : s.budget.tent = tentative s) (hp : s.view.pull = pulls s)
    (ha : s.announce = false) (hr : role s = .fan → ownRecorded s ≠ none → s.cool.target = fanTarget s) : OwnEntry s :=
  ⟨hc, ht, hp, fun g hg => by rw [h] at hg; exact (Option.some.inj hg) ▸ hf, ha, hr⟩

theorem witness_OwnEntryKept_fan : OwnEntry joinedFan ∧ role joinedFan = .fan ∧ joinedFan.cool.target = 50 :=
  ⟨own_of _ (ownRoll joinedFan) (by decide +kernel) rfl (by decide +kernel) (by decide +kernel) (by decide +kernel)
    (by decide +kernel) (by decide +kernel), by decide +kernel⟩

theorem witness_SeatLimitKept : SeatLimit setupStation ∧ ∃ t, step setupStation = .next t :=
  ⟨⟨by decide +kernel, fun _ h => (by cases h), fun _ h => (by cases h), fun _ h => (by cases h)⟩, setup_step⟩

theorem witness_PortsAgreeKept : PortsAgree setupStation ∧ ∃ t, step setupStation = .next t := ⟨setup_ports, setup_step⟩

theorem setup_zone : ZoneHold setupStation :=
  ⟨by decide +kernel, by decide +kernel, by decide +kernel, fun h => (by cases h), by decide +kernel, by decide +kernel,
    by decide +kernel, by decide +kernel, fun _ h => (by cases h), by decide +kernel⟩

theorem witness_ZoneHoldKept : ZoneHold setupStation ∧ ∃ t, step setupStation = .next t := ⟨setup_zone, setup_step⟩

theorem witness_GenerationNeverFalls : ZoneHold setupStation ∧ ∃ t, step setupStation = .next t :=
  ⟨setup_zone, setup_step⟩

theorem witness_SupplyHoldKept : SupplyHold (stn .supply .joining) ∧ ∃ t, step (stn .supply .joining) = .next t :=
  ⟨⟨by decide +kernel, by decide +kernel, by decide +kernel, by decide +kernel⟩, ⟨_, rfl⟩⟩

theorem witness_SettingsKept : SettingsHold setupStation ∧ ∃ t, step setupStation = .next t :=
  ⟨by constructor <;> decide +kernel, setup_step⟩

theorem witness_PaceKept : PaceHold { setupStation with now := ms 100, port.history := [0, ms 10, ms 100] } :=
  ⟨by decide +kernel, by decide +kernel, by decide +kernel, by decide +kernel⟩

/-- A fourth start beside three recent ones, at the end of a settle window, and a fifth 200 ms after the first. -/
theorem witness_PaceKept_append :
    (ran .settleWindowExpire { coveredStation with
      budget.window := some (ms 100), port.history := [0, ms 10, ms 20] }).port.history = [0, ms 10, ms 20, ms 100] ∧
    (ran .settleWindowExpire { coveredStation with
      budget.window := some (ms 200), port.history := [0, ms 10, ms 20, ms 30] }).port.history
        = [ms 10, ms 20, ms 30, ms 200] := by decide +kernel

theorem witness_ReceiptsNeverFall : ∃ t, exec .seatGiveTaken setupStation = .next t := ⟨_, rfl⟩

theorem witness_ResetReleaseEntersSetup : State.reset.st.state = .reset ∧
    somePins.straps.role = .line ∧ { somePins.straps with role := .fan }.role = .fan ∧
    { somePins.straps with role := .supply }.role = .supply := ⟨rfl, rfl, rfl, rfl⟩

theorem witness_PinEdgesRestartMeasures :
    (setupStation.st.state ≠ .reset ∧ setupStation.st.ejectPin ≠ true ∧ setupStation.view.faultLow ≠ true ∧
      role setupStation = .line) ∧ PortsAgree setupStation ∧
    [role (stn .fan .setup), role (stn .supply .setup), role (stn .supervisor .setup)] = [.fan, .supply, .supervisor] :=
  ⟨by decide +kernel, setup_ports, by decide +kernel⟩

/-- A station whose EJECT measure runs to 40000. -/
def measured (isOpen : Bool) (x : StationState) (p : PendingDeparture) : State :=
  { stn .line x with st.ejectPin := isOpen, st.ejectMeasure := some 40000, st.pend := p }

theorem witness_EjectJudged_open :
    (measured true .active .none).st.ejectMeasure = some 40000 ∧ (measured true .active .none).st.ejectPin = true ∧
      (measured true .active .none).st.state = .active ∧ (measured true .isolated .none).st.state = .isolated ∧
      (measured true .joining .command).st.pend = .command ∧ (measured true .setup .none).st.state = .setup := by
  decide +kernel

theorem witness_EjectJudged_closed :
    (measured false .joining .eject).st.ejectPin = false ∧ (measured false .joining .eject).st.pend = .eject ∧
      (measured false .departed .none).st.state = .departed ∧
      (measured false .departed .none).cool.thermal ≠ .shutdown := by decide +kernel

theorem witness_FaultConditionFollowsLine :
    let s : State := { stn .fan .active with
      view.faultLow := true, view.faultMeasure := some 1000000, cool.forcing := false }
    let u : State := { stn .fan .active with view.faultSet := true, view.faultMeasure := some 1000000 }
    (s.view.faultMeasure = some 1000000 ∧ s.view.faultLow = true ∧ s.view.faultSet = false ∧ role s = .fan ∧
      s.cool.forcing = false ∧ s.host.notices.length < noticeCap) ∧
    (u.view.faultMeasure = some 1000000 ∧ u.view.faultLow = false ∧ u.view.faultSet = true ∧ u.st.state = .active ∧
      u.cool.thermal ≠ .shutdown) := by decide +kernel

/-- A station about to sample. -/
def sampling (r : Role) (t : Thermal) (crit clear shut : Nat) : State :=
  { stn r .active with
    cool.sampleAt := some 500000, cool.thermal := t, cool.critCount := crit, cool.clearCount := clear,
    cool.shutCount := shut }

/-- Each row of R82 and R84 is met: at T_low, between the thresholds, at T_high; at T_crit and 3 below it, at T_shut; with
no valid reading, -41 and 151 °C among them; and with the flag on. -/
theorem witness_SampleSetsFigures_rows :
    ([some 35, some 36, some 64, some 65, some (-41), some 151, none].map fun t =>
      (ran (.sensorSample { s0 := t, s1 := none, s2 := none, s3 := none, loadCode := 0 })
        (sampling .line .normal 0 0 0)).cool.demand) = [30, 33, 98, 100, 100, 100, 100] ∧
    ([some 82, some 83, some 85, some 95, none].map fun t =>
      let c := (ran (.sensorSample { s0 := t, s1 := none, s2 := none, s3 := none, loadCode := 0 })
        (sampling .line .normal 3 3 3)).cool
      (c.critCount, c.clearCount, c.shutCount)) = [(0, 4, 0), (0, 0, 0), (4, 0, 0), (4, 0, 4), (4, 0, 0)] ∧
    (ran (.sensorSample { s0 := some 35, s1 := none, s2 := none, s3 := none, loadCode := 0 })
      { sampling .line .normal 0 0 0 with cool.forced := true }).cool.demand = 100 := by decide +kernel

theorem witness_SampleSetsFigures :
    (sampling .supply .normal 0 0 0).st.state ≠ .reset ∧ (sampling .supply .normal 0 0 0).cool.sampleAt = some 500000 ∧
      role (sampling .supply .normal 0 0 0) = .supply := by decide +kernel

/-- Each row of R85 is reached: from counts of 7 the sample makes them 8. -/
theorem witness_ThermalStateJudged :
    (ran (.sensorSample { s0 := some 95, s1 := none, s2 := none, s3 := none, loadCode := 0 })
        (sampling .line .normal 7 0 7)).cool.thermal = .shutdown ∧
      (ran (.sensorSample { s0 := some 85, s1 := none, s2 := none, s3 := none, loadCode := 0 })
        (sampling .line .normal 7 0 0)).cool.thermal = .critical ∧
      (ran (.sensorSample { s0 := some 95, s1 := none, s2 := none, s3 := none, loadCode := 0 })
        (sampling .line .critical 8 0 7)).cool.thermal = .shutdown ∧
      (ran (.sensorSample { s0 := some 82, s1 := none, s2 := none, s3 := none, loadCode := 0 })
        (sampling .line .critical 0 7 0)).cool.thermal = .normal ∧
      (ran (.sensorSample { s0 := some 30, s1 := none, s2 := none, s3 := none, loadCode := 0 })
        (sampling .line .shutdown 0 0 0)).cool.thermal = .shutdown := by decide +kernel

/-- Thermal SHUTDOWN entered in an orderly departure, which it forces, and in a forced one that waits for room: with room
again DEPART still waits for its 10 ms (R172). -/
theorem witness_ThermalStateJudged_departing :
    let r : Sensors := { s0 := some 95, s1 := none, s2 := none, s3 := none, loadCode := 0 }
    let s : State := { sampling .line .critical 8 0 7 with
      st.state := .departing, dep.kind := .orderly, dep.timer := some 900000, dep.step := some .dimmingWait }
    let u : State := { s with
      dep.kind := .forced, dep.timer := none, dep.step := some .departWait, dep.zoningAsked := true, dep.retry := some 600000 }
    (s.st.state ≠ .reset ∧ s.cool.sampleAt = some 500000 ∧ (ran (.sensorSample r) s).cool.thermal = .shutdown ∧
      (ran (.sensorSample r) s).dep.kind = .forced) ∧
    ((ran (.sensorSample r) u).cool.thermal = .shutdown ∧ (ran (.sensorSample r) u).st.state = .departing ∧
      (ran (.sensorSample r) u).dep.retry = some 600000 ∧ (ran (.sensorSample r) u).link.normal = []) := by decide +kernel

/-- A FAN station about to check, with one rotor of each kind: two low before, good before, FAILED with four good,
ABSENT. -/
def checking : State :=
  { stn .fan .active with
    cool.checkAt := some 8000000,
    cool.rotors := [{ state := .ok, low := 2, good := 0, speed := 0, skipEnd := none },
      { state := .ok, low := 0, good := 0, speed := 0, skipEnd := some 9000000 },
      { state := .failed, low := 0, good := 4, speed := 0, skipEnd := none },
      { state := .absent, low := 0, good := 0, speed := 0, skipEnd := none }] }

/-- Present with no pulses: the first fails, the second is skipped, the third starts again, the fourth is OK with a skip
period of its own. -/
theorem witness_RotorCheckJudges_rows :
    ((ran (.rotorCheck { present := List.replicate 8 true, pulses := [] }) checking).cool.rotors.map fun x =>
      (x.state, x.low, x.good, x.skipEnd)) =
      [(.failed, 0, 0, none), (.ok, 0, 0, some 9000000), (.failed, 0, 0, none), (.ok, 0, 0, some 14000000)] ∧
    ((ran (.rotorCheck { present := [true, true, true, false], pulses := List.replicate 8 187 }) checking).cool.rotors.map
      fun x => (x.state, x.low, x.good, x.speed)) =
      [(.ok, 0, 0, 5610), (.ok, 0, 0, 0), (.ok, 0, 0, 5610), (.absent, 0, 0, 0)] := by decide +kernel

theorem witness_RotorCheckJudges :
    role checking = .fan ∧ checking.st.state ≠ .reset ∧ checking.cool.checkAt = some 8000000 ∧
      (checking.cool.rotors.map fun x => skipsRotor 8000000 checking.cool.lastDuty x) = [false, true, false, false] ∧
      ratedSpeed checking.st.straps * checking.cool.duty / 100 * 70 = 560000 := by decide +kernel

/-- The sending clause: two rotors change, and what the own entry carries does not. -/
theorem witness_RotorCheckJudges_rollcall :
    role swappingFan = .fan ∧ sending swappingFan = true ∧ swappingFan.st.state ≠ .departing ∧
      ownRecorded swappingFan ≠ none ∧ swappingFan.link.normal.length < normalCap ∧
      (swappingFan.cool.rotors.map (·.state), swapped.cool.rotors.map (·.state)) = ([.failed, .ok], [.ok, .failed]) := by
  decide +kernel

theorem witness_FanDutySteps :
    let s : State := { stn .fan .active with
      cool.ramp := .holding 9, cool.forcing := false, cool.demand := 30, cool.target := 30 }
    let u : State := { stn .fan .active with
      cool.ramp := .stepping 9, cool.forcing := false, cool.demand := 30, cool.target := 30 }
    (role s = .fan ∧ s.st.state = .active ∧ s.cool.forcing = false ∧ s.cool.target = fanTarget s ∧
      s.cool.target < s.cool.duty ∧ s.cool.ramp = .holding 9) ∧
    (u.cool.target = fanTarget u ∧ u.cool.ramp = .stepping 9) := by decide +kernel

/-- The target before and after JOIN, and the three cases of the ramp. -/
theorem witness_FanDutySteps_target :
    let s : State := withPeer 7 .lost (roll .line) (withPeer 8 .gone (roll .fan) { stn .fan .active with cool.demand := 40 })
    let u : State := setEntry 5 (.known .present 0 (ownRoll s)) s
    let v (d t : Nat) : State := { stn .fan .active with
      cool.demand := t, cool.target := 0, cool.duty := d, cool.forcing := false, cool.ramp := .steady }
    (ownRecorded s = none ∧ fanTarget s = 40) ∧ (ownRecorded u ≠ none ∧ fanTarget u = 100) ∧
      Finset.univ.sup (targetDemand u) = 40 ∧ ∑ a, targetMissing u a = 1 ∧
    ([v 30 60, v 60 60, v 60 30].map fun x => ((retarget x).cool.duty, (retarget x).cool.ramp))
      = [(60, .steady), (60, .steady), (60, .holding 20000000)] := by decide +kernel

theorem witness_DerateByTemperature :
    State.reset.st.state = .reset ∧ setupStation.cool.hottest = none ∧
      (sampling .supply .normal 0 0 0).cool.sampleAt = some 500000 ∧
      validReading (some 151) = none ∧ validReading (some (-41)) = none := by decide +kernel

theorem witness_MarginedCapacity_window :
    let s : State := { coveredStation with budget.margined := 2910 }
    s.port.queue = [{ port := 3, fresh := true }] ∧ s.budget.window = none ∧ (examineGates s).budget.window ≠ none ∧
      (recheck s).port.history ≠ s.port.history := by decide +kernel

/-- A FAN and a LINE station with terms of each kind. -/
theorem witness_SteadyClaims_terms :
    (steadyClaim { stn .fan .active with
        cool.duty := 30, cool.rotors := List.replicate 4 { state := .ok, low := 0, good := 0, speed := 0, skipEnd := none } },
      steadyClaim (withPort (portOf .lighting) (stn .line .active)), portTenths (withPort (portOf .dimming) (stn .line .active)))
      = (19, 210, 100) := by decide +kernel

/-- Two supplies, a fan tray ahead and a line card behind: R60 and R68 in figures; N+1 with one supply is not redundant. -/
def budgetStation (m : Redundancy) (k : Nat) : State :=
  let s : State := withPeer 9 .present (roll .line) (withPeer 8 .lost (roll .fan)
    (withPeer 7 .present { roll .supply with offer := 1000 } (withPort (portOf .lit) (stn .line .active))))
  let s : State := if k = 2 then withPeer 6 .present { roll .supply with offer := 3000 } s else s
  { refresh (setEntry 5 (.known .present 0 (ownRoll s)) s) with st.straps.redund := m }

theorem witness_PowerBudgetComputed :
    ((compute (budgetStation .nPlusOne 2)).budget.usable, (compute (budgetStation .nPlusOne 2)).budget.runSum,
      (compute (budgetStation .nPlusOne 2)).budget.coverage) = (1000, 290, .covered) ∧
    ((compute (budgetStation .n 2)).budget.usable, (compute (budgetStation .nPlusOne 1)).budget.usable,
      (compute (budgetStation .nPlusOne 1)).budget.redundant) = (4000, 1000, false) ∧
    (budgetView (budgetStation .n 2)).length = 32 ∧ (budgetStation .n 2).budget.heldView = none ∧
    ∑ a, suppliedAt (budgetStation .n 2) a = 4000 ∧ ∑ a, claimAhead (budgetStation .n 2) a = 290 := by decide +kernel

/-- Three ports in service and nothing to power them: the lower priority goes first, then the higher port. -/
def overdrawn : State :=
  let s : State := { stn .line .active with
    port.recs := ((stn .line .active).port.recs.set 3 (portOf .lit)).set 4 { portOf .lighting with
      req := some { draw := 50, priority := 3 } } |>.set 5 (portOf .lit) }
  setEntry 5 (.known .present 0 (ownRoll s)) s

theorem witness_PowerBudgetComputed_shed :
    firstToShed overdrawn = some 4 ∧ firstToShed (shedPort 4 overdrawn) = some 5 ∧
      (compute (refresh overdrawn)).budget.coverage = .uncovered ∧ role overdrawn = .line ∧
      overdrawn.st.state = .active ∧ overdrawn.host.notices.length < noticeCap ∧
      ((reevaluate overdrawn).port.queue.map (·.port)) = [3, 5, 4] ∧ shedBefore 5 (portOf .lit) 3 (portOf .lit) ∧
      ¬ shedBefore 3 (portOf .lit) 5 (portOf .lit) :=
  ⟨by decide +kernel, by decide +kernel, by decide +kernel, rfl, rfl, by decide +kernel, by decide +kernel,
    .inr ⟨rfl, by decide⟩, fun h => by rcases h with h | ⟨-, h⟩ <;> revert h <;> decide⟩

/-- An ISOLATED station reads the held view of its peers. -/
theorem witness_PowerBudgetComputed_held :
    let s := isolate .silence (budgetStation .n 2)
    s.budget.heldView = some (liveView (budgetStation .n 2)) ∧ (liveView (budgetStation .n 2)).length = 32 := by
  decide +kernel

theorem witness_SteadyClaims : OwnEntry setupStation ∧ PortsAgree setupStation ∧
    role (stn .supervisor .setup) = .supervisor ∧ role (stn .supply .setup) = .supply :=
  ⟨setup_own, setup_ports, rfl, rfl⟩

theorem witness_SteadyClaims_roles :
    (stn .supervisor .setup).budget.claim = 60 ∧ (stn .supply .setup).budget.claim = 0 := by decide +kernel

theorem witness_SettleWindowEnds :
    let s : State := { coveredStation with budget.window := some 80000 }
    let u : State := reevaluate (reach 80000 s)
    s.st.state = .active ∧ s.budget.window = some 80000 ∧ u.budget.window = some 80000 ∧
      u.port.queue = [{ port := 3, fresh := true }] ∧ s.zone.lock ≠ .applying ∧ 0 < u.seat.free ∧
      recheckTotal (liveView u) (ownAddr u).val (prospective u 3) ≤ u.budget.margined := by decide +kernel

/-- A window that ends with a draw the capacity does not cover, with no free seat (gate 4), and with the lock APPLYING
(gate 2). -/
theorem witness_SettleWindowEnds_fail :
    let s : State := { coveredStation with budget.window := some 80000 }
    let short := withPeer 7 .present { roll .supply with offer := 100 } s
    let f (t : State) := (t.budget.window, t.budget.tent, t.budget.retry, t.port.queue.length, t.port.history.length)
    (short.st.state = .active ∧ (reevaluate (reach 80000 short)).budget.window = some 80000 ∧
      (reevaluate (reach 80000 short)).budget.margined < recheckTotal (liveView (reevaluate (reach 80000 short)))
        (ownAddr short).val (prospective (reevaluate (reach 80000 short)) 3)) ∧
    f (ran .settleWindowExpire short) = (none, 0, some 280000, 1, 0) ∧
    f (ran .settleWindowExpire { s with seat.free := 0 }) = (none, 0, none, 1, 0) ∧
    f (ran .settleWindowExpire { s with zone.lock := .applying }) = (none, 0, none, 1, 0) := by decide +kernel

/-- The totals at their bounds: LINE entries on either side of the own address, a FAN and a SUPPLY entry, each with a
claim of 100 and an increment of 9; and the head's port QUEUED beside a LIT one. -/
theorem witness_SettleWindowEnds_totals :
    let s := [(4, Role.line), (6, .line), (7, .fan), (8, .supply)].foldl
      (fun s x => withPeer x.1 .present { roll x.2 with tent := 9 } s) queuedStation
    let u : State := { queuedStation with port.recs := queuedStation.port.recs.set 4 (portOf .lit) }
    s.budget.heldView = none ∧ firstTotal (liveView s) (ownAddr s).val 50 = 377 ∧
      (∑ a, claimAtFirst s a) = 327 ∧ recheckTotal (liveView s) (ownAddr s).val 50 = 459 ∧
      (∑ a, claimAtRecheck s a) = 409 ∧ role u = .line ∧ portAt u 3 = some (portOf .queued) ∧
      (portOf .queued).req = some { draw := 100, priority := 1 } ∧ prospective u 3 = 220 ∧
      prospective { u with port.recs := u.port.recs.set 3 (portOf .shed) } 3 = 220 := by decide +kernel

theorem witness_GatesExamined :
    let s : State := { coveredStation with budget.retry := some 9, budget.margined := 2910 }
    s.budget.retry = some 9 ∧ s.port.queue = [{ port := 3, fresh := true }] ∧ role s = .line ∧
      s.budget.heldView = none ∧
      s.budget.margined = marginedOf (usableOf s.st.straps.redund (countedOffers (liveView s))).1 ∧
      gatesOpen { port := 3, fresh := true } { reach 9 s with budget.retry := none } = true ∧
      firstTotal (liveView s) (ownAddr s).val (prospective s 3) ≤ s.budget.margined ∧
      s.budget.claim = steadyClaim s ∧ s.budget.tent = tentative s ∧ s.view.pull = pulls s ∧ ownRecorded s = none ∧
      s.announce = false ∧
      gatesOpen { port := 3, fresh := true } { reach (ms 10) { s with budget.retry := none, port.history := [0] } with
        port.boundary := none } = true := by decide +kernel

/-- The boundary is passed though the clock stands beyond it (R133, R134). -/
theorem witness_GatesExamined_late :
    let s : State := { coveredStation with
      now := ms 50, port.history := [0], port.boundary := some (ms 10), budget.margined := 2910 }
    s.port.boundary = some (ms 10) ∧ (ran .historyBoundary s).budget.window = some (ms 90) ∧
      (ran .historyBoundary s).port.boundary = none := by decide +kernel

theorem queued_ports : PortsAgree coveredStation := by
  have hp : ∀ n p, portAt coveredStation n = some p → (n = 3 ∧ p = portOf .queued) ∨ p = Port.clear := by
    intro n p h
    have h' : ((List.replicate 24 Port.clear).set 3 (portOf .queued))[n]? = some p := h
    rw [List.getElem?_set] at h'
    split at h'
    · rename_i hn
      split at h'
      · exact .inl ⟨hn.symm, (Option.some.inj h').symm⟩
      · cases h'
    · rw [List.getElem?_replicate] at h'
      split at h'
      · exact .inr (Option.some.inj h').symm
      · cases h'
  refine ⟨by decide +kernel, by decide +kernel, ?_, ?_, ?_, by decide +kernel⟩
  · intro e he
    have : e = { port := 3, fresh := true } := by simpa using (show e ∈ [QEntry.mk 3 true] from he)
    subst this
    exact ⟨portOf .queued, by decide +kernel, by decide +kernel⟩
  · intro n p h hs
    rcases hp n p h with ⟨rfl, -⟩ | rfl
    · exact ⟨{ port := 3, fresh := true }, by decide +kernel, rfl⟩
    · rcases hs with hs | hs <;> cases hs
  · intro n p h
    rcases hp n p h with ⟨-, rfl⟩ | rfl <;> rfl

/-- A SUPPLY station in a state. -/
def supplyStation (t : SupplyState) : State :=
  { stn .supply .active with
    sup.inOk := true, sup.enable := true, sup.state := t, sup.lostMeasure := some 7, sup.goodRun := .running 9 }

theorem witness_SupplyLinesRead :
    role (supplyStation .good) = .supply ∧ (supplyStation .good).st.state ≠ .reset ∧
      (supplyStation .good).sup.inOk ≠ false ∧ (supplyStation .good).sup.outOk ≠ true ∧
      (supplyStation .good).sup.earlyWarn ≠ true ∧ (supplyStation .good).sup.lostMeasure = some 7 ∧
      (supplyStation .good).sup.goodRun = .running 9 := by decide +kernel

theorem witness_SupplyStateMoves :
    let s := supplyStation .good
    let u := supplyStation .starting
    role s = .supply ∧ s.sup.enable = true ∧ s.cool.thermal ≠ .shutdown ∧ sending s = true ∧ s.st.state ≠ .departing ∧
      s.link.urgent.length < urgentCap ∧ s.sup.state = .good ∧ s.sup.inOk = true ∧ s.sup.earlyWarn = false ∧
      s.sup.lostMeasure = some 7 ∧ u.sup.state = .starting ∧ u.sup.goodRun = .running 9 := by decide +kernel

/-- R101's rows in order, by the events and by the state each begins in; and the events that no row lists. -/
theorem witness_SupplyStateMoves_rows :
    let low (x : SupplyState) : State := { supplyStation x with sup.inOk := false }
    let lost (x : SupplyState) : State := { supplyStation x with sup.outputLost := true }
    let f (t : State) := (t.sup.state, t.link.urgent.length)
    [f (ran (.inOkChange true) (low .absent)), f (ran (.earlyWarnChange true) (supplyStation .starting)),
      f (ran (.earlyWarnChange true) (supplyStation .good)), f (ran (.inOkChange false) (supplyStation .good)),
      f (ran .outputLostExpire (supplyStation .good)), f (ran .outputLostExpire (supplyStation .warning)),
      f (ran (.inOkChange false) (lost .warning)), f (ran .outputLostExpire (low .failed)),
      f (ran .goodRunComplete (supplyStation .failed))]
      = [(.starting, 0), (.warning, 1), (.warning, 1), (.warning, 1), (.failed, 1), (.failed, 0), (.absent, 0),
        (.absent, 0), (.good, 0)] ∧
    [f (ran (.inOkChange false) (supplyStation .failed)), f (ran .outputLostExpire (supplyStation .starting)),
      f (ran (.earlyWarnChange true) (supplyStation .warning))] = [(.failed, 0), (.starting, 0), (.warning, 0)] := by
  decide +kernel

/-- R102: with the output enable low the state follows the input; in SHUTDOWN nothing moves it. -/
theorem witness_SupplyStateMoves_input :
    let s : State := { supplyStation .starting with sup.enable := false }
    let u : State := { supplyStation .failed with cool.thermal := .shutdown, sup.enable := false, st.state := .departed }
    (s.sup.enable = false ∧ supplyEvent (.inOkChange false) = true ∧
      (ran (.inOkChange false) s).sup.state = .absent ∧ (ran (.earlyWarnChange true) s).sup.state = .starting) ∧
    (u.cool.thermal = .shutdown ∧ (ran (.inOkChange false) u).sup.state = .failed) := by decide +kernel

theorem witness_StoreWriteCompletes :
    let s : State := { stn .supervisor .active with
      store.seat.writing := some SeatRecord.blank, store.seat.waiting := [.reply], host.slot := .busy 9 }
    let u : State := { collectingSet with
      zone.commitPending := true, store.zoning.writing := some { active := fiveMembers, gen := 1, lastProposed := 1 },
      store.zoning.waiting := [.commit] }
    (s.store.seat.writing = some SeatRecord.blank ∧ Wait.reply ∈ s.store.seat.waiting ∧ s.host.slot = .busy 9) ∧
    (u.store.zoning.writing = some { active := fiveMembers, gen := 1, lastProposed := 1 } ∧
      Wait.commit ∈ u.store.zoning.waiting ∧ u.zone.commitPending = true ∧ u.zone.proposed = some 1) := by decide +kernel

/-- A give and an ack that waited go out with SEATS-RECEIVED; a publish that waited sends its opening and segment, of
which a queue with one place takes the first. -/
theorem witness_StoreWriteCompletes_waits :
    let s : State := { stn .supervisor .active with
      store.seat.writing := some SeatRecord.blank, store.seat.waiting := [.give 1, .ack 7 2 4 true],
      seat.escrow := [{ esc false with timer := none, tries := 0 }] }
    let t := ran (.storeWriteComplete .seat) s
    let u : State := { collectingSet with
      zone.lock := .publishing, zone.voteTimer := none, store.zoning.waiting := [.zoneOpen 1],
      store.zoning.writing := some { active := [], gen := 0, lastProposed := 1 } }
    let l : List Msg := [.zoneOpen 1 1 (setCheck fiveMembers), .zoneSeg 1 1 fiveMembers]
    (sending s = true ∧ (s.store.seat.waiting.map Wait.ofSeats) = [true, true] ∧
      escrowOf s 1 = some { esc false with timer := none, tries := 0 }) ∧
    (Msg.seatGive 1 7 none 4 ∈ t.link.normal ∧ Msg.seatAck 7 2 4 ∈ t.link.normal ∧
      t.host.notices.map (·.kind) = [.seatsReceived]) ∧
    ((ran (.storeWriteComplete .zoning) u).link.normal = l ∧ (ran (.storeWriteComplete .zoning) u).zone.outbox = []) ∧
    (ran (.storeWriteComplete .zoning) { u with link.normal := List.replicate 15 (.seatAsk 0 1) }).zone.outbox
      = l.drop 1 := by decide +kernel

/-- Activity of one bit, activity longer than any frame, and a frame whose check is wrong. -/
theorem witness_LineErrorsCounted :
    receiving (stn .line .active) = true ∧ discards [false] 0 (stn .line .active) = false ∧
      judgeActivity (activityBytes [false]) = .runt ∧
      judgeActivity (activityBytes (false :: (stuff 0 (bytesBits (delimiter ++ List.replicate 80 0)) ++ [false]))) = .giant ∧
      judgeActivity (activityBytes (false :: (stuff 0 (bytesBits (delimiter ++ List.replicate 10 0)) ++ [false])))
        = .badCheck := by decide +kernel

/-- The bits and bytes at their bounds: one dominant bit, runs of 4 to 7 recessive bits, a part-byte of seven bits; 7, 8,
64 and 65 bytes; and each field of a frame of 8 bytes just outside its range. -/
theorem witness_LineErrorsCounted_bytes :
    activityBytes [true, false, true] = [] ∧
      ([4, 5, 6, 7].map fun k => unstuff 0 (List.replicate k true ++ [false])) =
        [[true, true, true, true, false], List.replicate 5 true, List.replicate 6 true ++ [false],
          List.replicate 7 true ++ [false]] ∧
      bitsBytes (bytesBits [0xD5#8] ++ List.replicate 7 true) = [0xD5#8] ∧
      ([7, 8, 64, 65].map fun k => judgeActivity (List.replicate k 0#8)) = [.runt, .badCheck, .badCheck, .giant] ∧
      judgeActivity (frameBytes 31 31 0xFF []) = .valid 31 31 0xFF [] ∧
      judgeActivity (frameBytes 0x3F 0 0 [7#8]) = .valid 0x3F 0 0 [7#8] ∧
      [judgeActivity (frameBytes 32 7 1 []), judgeActivity (frameBytes 0x3E 7 1 []), judgeActivity (frameBytes 5 32 1 []),
        judgeActivity ((frameBytes 5 7 1 []).set 1 0x2A#8), judgeActivity ((frameBytes 5 7 1 []).set 7 0#8)]
        = List.replicate 5 .badCheck := by decide +kernel

/-- What is not judged, at the bounds: an attempt on the line, activity that began a bit before reception, a fragment that
ends with the attempt, and one carried on by the jam of another station; a bit later each is judged. -/
theorem witness_LineErrorsCounted_discards :
    let s : State := { stn .line .active with now := 100, link.listenFrom := 90 }
    let u : State := { s with link.ownUntil := some 100 }
    discards [false] 0 { s with link.engine := .send .normal 0 [] } = true ∧
      discards [false] 0 { s with link.engine := .jam none 9 } = true ∧
      (discards [false] 11 s = true ∧ discards [false] 10 s = false) ∧
      (discards [false] 1 u = true ∧ discards [false, true, false] 2 u = false) ∧
      discards (false :: true :: List.replicate 9 false) 2 u = true ∧
      discards (false :: true :: List.replicate 8 false) 2 u = false ∧
      discards (false :: true :: List.replicate 9 false) 0 u = false := by decide +kernel

theorem witness_ValidFrameReceived :
    judgeActivity (activityBytes (lineBits (Msg.frame 7 (.hold 5)))) = .valid 0x3F 7 (Kind.code .hold) [5] ∧
      judgeActivity (activityBytes (lineBits (Msg.frame 7 (.seatAck 5 1 4))))
        = .valid 5 7 (Kind.code .seatAck) (Msg.payload (.seatAck 5 1 4)) ∧
      judgeActivity (activityBytes (lineBits (Msg.frame 5 .depart))) = .valid 0x3F 5 (Kind.code .depart) [] ∧
      Kind.ofCode (Kind.code .hold) = some .hold ∧ lengthOk .hold [5] = true ∧
      Kind.ofCode (Kind.code .seatAck) = some .seatAck ∧
      lengthOk .seatAck (Msg.payload (.seatAck 5 1 4)) = true ∧ receiving (stn .line .isolated) = true ∧
      discards (lineBits (Msg.frame 7 (.hold 5))) 0 (stn .line .isolated) = false ∧
      (stn .line .isolated).st.clash = false := by decide +kernel

/-- A frame to another station, one of unknown kind, and a repeated clash. -/
theorem witness_ValidFrameReceived_other :
    let s := withPeer 7 .lost (roll .fan) (stn .line .active)
    let t := ran (.lineActivityEnd (lineBits (Msg.frame 7 (.seatAck 6 1 4))) 0) s
    let u := ran (.lineActivityEnd (lineBits (frameBytes 5 7 0x7F [])) 0) s
    let v := ran (.lineActivityEnd (lineBits (Msg.frame 5 .depart)) 0) { s with st.clash := true }
    (t.link.rx = [] ∧ t.link.counters = Counters.zero ∧ (entryAt t 7).presence? = some .lost ∧ ageMs t 7 = 0 ∧
      t.st.silenceArmed = false) ∧
    (u.link.counters.unknownKind = 1 ∧ Kind.ofCode 0x7F = none) ∧
    (v.st.state = .active ∧ v.host.notices = [] ∧ v.st.silence = none) := by decide +kernel

theorem witness_TransmitPhases :
    let s : State := { stn .line .active with link.engine := .defer .urgent, link.urgent := [.hold 5] }
    s.link.engine = .defer .urgent ∧ queueOf .urgent s.link = [.hold 5] := by decide +kernel

/-- The start bit (dominant), the first recessive bit, the end bit and the moments before and after the frame. -/
theorem witness_TransmitPhases_collision :
    let bits := lineBits (Msg.frame 5 (.hold 5))
    let s : State := { stn .line .active with link.engine := .send .urgent 7 bits, link.urgent := [.hold 5] }
    s.link.engine = .send .urgent 7 bits ∧ bits.idxOf true = 1 ∧ bitDriven 7 bits (7 + 1) = some true ∧
      bitDriven 7 bits 7 = some false ∧ bitDriven 7 bits (7 + bits.length - 1) = some false ∧
      bitDriven 7 bits (7 + bits.length) = none ∧ bitDriven 7 bits 6 = none := by decide +kernel

theorem witness_JamEndBacksOffOrDrops :
    let s : State := { stn .line .active with
      link.engine := .jam (some .normal) 8, link.normal := [.depart], link.normalTry.collisions := 15 }
    let u : State := { stn .line .active with
      link.engine := .jam (some .normal) 8, link.normal := [.depart], link.normalTry.collisions := 16, st.drops := 2 }
    (s.link.engine = .jam (some .normal) 8 ∧ (attemptOf .normal s.link).collisions < 16) ∧
    (u.link.engine = .jam (some .normal) 8 ∧ 16 ≤ (attemptOf .normal u.link).collisions ∧
      queueOf .normal u.link = [.depart] ∧ u.st.state = .active ∧ 3 ≤ u.st.drops + 1) := by decide +kernel

/-- The dropped frame leaves its queue, and a dropped HOLD's guard is given its 5 ms. -/
theorem witness_JamEndBacksOffOrDrops_gone :
    let s : State := { stn .line .active with
      link.engine := .jam (some .normal) 8, link.normal := [.seatAsk 0 1], link.normalTry.collisions := 16 }
    let u : State := { stn .line .active with
      link.engine := .jam (some .urgent) 8, link.urgent := [.hold 5], link.urgentTry.collisions := 16,
      link.guard := .armed }
    (ran .jamEnd s).link.normal = [] ∧ (ran .jamEnd u).link.urgent = [] ∧
      (ran .jamEnd u).link.guard = .running 10008 := by decide +kernel

theorem witness_FrameSent :
    let s : State := { stn .line .active with
      link.engine := .send .normal 0 [false], link.normal := [.seatGive 1 7 none 4], seat.escrow := [esc false] }
    s.link.engine = .send .normal 0 [false] ∧ queueOf .normal s.link = [.seatGive 1 7 none 4] ∧ sending s = true ∧
      escrowOf s 1 = some (esc false) ∧ (esc false).stranded = false := by decide +kernel

/-- The frame sent leaves its queue, urgent and normal; a HOLD's guard is given 5 ms; a DEPARTED station's DEPART leaves
both queues empty. -/
theorem witness_FrameSent_gone :
    let s : State := { stn .line .active with
      link.engine := .send .normal 0 [false], link.normal := [.seatAsk 0 1, .seatAsk 1 1] }
    let u : State := { stn .line .active with
      link.engine := .send .urgent 0 [false], link.urgent := [.hold 5], link.guard := .armed }
    let v : State := { stn .line .departed with
      link.engine := .send .normal 0 [false], link.normal := [.depart], link.urgent := [.hold 5] }
    withoutRollcall (ran .txFrameComplete s).link.normal = [.seatAsk 1 1] ∧
      ((ran .txFrameComplete u).link.urgent = [] ∧ (ran .txFrameComplete u).link.guard = .running 10001) ∧
      (ran .txFrameComplete v).link.urgent = [] := by decide +kernel

theorem witness_LinkTimersEnd :
    let s : State := { stn .line .active with
      link.urgentTry.backoff := some 64, link.hold := some 9, link.guard := .running 9 }
    let u : State := { stn .line .active with
      link.guard := .running 9, link.rx := List.replicate 6 { src := 7, kind := .depart, payload := [] } }
    ((attemptOf .urgent s.link).backoff = some 64 ∧ s.link.hold = some 9 ∧ s.link.guard = .running 9 ∧
      s.link.rx.length < holdLevel) ∧
    (holdLevel ≤ u.link.rx.length ∧ sending u = true ∧ u.link.urgent.length < urgentCap) := by decide +kernel

/-- R38: a guard that ends with 6 frames queued calls again, with a full urgent queue waits again, and in DEPARTED is
clear. -/
theorem witness_LinkTimersEnd_guard :
    let u : State := { stn .line .active with
      link.guard := .running 9, link.rx := List.replicate 6 { src := 7, kind := .depart, payload := [] } }
    [ran .holdGuardExpire u, ran .holdGuardExpire { u with link.urgent := List.replicate 4 .supplyDrop },
      ran .holdGuardExpire { u with st.state := .departed }].map (·.link.guard) = [.armed, .running 10009, .clear] := by
  decide +kernel

theorem witness_ViewFramesTaken :
    let s := withRx 7 (.rollcall (roll .fan)) (stn .line .active)
    let u := withRx 7 .supplyDrop (withPeer 7 .lost (roll .supply) (stn .line .active))
    let v := withRx 7 .depart (withPeer 7 .lost (roll .supply) (stn .line .active))
    (s.link.rx.map fun f => (f.src, f.kind, Roll.read f.payload)) = [(7, .rollcall, some (roll .fan))] ∧
      (u.link.rx.map (·.kind)) = [.supplyDrop] ∧ (v.link.rx.map (·.kind)) = [.depart] ∧ (7 : Addr) ≠ ownAddr s ∧
      Roll.read [] = none := by decide +kernel

/-- Each check of a ROLLCALL at its bound: the value at the range's edge is read and the next is discarded. -/
theorem witness_ViewFramesTaken_checks :
    let ok (p : List Byte) (i : Nat) (b : Byte) := (Roll.read (p.set i b)).isSome
    let l := (roll .line).bytes
    let f := (roll .fan).bytes
    let s := (roll .supply).bytes
    let g := { roll .line with lock := .ready, origin := some 31, proposed := some 1 }.bytes
    (l.length = 23 ∧ g.length = 28 ∧ Roll.read l = some (roll .line) ∧ (Roll.read g).isSome = true) ∧
    [ok l 0 2, ok l 0 1, ok l 0 5, ok l 0 6, ok l 2 2, ok l 2 3, ok l 3 3, ok l 3 4, ok l 6 29, ok l 6 100, ok l 6 101]
      = [true, false, true, false, true, false, true, false, false, true, false] ∧
    ([[0, 150], [0, 151], [0xFF, 0xD8], [0xFF, 0xD7], [0x80, 0], [0x80, 1]].map fun t =>
      (Roll.read (l.take 4 ++ t ++ l.drop 6)).isSome) = [true, false, true, false, true, false] ∧
    [ok l 1 4, ok l 7 30, ok l 8 0, ok l 9 0, ok f 7 30, ok f 7 29, ok f 7 255, ok f 8 8, ok f 8 9, ok s 9 4, ok s 9 255]
      = [false, false, false, false, true, false, false, true, false, true, false] ∧
    ([(10, 0x0A, 0x8C), (12, 0x0A, 0x8C), (14, 0x0B, 0xB8), (16, 0x10, 0x00)].map fun x =>
      (ok (l.set x.1 x.2.1) (x.1 + 1) x.2.2, ok (l.set x.1 x.2.1) (x.1 + 1) (x.2.2 + 1))) = List.replicate 4 (true, false) ∧
    [ok l 22 1, ok g 22 0, ok g 22 5, ok g 22 6, ok g 23 32, ok g 27 0] = [false, false, true, false, false, false] := by
  decide +kernel

theorem witness_SeatFramesTaken :
    let s := withRx 7 (.seatAsk 3 16) (withPeer 7 .present (roll .line) { stn .supervisor .active with seat.free := 8 })
    let u := withRx 7 (.seatGive 1 5 none 16) (stn .line .active)
    let v := withRx 7 (.seatGive 1 5 none 16) { stn .line .active with seat.free := 4081 }
    let w := withRx 7 (.seatAck 5 1 4) { stn .line .active with seat.escrow := [esc false] }
    (sending s = true ∧ s.link.rx.map (fun f => readAsk f.payload) = [some (3, 16)] ∧ 0 < giveable s ∧
      presentAs s 7 .line = true) ∧
    (u.link.rx.map (fun f => (readGive f.payload).map fun g => (g.rcpt, g.xfer, g.count)) = [some (5, 1, 16)] ∧
      u.seat.receipts[7] < 1 ∧ owned u + 16 ≤ 4096 ∧ 4096 < owned v + 16) ∧
    (w.link.rx.map (fun f => readAck f.payload) = [some (1, 4)] ∧ escrowOf w 1 = some (esc false)) := by decide +kernel

/-- A repeat give is acknowledged at once where the stored record carries the receipt, and waits for the write in flight
that carries it; an ask at a LINE station is answered after 100 ms and 4 ms for each address. -/
theorem witness_SeatFramesTaken_repeat :
    let r (n : Nat) : SeatRecord := { SeatRecord.blank with receipts := SeatRecord.blank.receipts.set 7 n }
    let s := withRx 7 (.seatGive 3 5 none 16) { stn .line .active with
      seat.receipts := (r 3).receipts, store.seat.a := some { writes := 1, contents := r 3 } }
    let u : State := { s with store.seat.writing := some (r 3) }
    let v := withRx 7 (.seatAsk 3 16) (withPeer 7 .present (roll .line) { stn .line .active with seat.free := 1 })
    (s.seat.receipts[7] = 3 ∧ Msg.seatAck 7 3 16 ∈ (ran .seatGiveTaken s).link.normal) ∧
    ((ran .seatGiveTaken u).link.normal.contains (.seatAck 7 3 16) = false ∧
      (ran .seatGiveTaken u).store.seat.waiting = [.ack 7 3 16 false]) ∧
    (ran .seatAskTaken v).seat.answers.map (·.ends) = [240000] := by decide +kernel

theorem witness_ZoneFramesTaken :
    let s := withRx 7 (.zoneOpen 1 205 99) (stn .line .active)
    let u := withRx 7 (.zoneSeg 1 1 fiveMembers) receivingSet
    let v := withRx 7 (.zoneVote 5 1 .refuse .check none) collectingSet
    let w := withRx 7 (.zoneVote 5 1 .ready .none none) collectingSet
    let x := withRx 7 (.zoneCommit 1) readySet
    let y := withRx 7 (.zoneAbandon 1 .check) readySet
    (takesZoning s = true ∧ s.zone.commitPending = false ∧ s.zone.lock = .free ∧
      s.link.rx.map (fun f => (f.kind, fieldAt f.payload 0 4, fieldAt f.payload 4 1)) = [(.zoneOpen, 1, 205)]) ∧
    (takesZoning u = true ∧ u.zone.origin = some 7 ∧
      u.link.rx.map (fun f => (f.kind, fieldAt f.payload 0 4, fieldAt f.payload 4 1)) = [(.zoneSeg, 1, 1)]) ∧
    (v.link.rx.map (fun f => (Verdict.ofCode (fieldAt f.payload 4 1), Reason.ofCode (fieldAt f.payload 5 1)))
        = [(some .refuse, some .check)] ∧ v.zone.results.map (·.voter) = [7] ∧
      w.link.rx.map (fun f => (Verdict.ofCode (fieldAt f.payload 4 1), Reason.ofCode (fieldAt f.payload 5 1)))
        = [(some .ready, some .none)]) ∧
    (x.link.rx.map (fun f => (f.kind, fieldAt f.payload 0 4)) = [(.zoneCommit, 1)] ∧
      y.link.rx.map (fun f => (f.kind, fieldAt f.payload 0 4)) = [(.zoneAbandon, 1)] ∧ x.zone.origin = some 7) := by
  decide +kernel

/-- The last segment's checks in R150's order, by the vote that each brings: CHECK, MALFORMED, STALE, CAPACITY, READY. -/
theorem witness_ZoneFramesTaken_last :
    let seg (z : ZoneSet) := withRx 7 (.zoneSeg 1 1 z) { receivingSet with zone.segCount := 1, zone.check := setCheck z }
    let big : Port := { portOf .lit with node := some 1 }
    let f (t : State) := ((withoutRollcall t.link.normal), t.zone.lock)
    f (ran .zoneSegTaken { seg fiveMembers with zone.check := 99 })
        = ([.zoneVote 7 1 .refuse .check none], .free) ∧
      f (ran .zoneSegTaken (seg [⟨1, 2⟩, ⟨1, 1⟩])) = ([.zoneVote 7 1 .refuse .malformed none], .free) ∧
      f (ran .zoneSegTaken { seg fiveMembers with zone.gen := 1 }) = ([.zoneVote 7 1 .refuse .stale none], .free) ∧
      f (ran .zoneSegTaken (seg fiveMembers)) = ([.zoneVote 7 1 .ready .none none], .ready) ∧
      f (ran .zoneSegTaken { seg fiveMembers with zone.segCount := 0 })
        = ([.zoneVote 7 1 .refuse .incomplete none], .free) ∧
      overCapacity fiveMembers (withPort big (stn .line .active)) = none := by decide +kernel

/-- A refusal in PUBLISHING ends the set; a READY is recorded. -/
theorem witness_ZoneFramesTaken_publishing :
    let s : State := { collectingSet with zone.lock := .publishing, zone.voteTimer := none }
    let u := ran .zoneVoteTaken (withRx 7 (.zoneVote 5 1 .refuse .check none) s)
    let v := ran .zoneVoteTaken (withRx 7 (.zoneVote 5 1 .ready .none none) s)
    (u.zone.lock = .free ∧ withoutRollcall u.link.normal = [.zoneAbandon 1 .check]) ∧
      (v.zone.lock = .publishing ∧ v.zone.results.map (·.verdict) = [some (.ready, .none, none)]) := by decide +kernel

theorem witness_ViewTimersEnd :
    let s := withPeer 7 .present (roll .fan) { stn .line .active with view.period := some 500000 }
    s.view.period = some 500000 ∧ sending s = true ∧ s.link.normal.length < normalCap ∧
      entryAt s 7 = .known .present 0 (roll .fan) ∧ (7 : Addr) ≠ ownAddr s ∧ s.host.notices.length < noticeCap := by
  decide +kernel

theorem witness_LifeTimersEnd :
    let s : State := { stn .line .joining with
      st.silence := some 9, st.silenceArmed := true, st.joinTimer := some 9, st.pend := .command }
    let u : State := { stn .line .joining with st.silence := some 9, st.joinTimer := some 9 }
    (s.st.silence = some 9 ∧ s.st.silenceArmed = true ∧ s.st.state = .joining ∧ s.st.joinTimer = some 9 ∧
      s.st.pend ≠ .none) ∧ (u.st.silenceArmed = false ∧ u.st.pend = .none) := by decide +kernel

theorem witness_AskTimersEnd :
    let s : State := { queuedStation with seat.free := 0, seat.phase := .outstanding 9 }
    let u : State := { queuedStation with seat.free := 0, seat.phase := .spacing 9 }
    let v : State := { queuedStation with
      seat.free := 0, seat.phase := .spacing 9,
      port.queue := [{ port := 4, fresh := false }, { port := 3, fresh := true }] }
    let w : State := { stn .line .active with seat.phase := .spacing 9 }
    (s.seat.phase = .outstanding 9 ∧ isShort s = true) ∧ (isShort u = true ∧ headFresh u = true) ∧
      (isShort v = true ∧ headFresh v = false) ∧ isShort w = false := by decide +kernel

theorem witness_SeatTimersEnd :
    let s := withPeer 7 .present (roll .line) { stn .supervisor .active with seat.free := 100, seat.answers := [answer7] }
    let u := withPeer 7 .present (roll .line) { stn .line .active with seat.escrow := [esc false] }
    let v := withPeer 7 .lost (roll .line) { stn .line .active with seat.escrow := [esc false] }
    (answerFor 7 s = some answer7 ∧ answer7.seen < answer7.count ∧ 0 < giveable s ∧ (entryAt s 7).isPresent = true ∧
      canGive s 7 = true) ∧
    (escrowOf u 1 = some (esc false) ∧ (esc false).timer = some 9 ∧ (entryAt u 7).isPresent = true ∧ sending u = true) ∧
    ((entryAt v 7).isPresent = false ∧ v.st.state = .active) := by decide +kernel

/-- After the eighth send ESCROW-UNANSWERED is raised though the entry is stranded in the same step. -/
theorem witness_SeatTimersEnd_unanswered :
    let v := withPeer 7 .lost (roll .line) { stn .line .active with seat.escrow := [{ esc false with tries := 8 }] }
    ((ran (.escrowTimerExpire 1) v).seat.escrow.map fun e => (e.stranded, e.unanswered)) = [(true, true)] ∧
      (ran (.escrowTimerExpire 1) v).host.notices.any (·.kind = .escrowUnanswered) = true := by decide +kernel

theorem witness_PortTimersEnd :
    let s := withPort (portOf .lighting) (stn .line .active)
    let u := withPort (portOf .dimming) { stn .line .active with seat.bound := 1 }
    (portAt s 3 = some (portOf .lighting) ∧ (portOf .lighting).timer = some 100) ∧
    (portAt u 3 = some (portOf .dimming) ∧ (portOf .dimming).seat = true ∧ 0 < u.seat.bound) := by decide +kernel

theorem witness_ZoneTimersEnd :
    let s : State := { stn .line .active with zone.resend := some 9, zone.outbox := [.zoneCommit 1] }
    let u : State := { s with link.normal := List.replicate 16 .depart }
    (receivingSet.zone.lock = .receiving ∧ receivingSet.zone.segTimer = some 1000000) ∧
    (collectingSet.zone.lock = .collecting ∧ collectingSet.zone.voteTimer = some 4000000 ∧
      collectingSet.zone.commitPending = false) ∧
    (readySet.zone.lock = .ready ∧ readySet.zone.orphanTimer = some 10000000) ∧
    (s.zone.resend = some 9 ∧ sending s = true ∧ s.link.normal.length + s.zone.outbox.length ≤ normalCap ∧
      u.zone.outbox ≠ [] ∧ normalCap ≤ u.link.normal.length) := by decide +kernel

/-- One place in the transmit queue and two frames that wait: one is taken, one waits another 10 ms (R146). -/
theorem witness_ZoneTimersEnd_partial :
    let s : State := { stn .line .active with
      zone.resend := some 9, zone.outbox := [.zoneCommit 1, .zoneCommit 2], link.normal := List.replicate 15 .depart }
    let t := ran .zoneResendTimerExpire s
    (s.zone.resend = some 9 ∧ sending s = true ∧ s.link.normal.length + 1 = normalCap ∧ 1 < s.zone.outbox.length) ∧
      t.zone.outbox = [.zoneCommit 2] ∧ t.zone.resend = some (t.now + ms 10) := by decide +kernel

/-- `setupStation` with a load in flight, at rest otherwise. -/
def quietLoading : State :=
  { setupStation with filt.flight := some (flight3 false) }

theorem quiet_loading : Quiet quietLoading :=
  ⟨⟨by decide +kernel, by decide +kernel, by decide +kernel, fun f h => (by
      have h0 : ownRecorded quietLoading = none := by decide +kernel
      rw [h0] at h; cases h), by decide +kernel, by decide +kernel⟩,
    by decide +kernel, by decide +kernel, by decide +kernel⟩

theorem witness_FilterLoadEnds :
    ((loadingStation false).filt.flight = some (flight3 false) ∧ (flight3 false).ignored = false ∧
      (flight3 false).second = false ∧ (flight3 true).second = true ∧ (loadingStation false).filt.queue = [] ∧
      ((portAt (loadingStation false) 3).map (·.filter.dirty)) = some false) ∧
    (quietLoading.filt.flight = some (flight3 false) ∧ portAt quietLoading 3 = some Port.clear) ∧ Quiet quietLoading :=
  ⟨by decide +kernel, by decide +kernel, quiet_loading⟩

theorem witness_DepartureTimersEnd :
    let s : State := { stn .line .departing with
      dep.kind := .orderly, dep.step := some .departWait, dep.timer := some 9, dep.retry := some 8 }
    let u : State := { s with link.normal := List.replicate 16 .depart }
    s.st.state = .departing ∧ s.dep.timer = some 9 ∧ s.dep.retry = some 8 ∧ s.dep.step = some .departWait ∧
      s.dep.ahead = 0 ∧ s.budget.claim = steadyClaim s ∧ s.budget.tent = tentative s ∧ s.view.pull = pulls s ∧
      ownRecorded s = none ∧ s.link.normal.length < normalCap ∧ normalCap ≤ u.link.normal.length := by decide +kernel

/-- R172: forced while the 10 ms wait runs, DEPART goes at once. -/
theorem witness_DepartureTimersEnd_forced :
    let s : State := { stn .line .departing with
      dep.kind := .orderly, dep.step := some .departWait, dep.timer := some 9, dep.retry := some 8,
      dep.zoningAsked := true }
    ((ran .departureTimerExpire s).st.state, (ran .departureTimerExpire s).dep.kind) = (.departed, .forced) := by
  decide +kernel

theorem setup_quiet : Quiet setupStation := ⟨setup_own, by decide +kernel, by decide +kernel, by decide +kernel⟩

theorem setup_judges : Judges setupStation := ⟨by decide +kernel, fun g h => by cases h⟩

theorem witness_ModulePortSlot :
    Judges setupStation ∧ hostRest (.join [9, 1]) = some (9 :: 1 :: []) ∧ hostLength (.join [9, 1]) = some 0 ∧
      ((1 : Byte).toNat ≠ ([] : List Byte).length) ∧ hostRest (.readTable [9, 1, 7]) = some (9 :: 1 :: [7]) ∧
      hostLength (.readTable [9, 1, 7]) = some 3 ∧ (1 : Byte).toNat ≠ 3 ∧ hostRest (.join [9]) = some [9] ∧
      (Instr.fetch 0).hostCode = some 0x00#8 ∧ State.reset.st.state = .reset ∧
      ({ setupStation with host.slot := .busy 9 } : State).host.slot = .busy 9 :=
  ⟨setup_judges, rfl, rfl, by decide, rfl, rfl, by decide, rfl, rfl, rfl, rfl⟩

/-- An L that fits the bytes but not the command is RANGE and clears READ-TABLE's cursor; a transaction of two bytes
leaves it. -/
theorem witness_ModulePortSlot_envelope :
    let s : State := { setupStation with host.cursor := some { table := .view, next := 4, ended := false } }
    (ran (.readTable [9, 1, 7]) s).host.cursor = none ∧ (ran (.readTable [9]) s).host.cursor ≠ none ∧
      (ran (.readTable [9, 1, 7]) s).host.slot = .reply { status := .range, tag := 9, data := [] } ∧
      (ran (.readTable [9]) s).host.slot = .idle := by decide +kernel

theorem witness_ModulePortSlot_int :
    ({ setupStation with host.intOff := some 9 } : State).host.intOff = some 9 ∧ Quiet setupStation :=
  ⟨rfl, setup_quiet⟩

theorem witness_SettingWritten :
    Judges setupStation ∧ Judges (stn .line .active) ∧ setupStation.st.state = .setup ∧
      settingApplies (1#8).toNat (role setupStation) = true ∧ settingApplies 7 .supervisor = false ∧
      settingApplies 5 .supervisor = true ∧ settingApplies 5 .fan = false :=
  ⟨setup_judges, ⟨by decide, fun g h => by cases h⟩, by decide +kernel⟩

/-- Each range of R7 at its ends and one past them, from the defaults 35, 65, 85 and 95. -/
theorem witness_SettingWritten_ranges :
    let ok (n : Nat) (v : Int) : Bool := ((Settings.default .line).write n v).isSome
    [ok 1 (-10), ok 1 60, ok 2 40, ok 2 100, ok 3 40, ok 3 90, ok 4 90, ok 4 125, ok 5 0, ok 5 500, ok 6 4096, ok 7 0,
      ok 7 1, ok 8 10].all id = true ∧
    [ok 1 (-11), ok 1 61, ok 2 39, ok 2 101, ok 3 39, ok 3 91, ok 4 89, ok 4 126, ok 5 (-1), ok 5 501, ok 6 4097, ok 7 2,
      ok 8 11, ok 0 1, ok 9 1].any id = false ∧ signed16 [0xFF, 0xF6] = -10 := by decide +kernel

theorem judges_stn (r : Role) (x : StationState) (h : x ≠ .reset) : Judges (stn r x) := ⟨h, fun g h => by cases h⟩

theorem witness_JoinAndDepart :
    Judges setupStation ∧ Judges (stn .line .departed) ∧ Judges (stn .line .active) ∧ Judges (stn .line .joining) ∧
      setupStation.st.ejectOpen = false ∧ (stn .line .departed).cool.thermal ≠ .shutdown :=
  ⟨setup_judges, judges_stn _ _ (by decide), judges_stn _ _ (by decide), judges_stn _ _ (by decide), rfl,
    by decide +kernel⟩

theorem witness_LinkRestarts : Judges (stn .line .isolated) ∧ (stn .line .isolated).st.clash = false :=
  ⟨judges_stn _ _ (by decide), rfl⟩

/-- The rows of R158, by the lock: an originator, a receiver, a commit pending. -/
theorem witness_LinkRestarts_zoning :
    let f (t : State) := (t.zone.lock, t.host.notices.any (·.kind = .zoneResult))
    [f (ran (.linkRestart [9, 0]) collectingSet), f (ran (.linkRestart [9, 0]) readySet),
      f (ran (.linkRestart [9, 0]) { readySet with zone.commitPending := true })]
      = [(.free, true), (.free, false), (.ready, false)] ∧
    (ran (.linkRestart [9, 0]) { stn .fan .active with cool.forcing := false, cool.duty := 30 }).cool.duty = 100 := by
  decide +kernel

theorem witness_ForgetPeer :
    let s := withPeer 7 .gone (roll .fan) (stn .line .active)
    let u := withRx 8 (.rollcall (roll .fan)) s
    Judges s ∧ 32 ≤ (32#8).toNat ∧ (5#8).toNat = (ownAddr s).val ∧ (7#8).toNat = (7 : Addr).val ∧
      entryAt s 7 = .known .gone 0 (roll .fan) ∧ entryAt s 8 = .empty ∧
      u.link.rx.map (fun f => (f.kind, Roll.read f.payload)) = [(.rollcall, some (roll .fan))] ∧
      u.host.notices.length < noticeCap :=
  ⟨⟨by decide +kernel, fun g h => by cases h⟩, by decide +kernel⟩

theorem witness_ForceFans :
    Judges setupStation ∧ Quiet setupStation ∧ setupStation.cool.forced = false ∧
      DemandIs setupStation.st.settings false setupStation.cool.hottest setupStation.cool.demand ∧
      2 ≤ (2#8).toNat ∧ (1#8).toNat = 1 :=
  ⟨setup_judges, setup_quiet, by decide +kernel,
    ⟨fun h => (by cases h), fun _ _ => rfl, fun _ _ h => (by cases h), fun _ _ h => (by cases h), fun _ _ h => (by cases h)⟩,
    by decide +kernel⟩

/-- The sending clause of ForceFans: an ISOLATED station whose own entry stands. -/
def isolatedOwn : State :=
  setEntry 5 (.known .present 0 (ownRoll (refresh (stn .line .isolated)))) (refresh (stn .line .isolated))

theorem witness_ForceFans_rollcall :
    isolatedOwn.budget.claim = steadyClaim isolatedOwn ∧ isolatedOwn.budget.tent = tentative isolatedOwn ∧
      isolatedOwn.view.pull = pulls isolatedOwn ∧ isolatedOwn.announce = false ∧ role isolatedOwn ≠ .fan ∧ ownRecorded isolatedOwn = some (ownRoll isolatedOwn) ∧
      sending isolatedOwn = true ∧ isolatedOwn.cool.forced ≠ true ∧ isolatedOwn.link.normal.length < normalCap := by
  decide +kernel

theorem witness_PortCommands :
    (Judges (stn .line .active) ∧ portAt (stn .line .active) (3#8).toNat = some Port.clear ∧ (3#8).toNat ≤ 3) ∧
    (portAt queuedStation 3 = some (portOf .queued) ∧ portStates queuedStation = true ∧ (portOf .queued).seat = false) ∧
    (portOf .lit).state = .lit ∧ (portOf .shed).seat = true :=
  ⟨⟨judges_stn _ _ (by decide), by decide +kernel, by decide⟩, by decide +kernel, rfl, rfl⟩

theorem witness_NodeCommands :
    let s := withPort (portOf .lit) (stn .line .joining)
    Judges s ∧ role s = .line ∧ portStates s = true ∧ portAt s (3#8).toNat = some (portOf .lit) ∧
      (portOf .lit).inService = true ∧ beNat [0, 0, 0, 0, 0, 0, 0, 7] = 7 ∧ s.filt.flight = none ∧
      (portOf .lit).filter.state = .current :=
  ⟨⟨by decide +kernel, fun g h => by cases h⟩, by decide +kernel⟩

/-- Five zones of 64 members, node 1 in each: 315 identities for node 1. The others descend, which keeps the evaluation
short. -/
def wideSet : ZoneSet :=
  (List.range 5).flatMap fun z => { zone := z + 1, node := 1 } ::
    (List.range 63).map fun k => { zone := z + 1, node := 1000 - (63 * z + k) }

/-- The replies by the filter record and the channel: a load in flight for another port, one for the port, the channel
free, and a list too long. -/
theorem witness_NodeCommands_reply :
    let s := withPort (portOf .lit) (stn .line .joining)
    let attach (u : State) := (ran (.portAttach [9, 9, 3, 0, 0, 0, 0, 0, 0, 0, 1]) u)
    let f (u : State) := (match (attach u).host.slot with | .reply r => r.data | _ => [])
    f { s with filt.flight := some { flight3 false with port := 4 } } = [1] ∧ f (loadingStation false) = [2] ∧ f s = [2] ∧
      f { s with zone.gen := 1, zone.active := wideSet } = [3] ∧
      ((attach { s with zone.gen := 1, zone.active := wideSet }).port.recs[3]?.map (·.state)) = some .dimming ∧
      filterOf { s with zone.gen := 1, zone.active := fiveMembers } (some 3) = (.list, [1, 2, 4, 5]) := by decide +kernel

theorem witness_SeatCommands :
    (Judges (stn .supervisor .active) ∧ beNat [16#8, 0#8] ≤ 4096 ∧ (stn .supervisor .active).seat.serial < beNat [0#8, 0#8, 0#8, 1#8]
      ∧ owned (stn .supervisor .active) + beNat [16#8, 0#8] ≤ 4096) ∧
    beNat [0#8, 4#8] ≤ ({ stn .fan .setup with seat.free := 4 } : State).seat.free ∧
    escrowOf { stn .line .active with seat.escrow := [esc true] } (beNat [0#8, 0#8, 0#8, 1#8]) = some (esc true) :=
  ⟨⟨judges_stn _ _ (by decide), by decide +kernel, by decide +kernel, by decide +kernel⟩, by decide +kernel, by decide +kernel⟩

theorem witness_DraftCommands :
    Judges (stn .line .active) ∧ zoning (stn .line .active) = true ∧
      readEntry [0, 1, 0, 0, 0, 0, 0, 0, 0, 6] = { zone := 1, node := 6 } ∧
      draftFull { zone := 1, node := 6 } (stn .line .active).zone.draft = false :=
  ⟨judges_stn _ _ (by decide), by decide +kernel⟩

theorem witness_PublishStarts :
    let s : State := { stn .line .active with zone.draft := fiveMembers }
    Judges s ∧ zoning s = true ∧ s.st.state = .active ∧ s.zone.lock = .free ∧ s.zone.commitPending = false ∧
      s.zone.draft ≠ [] ∧ max s.zone.gen s.zone.lastProposed < max32 ∧ overCapacity s.zone.draft s = none :=
  ⟨⟨by decide +kernel, fun g h => by cases h⟩, by decide +kernel⟩

/-- 256 identities fit and 257 do not; the voters are the PRESENT LINE and SUPERVISOR peers. -/
theorem witness_PublishStarts_capacity :
    let s := withPort { portOf .lit with node := some 1 } (withPeer 7 .present (roll .line) (withPeer 8 .lost (roll .line)
      (withPeer 9 .present (roll .fan) (stn .line .active))))
    overCapacity (wideSet.take 262) s = some 3 ∧ overCapacity (wideSet.take 261) s = none ∧
      voters s = [7] := by decide +kernel

theorem witness_ReadsAnswer :
    Judges setupStation ∧ Quiet setupStation ∧ Judges (stn .line .departing) ∧ Table.ofCode (1#8).toNat = some .view ∧
      Table.usedOn .view (role setupStation) = true ∧ beNat [0#8, 31#8] < (tableRecords .view setupStation).length ∧
      setupStation.host.cursor = none ∧ tableRecords .queue setupStation = [] ∧ Table.ofCode (13#8).toNat = none ∧
      Table.ofCode (8#8).toNat = some .rotors ∧ Table.usedOn .rotors (role setupStation) = false ∧ 2 ≤ (2#8).toNat :=
  ⟨setup_judges, setup_quiet, ⟨by decide, fun g h => by cases h⟩, by decide +kernel⟩

/-- Index 31 of the 32 entries of the view, 32, an empty table at 0 and at 1; the end flag and a read past it. -/
theorem witness_ReadsAnswer_bounds :
    let f (t : State) := (match t.host.slot with | .reply r => (r.status, r.data.take 4) | _ => (.busy, []))
    let read (l : List Byte) := ran (.readTable (9 :: 3 :: l)) setupStation
    [f (read [1, 0, 31]), f (read [1, 0, 32]), f (read [3, 0, 0]), f (read [3, 0, 1])]
      = [(.ok, [0, 31, 1, 1]), (.range, []), (.ok, [0, 0, 0, 1]), (.range, [])] ∧
    [f (ran (.readNext [9, 0]) (read [1, 0, 26])), f (ran (.readNext [9, 0]) (read [1, 0, 28])),
      f (ran (.readNext [9, 0]) (read [1, 0, 32]))] = [(.ok, [0, 30, 2, 1]), (.ok, [0, 32, 0, 1]), (.wrongState, [])] ∧
    f (ran (.readStatus [9, 0]) (stn .fan .departing)) = (.ok, [5, 2, 0, 0]) := by decide +kernel

end Sys2Proof.Tests
end

section
/-! PROOF. O8: the commit discipline is not kept from every state that has it. -/

namespace Sys2Proof.Machine

/-- A READY station whose commit waits for its zoning write, while the seat record's write in flight carries a
commit too. No run reaches it, but `ZoneHold` speaks of the zoning record's waits alone. -/
def misfiledCommit : State :=
  { State.reset with
    st.state := .active
    zone.lock := .ready
    zone.proposed := some 1
    zone.commitPending := true
    store.zoning.waitingNext := [.commit]
    store.seat.writing := some SeatRecord.blank
    store.seat.waiting := [.commit]
    pending := [.storeWriteComplete .seat] }

theorem misfiledCommit_zoneHold : ZoneHold misfiledCommit where
  stored _ := by decide
  reset h := absurd h (by decide)
  resetStore h := absurd h (by decide)
  proposed _ := ⟨1, by decide⟩
  pending _ := by decide
  waits := by decide
  once h := absurd h (by decide)
  idle _ := rfl
  writing r h := nomatch h
  staged h := absurd rfl h

/-- The seat record's completion runs the commit: generation 1 is active and the store holds none. -/
theorem misfiledCommit_commits :
    ∃ t, step misfiledCommit = .next t ∧ t.st.state = .active ∧ t.zone.gen = 1 ∧ heldGen t = 0 := by
  refine ⟨_, rfl, ?_⟩
  decide +kernel

/-- Refutes O8: a commit that waits for the seat record's write takes effect at that write's completion, before the
zoning record holds the generation it makes active. -/
theorem not_zoneHoldKept : ¬ Obligations.ZoneHoldKept := by
  unfold Obligations.ZoneHoldKept
  intro h
  obtain ⟨t, ht, hactive, hgen, hheld⟩ := misfiledCommit_commits
  have hstored := (h _ t misfiledCommit_zoneHold ht).stored (by simp [hactive])
  omega

end Sys2Proof.Machine
end

section
/-! PROOF. The reset values, reset release, and the module lines by role (O2, O14, O15, O16). -/

namespace Sys2Proof.Machine

open Sys2Proof.Config

/-- Every port record is as after reset (R141). -/
theorem portAt_underReset {p : Straps} {m : Store} {k : ResetKind} {n : Nat} {q : Port}
    (h : portAt (State.underReset p m k) n = some q) : q = Port.clear :=
  List.eq_of_mem_replicate (List.mem_of_getElem? h)

@[simp] theorem entryAt_underReset (p : Straps) (m : Store) (k : ResetKind) (a : Addr) :
    entryAt (State.underReset p m k) a = .empty := by
  simp [entryAt, State.underReset]

/-- The safe value of a line by its function is that of its role (R3, R5). -/
theorem lineUse_safe (p : Straps) (n : Fin 48) : (lineUse p n).safe = safeLine p.role n := by
  unfold lineUse safeLine
  cases p.role
  case line => dsimp only; split <;> rfl
  case supervisor => rfl
  case fan => 
    dsimp only [rotorLine]
    (repeat' split) <;> first | rfl | (exfalso; omega)
  case supply =>
    dsimp only
    (repeat' split) <;> first | rfl | (exfalso; omega)

/-- While reset is asserted every module line is at the safe value of the role held (R3, R5). -/
theorem lineDrive_of_reset (s : State) (h : s.st.state = .reset) (n : Fin 48) :
    lineDrive s n = safeLine s.st.straps.role n := by
  simp [lineDrive, h, lineUse_safe]

theorem capacity_reset : Capacity State.reset where
  urgent := by decide
  normal := by decide
  oneRollcall := by decide
  heldOnLine h := absurd rfl h
  outbox := by decide
  portQueue := by decide
  loadQueue := by decide
  queued n := by
    constructor
    · exact fun h => nomatch h
    · rintro ⟨p, hp, hq⟩
      simp [portAt_underReset hp, Port.clear, Filter.clear] at hq
  loading _ h := nomatch h
  escrow := ⟨by decide, by decide⟩
  escrowA _ h := nomatch h
  escrowB _ h := nomatch h
  escrowWriting _ h := nomatch h
  receive := by decide
  notices := by decide
  overflow := by decide
  sent := by decide
  received := by decide
  collisions := by decide
  drops := by decide
  badCheck := by decide
  runt := by decide
  giant := by decide
  overrun := by decide
  unknownKind := by decide
  holdsSent := by decide
  holdsReceived := by decide

theorem portsAgree_reset : PortsAgree State.reset where
  fitted := by decide
  once := by decide
  entry _ h := nomatch h
  queued n p hp h := by simp [portAt_underReset hp, Port.clear] at h
  seat n p hp := by simp [portAt_underReset hp, Port.clear, PortState.seated]
  bound := by decide

/-- Settles O2: each field holds of the reset values themselves. -/
theorem invariantsHoldAtReset : Obligations.InvariantsHoldAtReset := by
  unfold Obligations.InvariantsHoldAtReset
  refine ⟨capacity_reset, ?pins, ?own, ?seats, portsAgree_reset, ?zone, ?supply, ?settings, ?pace⟩
  case pins =>
    constructor <;> decide
  case own =>
    refine ⟨by decide, by decide, by decide, fun f h => ?_, rfl, fun h => nomatch h⟩
    simp [ownRecorded, State.reset, Entry.fields?] at h
  case seats =>
    exact ⟨by decide, fun _ h => (nomatch h), fun _ h => (nomatch h), fun _ h => (nomatch h)⟩
  case zone =>
    exact
      { stored := fun h => absurd rfl h, reset := fun _ => by decide, resetStore := fun _ => by decide,
        proposed := fun h => (nomatch h), pending := fun h => (nomatch h), waits := by decide,
        once := fun h => (nomatch h), idle := fun _ => rfl, writing := fun _ h => (nomatch h),
        staged := fun h => absurd rfl h }
  case supply =>
    constructor <;> exact fun h => nomatch h
  case settings =>
    constructor <;> decide
  case pace =>
    exact ⟨by decide, by decide, by decide, fun h => nomatch h⟩

/-- Settles O14: but for the view, the port table and the module lines, each value is that of `State.underReset`. -/
theorem resetAssertClears : Obligations.ResetAssertClears := by
  unfold Obligations.ResetAssertClears
  intro k s
  have hentry (a : Addr) : entryAt (assertReset k s) a = .empty :=
    entryAt_underReset s.st.straps { seat := s.store.seat.abandon, zoning := s.store.zoning.abandon } k a
  have hports : ∀ p ∈ (assertReset k s).port.recs, p = Port.clear := fun p hp => List.eq_of_mem_replicate hp
  have hlines := lineDrive_of_reset (assertReset k s) rfl
  refine ⟨assertReset k s, rfl, ?_⟩
  and_intros <;> first | exact hentry | exact hports | exact hlines | rfl

/-- Out of RESET a line is driven by its function (R3). -/
theorem lineDrive_of_running {s : State} (h : s.st.state ≠ .reset) (n : Fin 48) :
    lineDrive s n = (lineUse s.st.straps n).drive s := by
  simp [lineDrive, h]

/-- A port-enable line is high exactly on a fitted port in service (R3, R128). -/
theorem portEnable_iff (s : State) (n : Nat) :
    portEnable s n = true ↔ ∃ p, portAt s n = some p ∧ (p.state = .lighting ∨ p.state = .lit) := by
  unfold portEnable
  split
  · simp [*]
  · simp [*, Port.inService]

theorem level_high_iff (b : Bool) : LineDrive.level b = .high ↔ b = true := by cases b <;> decide

theorem level_high_or_low (b : Bool) : LineDrive.level b = .high ∨ LineDrive.level b = .low := by cases b <;> decide

/-- A rotor's line has its function on the four rotors, or eight, that the strap gives (R3). -/
theorem rotorLine_fan {p : Straps} (h : p.role = .fan) {i : Nat} (hi : i ≤ 7) (u : Nat → LineUse) :
    rotorLine p i u = if i ≤ 3 ∨ p.eightRotors then u i else .unused := by
  unfold rotorLine
  refine if_congr ?_ rfl rfl
  cases he : p.eightRotors <;> simp [fittedRotors, h, he] <;> omega

/-- No function that a rotor's line can have drives it. -/
theorem rotorLine_drive (p : Straps) (i : Nat) (s : State) :
    (rotorLine p i .tach).drive s = .input ∧ (rotorLine p i .rotorPresent).drive s = .input := by
  unfold rotorLine
  constructor <;> split <;> rfl

/-- Settles O16: the two edges are `exec` unfolded, and the lines follow the role's column of R3's table. -/
theorem pinEdgesRestartMeasures : Obligations.PinEdgesRestartMeasures := by
  unfold Obligations.PinEdgesRestartMeasures
  intro b s hs
  refine ⟨fun h => ?eject, fun h => ?fault, fun hr hp n => ?line, fun hr n => ?fan, fun hr n => ?supply,
    fun hr n => ?supervisor⟩
  case eject => simp [exec, execEjectPinChange, hs, h]
  case fault => simp [exec, execFaultLineChange, hs, h]
  case line =>
    have hrole : s.st.straps.role = .line := hr
    have hfit : fittedPorts s.st.straps = 24 + 8 * s.st.straps.cls.val := by simp [fittedPorts, hrole]
    rw [lineDrive_of_running hs]
    by_cases hn : n.val < 24 + 8 * s.st.straps.cls.val
    · have huse : lineUse s.st.straps n = .portEnable n.val := by simp [lineUse, hrole, hfit, hn]
      rw [huse]
      exact ⟨level_high_or_low _, (level_high_iff _).trans (portEnable_iff s n), fun _ => rfl,
        fun h => absurd hn (by omega)⟩
    · have huse : lineUse s.st.straps n = .heldLow := by simp [lineUse, hrole, hfit, hn]
      have hnone : portAt s n.val = none := by
        simp only [portAt, List.getElem?_eq_none_iff, hp.fitted, hfit]
        omega
      simp [huse, LineUse.drive, hnone, hn]
  case fan =>
    have hrole : s.st.straps.role = .fan := hr
    rw [lineDrive_of_running hs]
    simp only [lineUse, hrole]
    refine ⟨fun h => ?_, fun h => ?_, fun h => ?_, fun h => ?_, fun h => ?_⟩
    · simp [show ¬ n.val < 8 by omega, show n.val < 12 by omega, LineUse.drive]
    · rw [if_pos (by omega), rotorLine_fan hrole h]
    · rw [if_neg (by omega), if_neg (by omega), if_pos (by omega), rotorLine_fan hrole (by omega)]
      exact if_congr (or_congr_left (by omega)) rfl rfl
    · rw [if_neg (by omega), if_neg (by omega), if_neg (by omega)]
    · (repeat' split) <;> first | exact (rotorLine_drive _ _ s).1 | exact (rotorLine_drive _ _ s).2 | rfl | omega
  case supply =>
    have hrole : s.st.straps.role = .supply := hr
    rw [lineDrive_of_running hs]
    simp only [lineUse, hrole]
    refine ⟨fun h => ?_, fun h => ?_, fun h => ?_, fun h => ?_, fun h => ?_, fun h => ?_, fun h => ?_⟩
    iterate 3 simp [h]
    · simp [h, LineUse.drive, LineDrive.level]
    · simp [show n.val ≠ 0 by omega, show n.val ≠ 1 by omega, show n.val ≠ 2 by omega, show n.val ≠ 3 by omega,
        show n.val < 12 by omega]
    · simp [show n.val ≠ 0 by omega, show n.val ≠ 1 by omega, show n.val ≠ 2 by omega, show n.val ≠ 3 by omega,
        show ¬ n.val < 12 by omega]
    · (repeat' split) <;> rfl
  case supervisor =>
    rw [lineDrive_of_running hs]
    simp [lineUse, show s.st.straps.role = .supervisor from hr, LineUse.drive]

/-! ## Reset release (O15) -/

/-- The state at release before its notices: the straps and lines sampled, SETUP entered (R1, R6, R55, R80, R95,
R108). -/
def sampledRelease (p : ReleasePins) (s : State) : State :=
  startSupply p (startMeasures p
    { State.underReset p.straps s.store s.st.resetCause with
      draws := s.draws, pending := s.pending, st.state := .setup })

/-- RESET_RELEASE: the levels sampled, RESET-CAUSE, the store, then the target and the claim (R6). -/
theorem releaseReset_eq (p : ReleasePins) (s : State) :
    releaseReset p s = refresh (retarget (loadStore
      (raiseOwn .resetCause (b1 (ResetKind.code s.st.resetCause)) (sampledRelease p s)))) := rfl

/-- While forcing is on, a new target is recorded only (R91). -/
theorem retarget_of_forcing {s : State} (h : s.cool.forcing = true) :
    (retarget s).cool.duty = s.cool.duty ∧ (retarget s).cool.lastDuty = s.cool.lastDuty ∧
      (retarget s).cool.forcing = true := by
  unfold retarget
  split <;> simp [h]

/-- A notice raised with room in the queue joins its tail, and INT is asserted where no interval is under way (R179,
R180). -/
theorem raise_of_room {k : NoticeKind} {n : Nat} {d : List Byte} {s : State} (h : s.host.notices.length < noticeCap) :
    (raise k n d s).host = { s.host with
      notices := s.host.notices ++ [{ kind := k, subject := n, time := timeMs s.now, detail := d.take 24 }]
      int := s.host.int || intFree s } := by
  simp [raise, h]

@[simp] theorem loadSeats_frame (r : SeatRecord) (s : State) :
    (loadSeats r s).now = s.now ∧ (loadSeats r s).st = s.st ∧ (loadSeats r s).store = s.store ∧
    (loadSeats r s).view = s.view ∧ (loadSeats r s).budget = s.budget ∧ (loadSeats r s).cool = s.cool ∧
    (loadSeats r s).sup = s.sup ∧ (loadSeats r s).port = s.port ∧ (loadSeats r s).zone = s.zone ∧
    (loadSeats r s).host = s.host ∧ (loadSeats r s).seat.bound = s.seat.bound := by
  exact ⟨rfl, rfl, rfl, rfl, rfl, rfl, rfl, rfl, rfl, rfl, rfl⟩

@[simp] theorem loadZoning_frame (r : ZoneRecord) (s : State) :
    (loadZoning r s).now = s.now ∧ (loadZoning r s).st = s.st ∧ (loadZoning r s).store = s.store ∧
    (loadZoning r s).view = s.view ∧ (loadZoning r s).budget = s.budget ∧ (loadZoning r s).cool = s.cool ∧
    (loadZoning r s).sup = s.sup ∧ (loadZoning r s).port = s.port ∧ (loadZoning r s).seat = s.seat ∧
    (loadZoning r s).host = s.host := by
  unfold loadZoning
  split <;> simp

/-- The account and the zoning unit as R16 loads them; STORE-BLANK is all that is raised besides. -/
def storeLoaded (s : State) : State :=
  loadZoning (s.store.zoning.load ZoneRecord.blank) (loadSeats (s.store.seat.load SeatRecord.blank) s)

@[simp] theorem loadStore_frame (s : State) :
    (loadStore s).now = s.now ∧ (loadStore s).st = s.st ∧ (loadStore s).store = s.store ∧
    (loadStore s).view = s.view ∧ (loadStore s).cool = s.cool ∧ (loadStore s).sup = s.sup ∧
    (loadStore s).port = s.port ∧ (loadStore s).seat = (storeLoaded s).seat ∧
    (loadStore s).zone = (storeLoaded s).zone := by
  simp only [loadStore, storeLoaded]
  (repeat' split) <;> simp

/-- The zoning unit holds what the store gives it where the role uses it (R16, R143). -/
theorem storeLoaded_zone (s : State) :
    (storeLoaded s).zone = if zoning s then { s.zone with
        active := (s.store.zoning.load ZoneRecord.blank).active
        gen := (s.store.zoning.load ZoneRecord.blank).gen
        lastProposed := (s.store.zoning.load ZoneRecord.blank).lastProposed } else s.zone := by
  simp only [storeLoaded, loadZoning,
    show zoning (loadSeats (s.store.seat.load SeatRecord.blank) s) = zoning s from rfl]
  split <;> simp

/-- The seat account is the stored one, every escrow entry SENDING with tries and timer clear (R16, R126). -/
theorem storeLoaded_seat (s : State) :
    (storeLoaded s).seat = (loadSeats (s.store.seat.load SeatRecord.blank) s).seat := by
  simp [storeLoaded]

/-- With INT asserted already, a notice of the station's own joins the tail and changes nothing else. -/
theorem raiseOwn_host {k : NoticeKind} {d : List Byte} {s : State} (h : s.host.notices.length < noticeCap)
    (hint : s.host.int = true) :
    (raiseOwn k d s).host = { s.host with notices := s.host.notices ++
      [{ kind := k, subject := (ownAddr s).val, time := timeMs s.now, detail := d.take 24 }] } := by
  simp [raiseOwn, raise_of_room h, hint]

/-- The STORE-BLANK of one record, raised where the record is blank (R16). -/
theorem storeBlank_host {blank : Bool} {n : Nat} {s : State} (h : s.host.notices.length < noticeCap)
    (hint : s.host.int = true) :
    (if blank then raiseOwn .storeBlank (b1 n) s else s).host = { s.host with notices := s.host.notices ++
      if blank then [{ kind := .storeBlank, subject := (ownAddr s).val, time := timeMs s.now, detail := b1 n }]
      else [] } := by
  cases blank
  · simp
  · exact raiseOwn_host h hint

/-- The store loaded and the seat record judged (R16). -/
def seatJudged (s : State) : State :=
  if (storeLoaded s).store.seat.current.isNone then raiseOwn .storeBlank (b1 0) (storeLoaded s) else storeLoaded s

theorem loadStore_eq (s : State) : loadStore s =
    if (seatJudged s).store.zoning.current.isNone then raiseOwn .storeBlank (b1 1) (seatJudged s)
    else seatJudged s := rfl

@[simp] theorem storeLoaded_frame (s : State) :
    (storeLoaded s).now = s.now ∧ (storeLoaded s).st = s.st ∧ (storeLoaded s).store = s.store ∧
    (storeLoaded s).view = s.view ∧ (storeLoaded s).cool = s.cool ∧ (storeLoaded s).sup = s.sup ∧
    (storeLoaded s).port = s.port ∧ (storeLoaded s).host = s.host := by
  simp [storeLoaded]

@[simp] theorem seatJudged_frame (s : State) :
    (seatJudged s).now = s.now ∧ (seatJudged s).st = s.st ∧ (seatJudged s).store = s.store := by
  unfold seatJudged
  split <;> simp

/-- STORE-BLANK for each record without a complete copy, the seat record's first (R16). -/
theorem loadStore_host {s : State} (h : s.host.notices.length + 2 ≤ noticeCap) (hint : s.host.int = true) :
    (loadStore s).host = { s.host with notices := s.host.notices ++
      ((if s.store.seat.current.isNone then
          [{ kind := .storeBlank, subject := (ownAddr s).val, time := timeMs s.now, detail := b1 0 }] else []) ++
        (if s.store.zoning.current.isNone then
          [{ kind := .storeBlank, subject := (ownAddr s).val, time := timeMs s.now, detail := b1 1 }] else [])) } := by
  have hseat : (seatJudged s).host = { s.host with notices := s.host.notices ++
      if s.store.seat.current.isNone then
        [{ kind := .storeBlank, subject := (ownAddr s).val, time := timeMs s.now, detail := b1 0 }] else [] } := by
    rw [seatJudged, storeBlank_host (by simp only [storeLoaded_frame]; omega) (by simpa using hint)]
    simp [ownAddr]
  have hroom : (seatJudged s).host.notices.length < noticeCap := by
    rw [hseat]; simp only [List.length_append]; split <;> simp <;> omega
  rw [loadStore_eq, storeBlank_host hroom (by rw [hseat]; exact hint), hseat]
  simp only [ownAddr, seatJudged_frame, List.append_assoc]

/-- What a SUPPLY station reads at release is its monitor alone (R108). -/
@[simp] theorem startSupply_frame (p : ReleasePins) (s : State) :
    (startSupply p s).now = s.now ∧ (startSupply p s).st = s.st ∧ (startSupply p s).store = s.store ∧
    (startSupply p s).view = s.view ∧ (startSupply p s).cool = s.cool ∧ (startSupply p s).seat = s.seat ∧
    (startSupply p s).port = s.port ∧ (startSupply p s).zone = s.zone ∧ (startSupply p s).host = s.host := by
  unfold startSupply
  split <;> simp

/-- The groups after release are those sampled, with the seat account and the zoning unit as the store gives them; the
FAN target and the claim follow (R6, R16). -/
theorem releaseReset_frame (p : ReleasePins) (s : State) :
    (releaseReset p s).now = 0 ∧ (releaseReset p s).st = (sampledRelease p s).st ∧
    (releaseReset p s).store = s.store ∧ (releaseReset p s).sup = (sampledRelease p s).sup ∧
    (releaseReset p s).port = (sampledRelease p s).port ∧
    (releaseReset p s).seat = (loadSeats (s.store.seat.load SeatRecord.blank) (sampledRelease p s)).seat ∧
    (releaseReset p s).view.faultLow = p.faultLow ∧ (releaseReset p s).view.faultSet = false ∧
    (releaseReset p s).view.faultMeasure = (if p.faultLow then some (ms 500) else none) := by
  simp only [releaseReset_eq, refresh_frame, retarget_frame, loadStore_frame, raiseOwn_frame, storeLoaded_seat]
  simp [sampledRelease, startMeasures, State.underReset, loadSeats]

/-- The zoning unit after release (R16, R143). -/
theorem releaseReset_zone (p : ReleasePins) (s : State) :
    (releaseReset p s).zone = (storeLoaded (raiseOwn .resetCause (b1 (ResetKind.code s.st.resetCause))
      (sampledRelease p s))).zone := by
  simp [releaseReset_eq]

/-- The duty stands at 100 under forcing; the sample, the rotor check and the rotor table as the measures start them
(R80, R91, R95, R97). -/
theorem releaseReset_cool (p : ReleasePins) (s : State) :
    (releaseReset p s).cool.sampleAt = some (ms 250) ∧ (releaseReset p s).cool.duty = 100 ∧
    (releaseReset p s).cool.lastDuty = 0 ∧
    (releaseReset p s).cool.checkAt = (if p.straps.role = .fan then some (ms 1000) else none) ∧
    (releaseReset p s).cool.rotors = (List.range (fittedRotors p.straps)).map fun i =>
      Rotor.initial (p.rotorPresent[i]?.getD false) := by
  have hforcing : (loadStore (raiseOwn .resetCause (b1 (ResetKind.code s.st.resetCause))
      (sampledRelease p s))).cool.forcing = true := by
    simp [sampledRelease, startMeasures, State.underReset]
  obtain ⟨hduty, hlast, -⟩ := retarget_of_forcing hforcing
  simp only [releaseReset_eq, refresh_frame, hduty, hlast, retarget_frame, loadStore_frame, raiseOwn_frame]
  simp [sampledRelease, startMeasures, State.underReset]

/-- RESET-CAUSE, then STORE-BLANK for each blank record, with INT asserted (R6, R16, R180). -/
theorem releaseReset_host (p : ReleasePins) (s : State) :
    (releaseReset p s).host.overflow = 0 ∧ (releaseReset p s).host.int = true ∧
    ((releaseReset p s).host.notices.map fun n => (n.kind, n.subject, n.time, n.detail)) =
      (.resetCause, p.straps.slot.val, 0, b1 (ResetKind.code s.st.resetCause)) ::
        ((if s.store.seat.current.isNone then [(.storeBlank, p.straps.slot.val, 0, b1 0)] else []) ++
          (if s.store.zoning.current.isNone then [(.storeBlank, p.straps.slot.val, 0, b1 1)] else [])) := by
  obtain ⟨hhost, hnow, hst, hstore⟩ :
      (sampledRelease p s).host = (State.underReset p.straps s.store s.st.resetCause).host ∧
      (sampledRelease p s).now = 0 ∧ ownAddr (sampledRelease p s) = p.straps.slot ∧
      (sampledRelease p s).store = s.store := by
    simp [sampledRelease, startMeasures, State.underReset, ownAddr]
  have hraised : (raiseOwn .resetCause (b1 (ResetKind.code s.st.resetCause)) (sampledRelease p s)).host =
      { (State.underReset p.straps s.store s.st.resetCause).host with
        notices := [{ kind := .resetCause, subject := p.straps.slot.val, time := 0,
                      detail := b1 (ResetKind.code s.st.resetCause) }]
        int := true } := by
    simp only [raiseOwn, raise_of_room (s := sampledRelease p s) (by rw [hhost]; exact Nat.zero_lt_succ 31),
      hhost, hnow,
      hst, intFree]
    simp [State.underReset, timeMs, b1]
  have hown : ownAddr (raiseOwn .resetCause (b1 (ResetKind.code s.st.resetCause)) (sampledRelease p s)) =
      p.straps.slot := by rw [← hst]; simp [ownAddr]
  simp only [releaseReset_eq, refresh_frame, retarget_frame]
  rw [loadStore_host (by rw [hraised]; show 3 ≤ 32; decide) (by rw [hraised]), hraised]
  simp only [hown, raiseOwn_frame, hnow, hstore]
  refine ⟨rfl, trivial, ?_⟩
  cases s.store.seat.current.isNone <;> cases s.store.zoning.current.isNone <;> simp [timeMs]

/-- After release every module line is at its safe value: no port is in service, the duty is 100 and the output enable
low (R3, R5). -/
theorem releaseReset_lines (p : ReleasePins) (s : State) (n : Fin 48) :
    lineDrive (releaseReset p s) n = safeLine p.straps.role n := by
  obtain ⟨-, hst, -, hsup, hport, -⟩ := releaseReset_frame p s
  obtain ⟨-, hduty, -⟩ := releaseReset_cool p s
  have hstraps : (releaseReset p s).st.straps = p.straps := by
    rw [hst]; simp [sampledRelease, startMeasures, State.underReset]
  have hstate : (releaseReset p s).st.state = .setup := by rw [hst]; simp [sampledRelease, startMeasures]
  have henable : (releaseReset p s).sup.enable = false := by
    rw [hsup]; unfold sampledRelease startSupply; split <;> simp [startMeasures, State.underReset]
  have hdark (i : Nat) : portEnable (releaseReset p s) i = false := by
    rw [Bool.eq_false_iff, Ne, portEnable_iff]
    rintro ⟨q, hq, hstate⟩
    have hmem := List.mem_of_getElem? hq
    rw [hport] at hmem
    simp only [sampledRelease, startSupply_frame, startMeasures, State.underReset] at hmem
    simp [List.eq_of_mem_replicate hmem, Port.clear] at hstate
  rw [lineDrive_of_running (by simp [hstate]), hstraps, ← lineUse_safe]
  cases lineUse p.straps n <;> simp [LineUse.drive, LineUse.safe, LineDrive.level, hdark, hduty, henable]

/-- Settles O15: the state after release, group by group. -/
theorem resetReleaseEntersSetup : Obligations.ResetReleaseEntersSetup := by
  unfold Obligations.ResetReleaseEntersSetup
  intro p s hs
  obtain ⟨hnow, hst, hstore, hsup, hport, hseat, hlow, hset, hmeasure⟩ := releaseReset_frame p s
  obtain ⟨hsample, hduty, hlast, hcheck, hrotors⟩ := releaseReset_cool p s
  obtain ⟨hover, hint, hnotices⟩ := releaseReset_host p s
  have hzone := releaseReset_zone p s
  refine ⟨releaseReset p s, by simp [exec, execResetRelease, hs], ?_⟩
  rw [hst, hstore, hsup, hport, hseat, hrotors, hcheck, hzone, storeLoaded_zone]
  refine ⟨?_, ?_, ?_, ?_, ?_, hlow, hnow, hset, hmeasure, hnotices, hover, hint, rfl, ?_, rfl, rfl, rfl, rfl, ?used,
    ?unused, rfl, hsample, hduty, hlast, ?_, ?_, ?rotors, ?supply, ?_, releaseReset_lines p s⟩
  case used =>
    intro hr
    have hz : zoning (raiseOwn .resetCause (b1 (ResetKind.code s.st.resetCause)) (sampledRelease p s)) = true := by
      rcases hr with hr | hr <;> simp [zoning, role, sampledRelease, startMeasures, State.underReset, hr]
    simp only [hz, ↓reduceIte, raiseOwn_frame]
    simp [sampledRelease, startMeasures, State.underReset]
  case unused =>
    intro hr
    have hz : zoning (raiseOwn .resetCause (b1 (ResetKind.code s.st.resetCause)) (sampledRelease p s)) = false := by
      rcases hr with hr | hr <;> simp [zoning, role, sampledRelease, startMeasures, State.underReset, hr]
    simp only [hz, Bool.false_eq_true, ↓reduceIte, raiseOwn_frame]
    simp [sampledRelease, startMeasures, State.underReset]
  case rotors =>
    intro i r hi
    obtain ⟨j, hj, rfl⟩ : ∃ j, (List.range (fittedRotors p.straps))[i]? = some j ∧
        Rotor.initial (p.rotorPresent[j]?.getD false) = r := by simpa using hi
    obtain rfl : i = j := by simpa using (List.getElem?_eq_some_iff.mp hj).2
    refine ⟨rfl, rfl, fun h => ?_, fun h => ?_⟩ <;> simp [Rotor.initial, h]
  case supply =>
    intro hr
    simp [sampledRelease, startSupply, hr, startMeasures, State.underReset, byInput]
  all_goals simp [sampledRelease, startMeasures, State.underReset]

end Sys2Proof.Machine
end

section
/-! PROOF. What every step keeps, as one relation between two states that each operation of the model extends: the
notice queue grows at its tail, INT and READY follow, seats stay within the cap, receipts never fall (O4, O6, O11,
O13). -/

namespace Sys2Proof.Machine

open Sys2Proof.Config

/-! ## The relation -/

/-- INT's part of `PinsHold` (R180). -/
structure IntHold (s : State) : Prop where
  empty : s.host.int = true → s.host.notices ≠ []
  asserted : s.host.notices ≠ [] → s.host.intOff = none → s.host.int = true

/-- The part of `PinsHold` that the station state and the latch carry (R13, R14, R85, R87). -/
structure LifeHold (s : State) : Prop where
  ready : s.st.ready = true ↔ s.st.state = .departed
  pwroff : s.st.pwroff = true ↔ s.cool.thermal = .shutdown ∧ role s ≠ .fan
  shutdown : s.cool.thermal = .shutdown → s.st.state = .departing ∨ s.st.state = .departed

theorem pinsHold_iff (s : State) : PinsHold s ↔ LifeHold s ∧ IntHold s :=
  ⟨fun h => ⟨⟨h.ready, h.pwroff, h.shutdown⟩, ⟨h.intEmpty, h.intAsserted⟩⟩,
    fun ⟨hl, hi⟩ => ⟨hl.ready, hl.pwroff, hl.shutdown, hi.empty, hi.asserted⟩⟩

/-- What an operation between `s` and `t` has kept. The thermal state is the sample's to change, by `judgeThermal`
alone (R85), so that every other operation keeps the pins. -/
structure Keeps (s t : State) : Prop where
  notices : s.host.notices <+: t.host.notices
  int : IntHold s → IntHold t
  thermal : t.cool.thermal = s.cool.thermal
  life : LifeHold s → LifeHold t
  seats : SeatLimit s → SeatLimit t
  receipts : ∀ g : Addr, s.seat.receipts[g] ≤ t.seat.receipts[g]
  settings : SettingsHold s → SettingsHold t

/-- What the sample and READ-NOTICE keep too. -/
structure KeepsMost (s t : State) : Prop where
  int : IntHold s → IntHold t
  seats : SeatLimit s → SeatLimit t
  receipts : ∀ g : Addr, s.seat.receipts[g] ≤ t.seat.receipts[g]
  settings : SettingsHold s → SettingsHold t

theorem Keeps.most {s t : State} (h : Keeps s t) : KeepsMost s t :=
  ⟨h.int, h.seats, h.receipts, h.settings⟩

theorem KeepsMost.trans {s u t : State} (h : KeepsMost s u) (k : KeepsMost u t) : KeepsMost s t :=
  ⟨k.int ∘ h.int, k.seats ∘ h.seats, fun g => (h.receipts g).trans (k.receipts g), k.settings ∘ h.settings⟩

/-- `t` differs from `s` in nothing that `Keeps` reads. -/
def SameCore (s t : State) : Prop :=
  t.st.settings = s.st.settings ∧ t.st.straps = s.st.straps ∧ t.st.state = s.st.state ∧ t.st.ready = s.st.ready ∧
  t.st.pwroff = s.st.pwroff ∧ t.cool.thermal = s.cool.thermal ∧ t.seat.free = s.seat.free ∧
  t.seat.bound = s.seat.bound ∧ escrowTotal t.seat.escrow = escrowTotal s.seat.escrow ∧
  t.seat.receipts = s.seat.receipts ∧ t.store.seat.a = s.store.seat.a ∧ t.store.seat.b = s.store.seat.b ∧
  t.store.seat.writing = s.store.seat.writing ∧ t.host.notices = s.host.notices ∧ t.host.int = s.host.int ∧
  t.host.intOff = s.host.intOff

theorem Keeps.refl (s : State) : Keeps s s :=
  ⟨List.prefix_rfl, id, rfl, id, id, fun _ => le_rfl, id⟩

theorem Keeps.trans {s u t : State} (h : Keeps s u) (k : Keeps u t) : Keeps s t where
  notices := h.notices.trans k.notices
  int := k.int ∘ h.int
  thermal := k.thermal.trans h.thermal
  life := k.life ∘ h.life
  seats := k.seats ∘ h.seats
  receipts g := (h.receipts g).trans (k.receipts g)
  settings := k.settings ∘ h.settings

/-- The settings' ranges speak of the settings alone (R7). -/
theorem settingsHold_of_eq {s t : State} (h : t.st.settings = s.st.settings) (hs : SettingsHold s) : SettingsHold t :=
  ⟨by rw [h]; exact hs.tLow, by rw [h]; exact hs.tHigh, by rw [h]; exact hs.tCrit, by rw [h]; exact hs.tShut,
    by rw [h]; exact hs.base, by rw [h]; exact hs.reserve, by rw [h]; exact hs.intMin⟩

theorem SameCore.keeps {s t : State} (h : SameCore s t) : Keeps s t := by
  obtain ⟨hset, hstraps, hstate, hready, hpwr, hth, hfree, hbound, hesc, hrec, ha, hb, hw, hn, hint, hoff⟩ := h
  refine ⟨by rw [hn], fun hi => ?_, hth, fun hl => ?_, fun hs => ?_, fun g => by rw [hrec],
    settingsHold_of_eq hset⟩
  · exact ⟨by rw [hint, hn]; exact hi.empty, by rw [hint, hn, hoff]; exact hi.asserted⟩
  · exact ⟨by rw [hready, hstate]; exact hl.ready, by rw [hpwr, hth, role, hstraps]; exact hl.pwroff,
      by rw [hth, hstate]; exact hl.shutdown⟩
  · exact ⟨by rw [owned, hfree, hbound, hesc]; exact hs.owned, by rw [ha]; exact hs.copyA, by rw [hb]; exact hs.copyB,
      by rw [hw]; exact hs.writing⟩

/-- An operation that moves nothing `Keeps` reads. -/
theorem Keeps.same {s u t : State} (h : Keeps s u) (e : SameCore u t) : Keeps s t := h.trans e.keeps

theorem Keeps.ite {s t u : State} {c : Prop} [Decidable c] (ht : Keeps s t) (hu : Keeps s u) :
    Keeps s (if c then t else u) := by
  split
  · exact ht
  · exact hu

theorem Keeps.foldl {α : Type} {s : State} {f : State → α → State} (hf : ∀ u x, Keeps s u → Keeps s (f u x))
    (l : List α) {u : State} (h : Keeps s u) : Keeps s (l.foldl f u) := by
  induction l generalizing u with
  | nil => exact h
  | cons x l ih => exact ih (hf u x h)

/-! ## Notices -/

/-- A notice that joins the queue asserts INT where no interval is under way; one that is dropped changes nothing
here (R179, R180). -/
theorem raise_intHold {k : NoticeKind} {n : Nat} {d : List Byte} {u : State} (hi : IntHold u) :
    IntHold (raise k n d u) := by
  unfold raise
  split
  · refine ⟨fun _ => by simp, fun _ hoff => ?_⟩
    simp only at hoff
    simp [intFree, hoff]
  · exact ⟨hi.empty, hi.asserted⟩

theorem raise_notices (k : NoticeKind) (n : Nat) (d : List Byte) (u : State) :
    u.host.notices <+: (raise k n d u).host.notices := by
  unfold raise
  split
  · exact List.prefix_append _ _
  · exact List.prefix_rfl

variable {s u : State}

theorem raise_keeps {k : NoticeKind} {n : Nat} {d : List Byte} (h : Keeps s u) : Keeps s (raise k n d u) :=
  h.trans
    { notices := raise_notices k n d u
      int := raise_intHold
      thermal := by simp
      life := fun hl => ⟨by simpa using hl.ready, by simpa [role] using hl.pwroff, by simpa using hl.shutdown⟩
      seats := fun hs => ⟨by simpa [owned] using hs.owned, by simpa using hs.copyA, by simpa using hs.copyB,
        by simpa using hs.writing⟩
      receipts := fun g => by simp
      settings := settingsHold_of_eq (by simp) }

theorem raiseOwn_keeps {k : NoticeKind} {d : List Byte} (h : Keeps s u) : Keeps s (raiseOwn k d u) := raise_keeps h

theorem zoneResult_keeps {g : Nat} {o : Option Addr} {a b : Nat} {l : List Byte} (h : Keeps s u) :
    Keeps s (zoneResult g o a b l u) := raise_keeps h

/-! ## Seats -/

/-- A change of the account alone, with the owned count no greater or within the cap and every receipt as it was. -/
theorem Keeps.account {t : State} (h : Keeps s u) (howned : owned u ≤ seatCap → owned t ≤ seatCap)
    (hreceipts : ∀ g : Addr, u.seat.receipts[g] ≤ t.seat.receipts[g])
    (hst : t.st = u.st) (hcool : t.cool = u.cool) (hhost : t.host = u.host)
    (hstore : t.store.seat.a = u.store.seat.a ∧ t.store.seat.b = u.store.seat.b ∧
      t.store.seat.writing = u.store.seat.writing) : Keeps s t := by
  obtain ⟨ha, hb, hw⟩ := hstore
  refine h.trans ⟨by rw [hhost], fun hi => ⟨by rw [hhost]; exact hi.empty, by rw [hhost]; exact hi.asserted⟩,
    by rw [hcool], fun hl => ⟨by rw [hst]; exact hl.ready, by rw [hst, hcool, role, hst]; exact hl.pwroff,
      by rw [hst, hcool]; exact hl.shutdown⟩, fun hs => ⟨howned hs.owned, by rw [ha]; exact hs.copyA,
      by rw [hb]; exact hs.copyB, by rw [hw]; exact hs.writing⟩, hreceipts,
    settingsHold_of_eq (by rw [hst])⟩

theorem freeSeat_keeps (h : Keeps s u) : Keeps s (freeSeat u) := by
  unfold freeSeat
  split
  · exact h
  · exact h.account (by simp only [owned]; omega) (fun _ => le_rfl) rfl rfl rfl ⟨rfl, rfl, rfl⟩

theorem bindSeat_keeps (h : Keeps s u) : Keeps s (bindSeat u) := by
  unfold bindSeat
  split
  · exact h
  · exact h.account (by simp only [owned]; omega) (fun _ => le_rfl) rfl rfl rfl ⟨rfl, rfl, rfl⟩

/-- A change of escrow entries that leaves every count moves no seat. -/
theorem escrowTotal_map {f : Escrow → Escrow} (hf : ∀ e, (f e).count = e.count) (l : List Escrow) :
    escrowTotal (l.map f) = escrowTotal l := by
  simp [escrowTotal, Function.comp_def, hf]

theorem escrowTotal_mapEscrow {x : Nat} {f : Escrow → Escrow} (hf : ∀ e, (f e).count = e.count) (u : State) :
    escrowTotal (mapEscrow x f u).seat.escrow = escrowTotal u.seat.escrow :=
  escrowTotal_map (f := fun e => if e.xfer = x then f e else e) (fun e => by split <;> simp [hf]) _

theorem escrowTotal_filter_le (p : Escrow → Bool) (l : List Escrow) : escrowTotal (l.filter p) ≤ escrowTotal l := by
  induction l with
  | nil => simp
  | cons e l ih =>
    simp only [escrowTotal, List.filter_cons, List.map_cons, List.sum_cons] at ih ⊢
    split
    · simpa using ih
    · omega

/-- Dropping an entry that is found takes at least its count out of escrow. -/
theorem escrowTotal_drop {x : Nat} {l : List Escrow} {e : Escrow} (h : l.find? (·.xfer = x) = some e) :
    escrowTotal (l.filter fun e => e.xfer ≠ x) + e.count ≤ escrowTotal l := by
  induction l with
  | nil => simp at h
  | cons a l ih =>
    have hle := escrowTotal_filter_le (fun e => e.xfer ≠ x) l
    simp only [escrowTotal, List.filter_cons, List.find?_cons, List.map_cons, List.sum_cons] at ih h hle ⊢
    by_cases ha : a.xfer = x
    · simp only [ha, decide_true, Option.some.injEq] at h
      subst h
      simp [ha] at hle ⊢
      omega
    · simp only [ha, decide_false] at h
      have := ih h
      simp [ha] at this ⊢
      omega

theorem mapEscrow_keeps {x : Nat} {f : Escrow → Escrow} (hf : ∀ e, (f e).count = e.count) (h : Keeps s u) :
    Keeps s (mapEscrow x f u) :=
  h.same (by simp [SameCore, escrowTotal_mapEscrow hf]; simp [mapEscrow])

theorem stopEscrow_keeps (h : Keeps s u) : Keeps s (stopEscrow u) :=
  h.same (by
    have := escrowTotal_map (f := fun e => { e with timer := none }) (fun _ => rfl) u.seat.escrow
    simp [SameCore]; simp [stopEscrow, this])

theorem dropEscrow_keeps {x : Nat} (h : Keeps s u) : Keeps s (dropEscrow x u) :=
  h.account (fun ho => by
      have := escrowTotal_filter_le (fun e => e.xfer ≠ x) u.seat.escrow
      simp only [owned, dropEscrow] at ho ⊢
      omega)
    (fun _ => le_rfl) rfl rfl rfl ⟨rfl, rfl, rfl⟩

theorem touchSeat_keeps {w : List Wait} (h : Keeps s u) : Keeps s (touchSeat w u) :=
  h.same ⟨rfl, rfl, rfl, rfl, rfl, rfl, rfl, rfl, rfl, rfl, rfl, rfl, rfl, rfl, rfl, rfl⟩

theorem touchZone_keeps {w : List Wait} (h : Keeps s u) : Keeps s (touchZone w u) :=
  h.same ⟨rfl, rfl, rfl, rfl, rfl, rfl, rfl, rfl, rfl, rfl, rfl, rfl, rfl, rfl, rfl, rfl⟩

/-- A write of the seat record carries the seats as they stand; a write that completes carries what it did (R15). -/
theorem seatRecord_total (u : State) : (seatRecord u).total = owned u := by
  simp [SeatRecord.total, seatRecord, owned, escrowTotal, Function.comp_def]

theorem begin_seatLimit (hs : SeatLimit u) :
    SeatLimit { u with store.seat := u.store.seat.begin (seatRecord u) } where
  owned := hs.owned
  copyA c hc := by
    refine hs.copyA c ?_
    simp only [Record.begin] at hc
    split at hc <;> simp_all
  copyB c hc := by
    refine hs.copyB c ?_
    simp only [Record.begin] at hc
    split at hc <;> simp_all
  writing r hr := by
    simp only [Record.begin, Option.some.injEq] at hr
    rw [← hr, seatRecord_total]
    exact hs.owned

theorem finish_seatLimit (hs : SeatLimit u) : SeatLimit { u with store.seat := u.store.seat.finish } := by
  unfold Record.finish
  cases hw : u.store.seat.writing with
  | none => exact hs
  | some r =>
    have hr := hs.writing r hw
    refine ⟨hs.owned, fun c hc => ?_, fun c hc => ?_, fun r h => by simp at h⟩
    · dsimp only at hc
      split at hc
      · simp only [Option.some.injEq] at hc
        exact hc ▸ hr
      · exact hs.copyA c hc
    · dsimp only at hc
      split at hc
      · exact hs.copyB c hc
      · simp only [Option.some.injEq] at hc
        exact hc ▸ hr

/-- A change of the seat record's copies and write alone. -/
theorem Keeps.seatStore {r : Record SeatRecord} (h : Keeps s u)
    (hr : SeatLimit u → SeatLimit { u with store.seat := r }) : Keeps s { u with store.seat := r } :=
  h.trans ⟨List.prefix_rfl, fun hi => ⟨hi.empty, hi.asserted⟩, rfl, fun hl => ⟨hl.ready, hl.pwroff, hl.shutdown⟩, hr,
    fun _ => le_rfl, settingsHold_of_eq rfl⟩

theorem beginWrites_keeps (h : Keeps s u) : Keeps s (beginWrites u) := by
  unfold beginWrites
  dsimp only
  have hseat : Keeps s (if u.store.seat.changed ∧ u.store.seat.writing.isNone then
      { u with store.seat := u.store.seat.begin (seatRecord u) } else u) := by
    split
    · exact h.seatStore begin_seatLimit
    · exact h
  generalize (if u.store.seat.changed ∧ u.store.seat.writing.isNone then
      { u with store.seat := u.store.seat.begin (seatRecord u) } else u) = v at hseat ⊢
  split
  · exact hseat.same ⟨rfl, rfl, rfl, rfl, rfl, rfl, rfl, rfl, rfl, rfl, rfl, rfl, rfl, rfl, rfl, rfl⟩
  · exact hseat

end Sys2Proof.Machine
end

section
/-! PROOF. `Keeps` through the operations of the blocks: cooling, the supply monitor, seats, ports, filters, zoning. -/

namespace Sys2Proof.Machine

open Sys2Proof.Config

variable {s u : State}

/-! ## Power budget and cooling -/

theorem reportRedundancy_keeps (h : Keeps s u) : Keeps s (reportRedundancy u) := by
  unfold reportRedundancy
  split
  · exact h
  · exact raiseOwn_keeps (h.same (by simp [SameCore]))

theorem reportCoverage_keeps (h : Keeps s u) : Keeps s (reportCoverage u) := by
  unfold reportCoverage
  split
  · exact h
  · split
    · exact h
    · exact raiseOwn_keeps (h.same (by simp [SameCore]))
    · exact raiseOwn_keeps (h.same (by simp [SameCore]))

theorem raiseExhausted_keeps (h : Keeps s u) : Keeps s (raiseExhausted u) := by
  unfold raiseExhausted
  split
  · exact h
  · exact raiseOwn_keeps (h.same (by simp [SameCore]))

/-- A move of the thermal state alone. -/
theorem thermalSet_most (t : Thermal) (s : State) : KeepsMost s { s with cool.thermal := t } :=
  ⟨fun hi => ⟨hi.empty, hi.asserted⟩, fun hs => ⟨hs.owned, hs.copyA, hs.copyB, hs.writing⟩, fun _ => le_rfl,
    settingsHold_of_eq rfl⟩

theorem thermalMoved_most (k : NoticeKind) (d : List Byte) (t : Thermal) (s : State) :
    KeepsMost s (raiseOwn k d { s with cool.thermal := t }) :=
  (thermalSet_most t s).trans (raiseOwn_keeps (.refl _)).most

theorem judgeThermal_most (s : State) : KeepsMost s (judgeThermal s) := by
  unfold judgeThermal
  split
  · exact (Keeps.refl s).most
  · dsimp only
    split
    · split
      · exact (thermalMoved_most _ _ _ s).trans (thermalMoved_most _ _ _ _)
      · exact thermalMoved_most _ _ _ s
    · exact (Keeps.refl s).most
  · split
    · exact thermalMoved_most _ _ _ s
    · split
      · exact thermalMoved_most _ _ _ s
      · exact (Keeps.refl s).most

/-- SHUTDOWN is left by none (R85). -/
theorem judgeThermal_shutdown (h : s.cool.thermal = .shutdown) : (judgeThermal s).cool.thermal = .shutdown := by
  simp [judgeThermal, h]

/-- The pins stand where the judgement does not close the SHUTDOWN latch. -/
theorem judgeThermal_life (h : (judgeThermal s).cool.thermal = .shutdown → s.cool.thermal = .shutdown)
    (hl : LifeHold s) : LifeHold (judgeThermal s) where
  ready := by simpa using hl.ready
  pwroff := by
    have hp := hl.pwroff
    have hth : (judgeThermal s).cool.thermal = .shutdown ↔ s.cool.thermal = .shutdown := ⟨h, judgeThermal_shutdown⟩
    simpa [hth, role] using hp
  shutdown hth := by simpa using hl.shutdown (h hth)

theorem takeReadings_keeps {r : Sensors} (h : Keeps s u) : Keeps s (takeReadings r u) := by
  have hd : Keeps s (updateDemand { u with
      cool.readings := readSensors r, cool.hottest := hottestReading (readSensors r), cool.sampled := true }) :=
    h.same (by simp [SameCore, updateDemand])
  unfold takeReadings
  dsimp only
  split <;> split
  · exact raiseOwn_keeps hd
  · exact hd
  · exact raiseOwn_keeps hd
  · exact hd

theorem judgePresence_keeps {i x : Nat} {b : Bool} (h : Keeps s u) : Keeps s (judgePresence i b x u) := by
  have hset (r : Rotor) : Keeps s (setRotor i r u) := h.same (by simp [SameCore]; simp [setRotor])
  unfold judgePresence
  split
  · exact h
  · split
    · exact raiseOwn_keeps (hset _)
    · exact h
    · exact raiseOwn_keeps (hset _)
    · exact raiseOwn_keeps (hset _)
    · exact h
    · exact h

theorem measureRotor_keeps {i p x : Nat} (h : Keeps s u) : Keeps s (measureRotor i p x u) := by
  have hset (r : Rotor) : Keeps s (setRotor i r u) := h.same (by simp [SameCore]; simp [setRotor])
  unfold measureRotor
  split
  · exact h
  · dsimp only
    split
    · exact h
    · split
      · split
        · exact raiseOwn_keeps (hset _)
        · exact hset _
      · exact hset _
    · split
      · exact hset _
      · split
        · exact raiseOwn_keeps (hset _)
        · exact hset _

/-! ## The supply monitor -/

theorem setSupply_keeps {t : SupplyState} {c : SupplyCause} (h : Keeps s u) : Keeps s (setSupply t c u) := by
  unfold setSupply
  dsimp only
  split
  · exact h
  · have ho : Keeps s (updateOffer { u with sup.state := t }) := h.same (by simp [SameCore])
    split
    · exact raiseOwn_keeps ho
    · exact raiseOwn_keeps (ho.same (by simp [SameCore]))

theorem sendDrop_keeps (h : Keeps s u) : Keeps s (sendDrop u) := h.same (by simp [SameCore])

theorem inputRose_keeps (h : Keeps s u) : Keeps s (inputRose u) := by
  unfold inputRose
  (repeat' split) <;> first | exact h | exact setSupply_keeps h

theorem inputFell_keeps (h : Keeps s u) : Keeps s (inputFell u) := by
  unfold inputFell
  (repeat' split) <;> first | exact h | exact setSupply_keeps h | exact sendDrop_keeps (setSupply_keeps h)

theorem warned_keeps (h : Keeps s u) : Keeps s (warned u) := by
  unfold warned
  (repeat' split) <;> first | exact h | exact sendDrop_keeps (setSupply_keeps h)

theorem outputWentLost_keeps (h : Keeps s u) : Keeps s (outputWentLost u) := by
  unfold outputWentLost
  (repeat' split) <;> first | exact h | exact setSupply_keeps h | exact sendDrop_keeps (setSupply_keeps h)

theorem goodRunDone_keeps (h : Keeps s u) : Keeps s (goodRunDone u) := by
  unfold goodRunDone
  (repeat' split) <;> first | exact h | exact setSupply_keeps h

theorem disableOutput_keeps (h : Keeps s u) : Keeps s (disableOutput u) := by
  have hd : Keeps s { u with sup.enable := false } := h.same (by simp [SameCore])
  unfold disableOutput
  dsimp only
  split
  · split
    · exact hd
    · exact setSupply_keeps hd
  · exact h

theorem supplyShutdown_keeps (h : Keeps s u) : Keeps s (supplyShutdown u) :=
  sendDrop_keeps (setSupply_keeps (h.same (by simp [SameCore])))

theorem supplyDeparting_keeps (h : Keeps s u) : Keeps s (supplyDeparting u) := by
  unfold supplyDeparting
  split
  · refine sendDrop_keeps ?_
    split
    · exact setSupply_keeps h
    all_goals exact h
  · exact h

theorem judgeOverload_keeps (h : Keeps s u) : Keeps s (judgeOverload u) := by
  unfold judgeOverload
  dsimp only
  split
  · exact h
  · split
    · split
      · exact h.same (by simp [SameCore])
      · split
        · exact raiseOwn_keeps (h.same (by simp [SameCore]))
        · exact h
    · exact h.same (by simp [SameCore])

theorem supplySample_keeps {c : Nat} (h : Keeps s u) : Keeps s (supplySample c u) := by
  unfold supplySample
  split
  · exact judgeOverload_keeps (h.same (by simp [SameCore]))
  · exact h

/-! ## Seats -/

theorem sendNormal_keeps {m : Msg} (h : Keeps s u) : Keeps s (sendNormal m u) := h.same (by simp [SameCore])

theorem offerNormal_keeps {m : Msg} (h : Keeps s u) : Keeps s (offerNormal m u).1 := h.same (by simp [SameCore])

theorem giveReported_keeps {x : Nat} (h : Keeps s u) : Keeps s (giveReported x u) := by
  unfold giveReported
  split
  · exact mapEscrow_keeps (fun e => by split <;> rfl) h
  · exact h

theorem offerGive_keeps {x : Nat} (h : Keeps s u) : Keeps s (offerGive x u) := by
  unfold offerGive
  split
  · exact h
  · dsimp only
    split
    · exact h
    · have hm := mapEscrow_keeps (x := x) (f := fun e => { e with tries := count8 e.tries, timer := none })
        (fun _ => rfl) h
      split
      · exact hm
      · split <;> (rename_i heq; obtain rfl := offerNormal_of heq)
        · exact offerNormal_keeps hm
        · exact giveReported_keeps (offerNormal_keeps hm)
        · exact offerNormal_keeps hm

theorem offerStored_keeps {x : Nat} (h : Keeps s u) : Keeps s (offerStored x u) := by
  unfold offerStored
  split
  · exact h
  · exact offerGive_keeps h

theorem resend_keeps {e : Escrow} (h : Keeps s u) : Keeps s (resend u e) := by
  unfold resend
  split
  · exact h
  · exact offerStored_keeps (mapEscrow_keeps (fun _ => rfl) h)

theorem resendAll_keeps (h : Keeps s u) : Keeps s (resendAll u) :=
  Keeps.foldl (fun _ _ h => resend_keeps h) _ h

theorem judgeEscrow_keeps {e : Escrow} (h : Keeps s u) : Keeps s (judgeEscrow u e) := by
  unfold judgeEscrow
  split
  · split
    · exact offerStored_keeps (raise_keeps (mapEscrow_keeps (fun _ => rfl) h))
    · exact h
  · split
    · exact raise_keeps (mapEscrow_keeps (fun _ => rfl) h)
    · exact h

theorem judgeRecipient_keeps {p : Addr} (h : Keeps s u) : Keeps s (judgeRecipient p u) :=
  Keeps.foldl (fun _ _ h => judgeEscrow_keeps h) _ h

theorem judgeAllEscrow_keeps (h : Keeps s u) : Keeps s (judgeAllEscrow u) :=
  Keeps.foldl (fun _ _ h => judgeEscrow_keeps h) _ h

/-- A give moves no more seats into escrow than free held (R119). -/
theorem makeGive_keeps {r : Addr} {n : Nat} {a : Option Nat} (h : Keeps s u) (hn : n ≤ u.seat.free) :
    Keeps s (makeGive r n a u) := by
  have hgive : Keeps s (touchSeat [.give u.seat.next] { u with
      seat.escrow := u.seat.escrow ++ [{ xfer := u.seat.next, rcpt := r, count := n, ask := a, tries := 0,
                                         timer := none, unanswered := false, stranded := false }]
      seat.free := u.seat.free - n
      seat.next := u.seat.next + 1 }) := by
    refine touchSeat_keeps (h.account (fun ho => ?_) (fun _ => le_rfl) rfl rfl rfl ⟨rfl, rfl, rfl⟩)
    simp only [owned, escrowTotal, List.map_append, List.sum_append, List.map_cons, List.map_nil, List.sum_cons,
      List.sum_nil] at ho ⊢
    omega
  unfold makeGive
  dsimp only
  split
  · exact raiseOwn_keeps hgive
  · exact hgive

theorem giveable_le_free (s : State) : giveable s ≤ s.seat.free := by
  unfold giveable
  split <;> omega

theorem offerAsk_keeps (h : Keeps s u) : Keeps s (offerAsk u) := by
  unfold offerAsk
  refine sendNormal_keeps ?_
  dsimp only
  split
  · exact raiseOwn_keeps (h.same (by simp [SameCore]))
  · exact h.same (by simp [SameCore])

theorem judgeAsk_keeps (h : Keeps s u) : Keeps s (judgeAsk u) := by
  unfold judgeAsk
  split
  · split
    · exact offerAsk_keeps h
    · exact h
  · exact h.same (by simp [SameCore])

theorem giveAnswer_keeps {a : Answer} (h : Keeps s u) : Keeps s (giveAnswer a u) := by
  unfold giveAnswer
  dsimp only
  split
  · exact makeGive_keeps (h.same (by simp [SameCore])) ((min_le_right _ _).trans (giveable_le_free _))
  · exact h.same (by simp [SameCore])

theorem repeatAck_keeps {a : Addr} {x n : Nat} (h : Keeps s u) : Keeps s (repeatAck a x n u) := by
  unfold repeatAck
  split
  · exact h.same (by simp [SameCore])
  · split
    · exact sendNormal_keeps h
    · exact h.same (by simp [SameCore])

/-- A give that is accepted stays within the cap and raises its giver's receipt (R121, R122). -/
theorem acceptGive_keeps {a : Addr} {x n : Nat} (h : Keeps s u) : Keeps s (acceptGive a x n u) := by
  unfold acceptGive
  split
  case isTrue hx =>
    split
    case isTrue hn =>
      refine touchSeat_keeps (h.account (fun _ => ?_) (fun g => ?_) rfl rfl rfl ⟨rfl, rfl, rfl⟩)
      · simp only [owned] at hn ⊢
        omega
      · by_cases hg : g = a
        · subst hg
          simpa using Nat.le_of_lt hx
        · have : a.val ≠ g.val := fun he => hg (Fin.ext he.symm)
          simp [Vector.getElem_set, this]
    case isFalse => exact raise_keeps h
  case isFalse => exact repeatAck_keeps h

theorem takeAck_keeps {a : Addr} {x : Nat} (h : Keeps s u) : Keeps s (takeAck a x u) := by
  unfold takeAck
  split
  · exact h
  · split
    · exact raise_keeps (touchSeat_keeps (dropEscrow_keeps h))
    · exact h

/-! ## Ports and filters -/

theorem leaveService_keeps {n : Nat} {p : Port} (h : Keeps s u) : Keeps s (leaveService n p u) :=
  h.same (by simp [SameCore])

theorem darkenPort_keeps {n : Nat} (h : Keeps s u) : Keeps s (darkenPort n u) := by
  unfold darkenPort
  split
  · exact h
  · dsimp only
    split
    · exact leaveService_keeps (freeSeat_keeps h)
    · exact leaveService_keeps h

theorem emptyQueue_keeps (h : Keeps s u) : Keeps s (emptyQueue u) := by
  have hfold := Keeps.foldl (f := fun s (e : QEntry) => darkenPort e.port s) (fun _ _ h => darkenPort_keeps h)
    u.port.queue h
  exact hfold.same (t := emptyQueue u) (by simp [SameCore, emptyQueue])

theorem darkenAll_keeps (h : Keeps s u) : Keeps s (darkenAll u) := by
  have hfold := Keeps.foldl (f := fun s n => darkenPort n s) (fun _ _ h => darkenPort_keeps h)
    (List.range u.port.recs.length) h
  exact hfold.same (t := darkenAll u) (by simp [SameCore, darkenAll, forEachPort])

theorem shedPort_keeps {n : Nat} (h : Keeps s u) : Keeps s (shedPort n u) := by
  unfold shedPort
  split
  · exact h
  · split
    · exact raise_keeps (h.same (by simp [SameCore]))
    · exact h

theorem startHead_keeps (h : Keeps s u) : Keeps s (startHead u) := by
  unfold startHead
  split
  · exact h
  · dsimp only
    split
    · exact (bindSeat_keeps h).same (by simp [SameCore])
    · exact h.same (by simp [SameCore])

theorem loadFault_keeps {n r k g : Nat} {m : Mode} (h : Keeps s u) : Keeps s (loadFault n r m k g u) := by
  unfold loadFault
  exact raise_keeps (h.same (by simp [SameCore]))

theorem startLoads_keeps (fuel : Nat) (h : Keeps s u) : Keeps s (startLoads fuel u) := by
  induction fuel generalizing u with
  | zero => exact h
  | succ fuel ih =>
    unfold startLoads
    dsimp only
    split
    case h_1 =>
      have hq (l : List Nat) : Keeps s { u with filt.queue := l } := h.same (by simp [SameCore])
      split
      · exact ih (hq _)
      · split
        · exact ih (loadFault_keeps (hq _))
        · exact h.same (by simp [SameCore])
    case h_2 => exact h

theorem reportSweep_keeps (h : Keeps s u) : Keeps s (reportSweep u) := by
  unfold reportSweep
  dsimp only
  split
  · split
    · exact raise_keeps (h.same (by simp [SameCore]))
    · exact h.same (by simp [SameCore])
  · exact h

theorem serveFilters_keeps (h : Keeps s u) : Keeps s (serveFilters u) :=
  reportSweep_keeps (startLoads_keeps _ h)

theorem endTimedOut_keeps {l : Flight} (h : Keeps s u) : Keeps s (endTimedOut l u) :=
  loadFault_keeps (h.same (by simp [SameCore]))

/-! ## Zoning -/

theorem sendZone_keeps {l : List Msg} (h : Keeps s u) : Keeps s (sendZone l u) := h.same (by simp [SameCore])

theorem startCommit_keeps (h : Keeps s u) : Keeps s (startCommit u) :=
  touchZone_keeps (h.same (by simp [SameCore]))

theorem commitEffect_keeps (h : Keeps s u) : Keeps s (commitEffect u) := by
  unfold commitEffect
  dsimp only
  split
  · have hswept (v : State) (hv : Keeps s v) : Keeps s (serveFilters (sweepPorts { v with filt.sweep := true })) :=
      serveFilters_keeps (hv.same (by simp [SameCore]))
    split
    · exact sendZone_keeps (hswept _ (zoneResult_keeps (h.same (by simp [SameCore]))))
    · exact hswept _ (zoneResult_keeps (h.same (by simp [SameCore])))
  · exact h

theorem freeLock_keeps (h : Keeps s u) : Keeps s (freeLock u) := h.same (by simp [SameCore])

theorem abandon_keeps {r : Reason} {l : List Byte} (h : Keeps s u) : Keeps s (abandon r l u) :=
  zoneResult_keeps (freeLock_keeps (sendZone_keeps (h.same (by simp [SameCore]))))

theorem abandonOn_keeps {v : Vote} (h : Keeps s u) : Keeps s (abandonOn v u) := by
  unfold abandonOn
  split
  · exact abandon_keeps h
  · exact abandon_keeps h
  · exact h
  · exact h

theorem decideSet_keeps (h : Keeps s u) : Keeps s (decideSet u) := by
  unfold decideSet
  split
  · exact h
  · split
    · split
      · exact abandonOn_keeps h
      · exact h
    · split
      · exact abandonOn_keeps h
      · split
        · exact startCommit_keeps h
        · exact h
    all_goals exact h

theorem segReported_keeps {g k : Nat} (h : Keeps s u) : Keeps s (segReported g k u) := by
  unfold segReported
  split
  · exact decideSet_keeps (h.same (by simp [SameCore]))
  · exact h

theorem takeVote_keeps {a : Addr} {g : Nat} {v : Verdict} {r : Reason} {p : Option Nat} (h : Keeps s u) :
    Keeps s (takeVote a g v r p u) := by
  unfold takeVote
  dsimp only
  split
  · exact decideSet_keeps (h.same (by simp [SameCore]))
  · exact h

theorem vote_keeps {a : Addr} {g : Nat} {v : Verdict} {r : Reason} {p : Option Nat} (h : Keeps s u) :
    Keeps s (vote a g v r p u) := sendZone_keeps h

theorem refuseSet_keeps {r : Reason} {p : Option Nat} (h : Keeps s u) : Keeps s (refuseSet r p u) :=
  h.same (by simp [SameCore])

theorem takeOpen_keeps {a : Addr} {g n c : Nat} (h : Keeps s u) : Keeps s (takeOpen a g n c u) :=
  h.same (by simp [SameCore])

theorem supersede_keeps (h : Keeps s u) : Keeps s (supersede u) := by
  have ht : Keeps s (noteChange (freeLock u)) := h.same (by simp [SameCore])
  unfold supersede
  dsimp only
  split
  · exact zoneResult_keeps ht
  · exact ht

theorem receiveOpen_keeps {a : Addr} {g n c : Nat} (h : Keeps s u) : Keeps s (receiveOpen a g n c u) := by
  unfold receiveOpen
  dsimp only
  split
  · exact vote_keeps h
  · split
    · exact takeOpen_keeps h
    · split
      · split
        · exact vote_keeps h
        · exact takeOpen_keeps (supersede_keeps h)
      · exact vote_keeps h

theorem receiveSeg_keeps {a : Addr} {g k : Nat} {l : List ZEntry} (h : Keeps s u) : Keeps s (receiveSeg a g k l u) :=
  h.same (by simp [SameCore])

theorem receiveCommit_keeps {a : Addr} {g : Nat} (h : Keeps s u) : Keeps s (receiveCommit a g u) := by
  unfold receiveCommit
  split
  · split
    · split
      · exact h
      · exact startCommit_keeps h
    · exact freeLock_keeps h
    all_goals exact h
  · exact h

theorem abandonReady_keeps {r : Nat} (h : Keeps s u) : Keeps s (abandonReady r u) :=
  zoneResult_keeps (freeLock_keeps h)

theorem receiveAbandon_keeps {a : Addr} {g r : Nat} (h : Keeps s u) : Keeps s (receiveAbandon a g r u) := by
  unfold receiveAbandon
  split
  · split
    · split
      · exact h
      · exact abandonReady_keeps h
    · exact freeLock_keeps h
    all_goals exact h
  · exact h

theorem implicitDecision_keeps {p : Addr} (h : Keeps s u) : Keeps s (implicitDecision p u) := by
  unfold implicitDecision
  split
  · split
    · split
      · exact startCommit_keeps h
      · split
        · exact abandonReady_keeps h
        · exact h
    · exact h
  · exact h

theorem judgeBehind_keeps {p : Addr} (h : Keeps s u) : Keeps s (judgeBehind p u) := by
  unfold judgeBehind
  split
  · split
    · exact raise_keeps (h.same (by simp [SameCore]))
    · exact h
  · exact h

theorem leaveZoning_keeps (h : Keeps s u) : Keeps s (leaveZoning u) := by
  unfold leaveZoning
  split
  · exact refuseSet_keeps h
  · split
    · exact h
    · exact abandon_keeps h
  · split
    · exact h
    · exact abandon_keeps h
  all_goals exact h

theorem restartZoning_keeps (h : Keeps s u) : Keeps s (restartZoning u) := by
  have horigin : Keeps s (restartOrigin u) := zoneResult_keeps (h.same (by simp [SameCore]))
  have hreceiver : Keeps s (restartReceiver u) := freeLock_keeps (h.same (by simp [SameCore]))
  unfold restartZoning
  split
  · exact h
  · split
    · exact horigin
    · exact horigin
    · exact hreceiver
    · exact hreceiver
    all_goals exact h

end Sys2Proof.Machine
end

section
/-! PROOF. `Keeps` through the reactions to a change, the transitions of the station state, departure and the end of
a step. -/

namespace Sys2Proof.Machine

open Sys2Proof.Config

variable {s u : State}

/-! ## Re-evaluation and view changes -/

theorem refresh_keeps (h : Keeps s u) : Keeps s (refresh u) := h.same (by simp [SameCore])

theorem retarget_keeps (h : Keeps s u) : Keeps s (retarget u) := h.same (by simp [SameCore])

theorem noteChange_keeps (h : Keeps s u) : Keeps s (noteChange u) := h.same (by simp [SameCore])

theorem compute_keeps (h : Keeps s u) : Keeps s (compute u) := h.same (by simp [SameCore])

theorem examineGates_keeps (h : Keeps s u) : Keeps s (examineGates u) := h.same (by simp [SameCore])

theorem closeWindow_keeps (h : Keeps s u) : Keeps s (closeWindow u) := h.same (by simp [SameCore])

theorem updateGoodRun_keeps (h : Keeps s u) : Keeps s (updateGoodRun u) := h.same (by simp [SameCore])

theorem updateForcing_keeps (h : Keeps s u) : Keeps s (updateForcing u) := h.same (by simp [SameCore])

theorem kick_keeps (h : Keeps s u) : Keeps s (kick u) := h.same (by simp [SameCore])

theorem shedAll_keeps (fuel : Nat) (h : Keeps s u) : Keeps s (shedAll fuel u) := by
  induction fuel generalizing u with
  | zero => exact h
  | succ fuel ih =>
    unfold shedAll
    split
    · split
      · exact h
      · exact ih (compute_keeps (refresh_keeps (shedPort_keeps h)))
    · exact h

theorem actUncovered_keeps (h : Keeps s u) : Keeps s (actUncovered u) := by
  unfold actUncovered
  dsimp only
  split
  · split
    · have hshed := shedAll_keeps u.port.recs.length (refresh_keeps (closeWindow_keeps h))
      split
      · exact raiseExhausted_keeps hshed
      · exact reportCoverage_keeps hshed
    · exact h
  · exact raiseExhausted_keeps h
  · exact raiseExhausted_keeps h
  · exact h

theorem reevaluate_keeps (h : Keeps s u) : Keeps s (reevaluate u) := by
  unfold reevaluate
  dsimp only
  split
  · have hcomputed := compute_keeps (refresh_keeps h)
    have hreported := Keeps.ite (c := comparing (compute (refresh u)))
      (reportCoverage_keeps (reportRedundancy_keeps hcomputed)) hcomputed
    exact examineGates_keeps (Keeps.ite (actUncovered_keeps hreported) hreported)
  · exact h

theorem propagate_keeps (fuel : Nat) (h : Keeps s u) : Keeps s (propagate fuel u) := by
  induction fuel generalizing u with
  | zero => exact refresh_keeps h
  | succ fuel ih =>
    unfold propagate
    dsimp only
    split
    · exact refresh_keeps h
    · exact ih (reevaluate_keeps (retarget_keeps (refresh_keeps h)))

theorem handOn_keeps (h : Keeps s u) : Keeps s (handOn u) :=
  propagate_keeps _ (Keeps.ite (retarget_keeps h) h)

theorem viewChanged_keeps {p : Addr} (h : Keeps s u) : Keeps s (viewChanged p u) := by
  unfold viewChanged
  split
  · exact judgeBehind_keeps (implicitDecision_keeps (judgeRecipient_keeps (retarget_keeps (reevaluate_keeps h))))
  · exact h

theorem changeEntry_keeps {p : Addr} {e : Entry} {f : State → State} (hf : ∀ v, Keeps s v → Keeps s (f v))
    (h : Keeps s u) : Keeps s (changeEntry p e f u) := by
  have hset : Keeps s (f (setEntry p e u)) := hf _ (h.same (by simp [SameCore]))
  unfold changeEntry
  dsimp only
  split
  · exact hset
  · exact viewChanged_keeps hset

theorem offerChanged_keeps (h : Keeps s u) : Keeps s (offerChanged u) := h.same (by simp [SameCore])

/-! ## Transitions -/

/-- A transition keeps the pins unless it leaves DEPARTING or DEPARTED under SHUTDOWN (R13, R87). -/
theorem changeState_keeps {t : StationState} {c : Cause} (h : Keeps s u)
    (hg : u.cool.thermal = .shutdown → u.st.state = .departing ∨ u.st.state = .departed →
      t = .departing ∨ t = .departed) : Keeps s (changeState t c u) := by
  have hturn : Keeps s { u with
      st.state := t
      st.joinTimer := if t = .joining then some (u.now + ms 1000) else none
      st.pend := if t = .joining then u.st.pend else .none
      st.ready := decide (t = .departed)
      view.period := if t = .departed then none else u.view.period
      budget.heldView := if t = .isolated then some (liveView u) else none } :=
    h.trans ⟨List.prefix_rfl, fun hi => ⟨hi.empty, hi.asserted⟩, rfl,
      fun hl => ⟨by simp, hl.pwroff, fun hth => hg hth (hl.shutdown hth)⟩,
      fun hs => ⟨hs.owned, hs.copyA, hs.copyB, hs.writing⟩, fun _ => le_rfl,
      settingsHold_of_eq rfl⟩
  have hraised := raiseOwn_keeps (k := .stateChanged) (d := b1 u.st.state.code ++ b1 t.code ++ b1 c.code) hturn
  unfold changeState
  dsimp only
  refine updateGoodRun_keeps (updateForcing_keeps ?_)
  split
  · exact hraised
  · exact hraised.same (by simp [SameCore, stopAsking])

theorem isolate_keeps {c : Cause} (h : Keeps s u) : Keeps s (isolate c u) := by
  have hdrops : Keeps s { u with st.drops := 0 } := h.same (by simp [SameCore])
  unfold isolate
  split
  case h_1 hj => exact changeState_keeps hdrops (by simp [hj])
  case h_2 ha => exact changeState_keeps hdrops (by simp [ha])
  all_goals exact h

theorem enterActive_keeps (h : Keeps s u) (hu : u.st.state = .joining) : Keeps s (enterActive u) :=
  judgeAllEscrow_keeps (changeState_keeps h (by simp [hu]))

theorem enterJoining_keeps {c : Cause} (h : Keeps s u)
    (hg : u.cool.thermal = .shutdown → u.st.state ≠ .departing ∧ u.st.state ≠ .departed) :
    Keeps s (enterJoining c u) := by
  have hdrops : Keeps s { u with st.drops := 0 } := h.same (by simp [SameCore])
  have hjoining : Keeps s (changeState .joining c { u with st.drops := 0 }) := changeState_keeps hdrops (by
    rintro hth (hd | hd)
    · exact absurd hd (hg hth).1
    · exact absurd hd (hg hth).2)
  exact reevaluate_keeps (updateGoodRun_keeps (hjoining.same (by simp [SameCore])))

theorem silenceUnarmed_keeps (h : Keeps s u) : Keeps s (silenceUnarmed u) :=
  h.same (by simp [SameCore]; simp [silenceUnarmed])

/-! ## Departure -/

/-- The departure record is none of what `Keeps` reads. -/
theorem departure_keeps {d : Departure} (h : Keeps s u) : Keeps s { u with dep := d } :=
  h.same (by simp [SameCore])

theorem enterLeaving_keeps (h : Keeps s u) : Keeps s (enterLeaving u) :=
  Keeps.ite (departure_keeps (leaveZoning_keeps h)) (departure_keeps h)

theorem forceDeparture_keeps (h : Keeps s u) : Keeps s (forceDeparture u) := by
  have hforced : Keeps s { u with dep.kind := .forced, dep.timer := none, dep.retry := none } := departure_keeps h
  have hdark := Keeps.ite (c := role u = .line) (darkenAll_keeps hforced) hforced
  exact Keeps.ite (departure_keeps hdark) (enterLeaving_keeps hdark)

theorem dimAll_keeps (h : Keeps s u) : Keeps s (dimAll u) := h.same (by simp [SameCore])

theorem enterDeparting_keeps {c : Cause} {b : Bool} (h : Keeps s u) : Keeps s (enterDeparting c b u) := by
  have hturn : Keeps s (changeState .departing c u) := changeState_keeps h (fun _ _ => .inl rfl)
  have hdep (d : Departure) := supplyDeparting_keeps (departure_keeps (d := d) hturn)
  exact Keeps.ite (forceDeparture_keeps (hdep _))
    (Keeps.ite (departure_keeps (dimAll_keeps (emptyQueue_keeps (hdep _)))) (enterLeaving_keeps (hdep _)))

theorem giveChunk_keeps (h : Keeps s u) : Keeps s (giveChunk u) := by
  unfold giveChunk
  split
  · exact h
  · split
    · exact makeGive_keeps h (min_le_right _ _)
    · exact h

theorem endGift_keeps (h : Keeps s u) : Keeps s (endGift u) := by
  unfold endGift
  split
  · exact enterLeaving_keeps h
  · exact h

theorem enterGift_keeps (h : Keeps s u) : Keeps s (enterGift u) := by
  have hg : Keeps s { u with dep.step := some .gift } := h.same (by simp [SameCore])
  unfold enterGift
  dsimp only
  split
  · exact enterLeaving_keeps hg
  · exact endGift_keeps (Keeps.ite hg (giveChunk_keeps hg))

theorem enterDeparted_keeps (h : Keeps s u) : Keeps s (enterDeparted u) := by
  have hturn (c : Cause) : Keeps s (changeState .departed c u) := changeState_keeps h (fun _ _ => .inr rfl)
  exact disableOutput_keeps (stopEscrow_keeps (departure_keeps (hturn _)))

theorem offerDepart_keeps (h : Keeps s u) : Keeps s (offerDepart u) := by
  have hoffer : Keeps s (offerNormal .depart (offerChanged (handOn u))).1 :=
    offerNormal_keeps (offerChanged_keeps (handOn_keeps h))
  unfold offerDepart
  split
  · split <;> (rename_i heq; obtain rfl := offerNormal_of heq)
    · exact enterDeparted_keeps hoffer
    · exact hoffer.same (by simp [SameCore])
    · exact hoffer
  · exact h

theorem departProgress_keeps {s0 : State} (h : Keeps s u) : Keeps s (departProgress s0 u) := by
  unfold departProgress
  split
  · split
    · exact h
    · split
      · exact h
      · exact offerDepart_keeps (enterGift_keeps h)
    · exact offerDepart_keeps (endGift_keeps (Keeps.ite (giveChunk_keeps h) h))
    · exact offerDepart_keeps (enterLeaving_keeps h)
    · exact offerDepart_keeps h
  · exact h

/-! ## SHUTDOWN, the return from DEPARTED, and reports -/

/-- With SHUTDOWN entered the pins hold only of a station that is departing or departed with PWROFF driven, or of a FAN
station; the role actions leave both so (R87). -/
theorem shutdownRole_keeps (h : Keeps s u) (hu : u.cool.thermal = .shutdown) : Keeps s (shutdownRole u) := by
  have hpwr (hr : role u ≠ .fan) : Keeps s { u with st.pwroff := true } :=
    h.trans ⟨List.prefix_rfl, fun hi => ⟨hi.empty, hi.asserted⟩, rfl,
      fun hl => ⟨hl.ready, by simpa using ⟨hu, hr⟩, hl.shutdown⟩,
      fun hs => ⟨hs.owned, hs.copyA, hs.copyB, hs.writing⟩, fun _ => le_rfl,
      settingsHold_of_eq rfl⟩
  unfold shutdownRole
  split
  case h_1 hr => exact darkenAll_keeps (hpwr (by simp [hr]))
  case h_2 hr => exact hpwr (by simp [hr])
  case h_3 => exact updateForcing_keeps h
  case h_4 hr => exact supplyShutdown_keeps (hpwr (by simp [hr]))

theorem enterShutdown_keeps (h : Keeps s u) (hu : u.cool.thermal = .shutdown) : Keeps s (enterShutdown u) := by
  have hrole := shutdownRole_keeps h hu
  unfold enterShutdown
  dsimp only
  split
  · exact enterDeparting_keeps hrole
  · exact enterDeparting_keeps hrole
  · exact enterDeparting_keeps hrole
  · split
    · exact forceDeparture_keeps hrole
    · exact hrole
  · exact changeState_keeps (hrole.same (by simp [SameCore])) (fun _ _ => .inr rfl)
  · exact hrole
  · exact hrole

theorem rejoin_keeps {c : Cause} (h : Keeps s u) (hu : u.cool.thermal ≠ .shutdown) : Keeps s (rejoin c u) := by
  unfold rejoin
  dsimp only
  refine resendAll_keeps ?_
  split
  · exact changeState_keeps (h.same (by simp [SameCore])) (fun hth => absurd hth hu)
  · refine enterJoining_keeps (silenceUnarmed_keeps (h.same (by simp [SameCore]))) (fun hth => absurd ?_ hu)
    simpa using hth

theorem frameReported_keeps {m : Msg} (h : Keeps s u) : Keeps s (frameReported m u) := by
  unfold frameReported
  split
  · split
    · exact h.same (by simp [SameCore])
    · exact h
  · exact giveReported_keeps h
  · exact segReported_keeps h
  · split
    · exact h.same (by simp [SameCore])
    · exact h
  all_goals exact h

/-! ## The end of a step -/

theorem finish_keeps {s0 : State} (h : Keeps s u) : Keeps s (finish s0 u) := by
  have hdep := handOn_keeps (departProgress_keeps (s0 := s0) (Keeps.ite (c := askEvent s0 u) (judgeAsk_keeps h) h))
  exact beginWrites_keeps (offerChanged_keeps (Keeps.ite (handOn_keeps (examineGates_keeps hdep)) hdep))

end Sys2Proof.Machine
end

section
/-! PROOF. What the entries into DEPARTING and SHUTDOWN leave as they were, beside the station state and PWROFF. -/

namespace Sys2Proof.Machine

open Sys2Proof.Config

/-- A fold of operations that leave an item leaves it. -/
theorem foldl_same {α β : Type} {f : State → α → State} {g : State → β} (hf : ∀ u x, g (f u x) = g u) (l : List α)
    (s : State) : g (l.foldl f s) = g s := by
  induction l generalizing s with
  | nil => rfl
  | cons x l ih => exact (ih (f s x)).trans (hf s x)

@[simp] theorem freeSeat_account (s : State) :
    (freeSeat s).seat.receipts = s.seat.receipts ∧ (freeSeat s).seat.serial = s.seat.serial ∧
    (freeSeat s).seat.next = s.seat.next ∧ (freeSeat s).seat.escrow = s.seat.escrow := by
  unfold freeSeat
  split <;> simp

@[simp] theorem darkenPort_account (n : Nat) (s : State) :
    (darkenPort n s).seat.receipts = s.seat.receipts ∧ (darkenPort n s).seat.serial = s.seat.serial ∧
    (darkenPort n s).seat.next = s.seat.next ∧ (darkenPort n s).seat.escrow = s.seat.escrow := by
  unfold darkenPort
  split
  · simp
  · split <;> simp [leaveService]

@[simp] theorem darkenAll_account (s : State) :
    (darkenAll s).seat.receipts = s.seat.receipts ∧ (darkenAll s).seat.serial = s.seat.serial ∧
    (darkenAll s).seat.next = s.seat.next ∧ (darkenAll s).seat.escrow = s.seat.escrow :=
  ⟨foldl_same (g := (·.seat.receipts)) (by simp) _ s, foldl_same (g := (·.seat.serial)) (by simp) _ s,
    foldl_same (g := (·.seat.next)) (by simp) _ s, foldl_same (g := (·.seat.escrow)) (by simp) _ s⟩

@[simp] theorem emptyQueue_account (s : State) :
    (emptyQueue s).seat.receipts = s.seat.receipts ∧ (emptyQueue s).seat.serial = s.seat.serial ∧
    (emptyQueue s).seat.next = s.seat.next ∧ (emptyQueue s).seat.escrow = s.seat.escrow :=
  ⟨foldl_same (g := (·.seat.receipts)) (by simp) _ s, foldl_same (g := (·.seat.serial)) (by simp) _ s,
    foldl_same (g := (·.seat.next)) (by simp) _ s, foldl_same (g := (·.seat.escrow)) (by simp) _ s⟩

@[simp] theorem forceDeparture_account (s : State) :
    (forceDeparture s).seat.receipts = s.seat.receipts ∧ (forceDeparture s).seat.serial = s.seat.serial ∧
    (forceDeparture s).seat.next = s.seat.next ∧ (forceDeparture s).seat.escrow = s.seat.escrow := by
  unfold forceDeparture
  dsimp only
  split <;> split <;> simp

@[simp] theorem shutdownRole_frame (s : State) :
    (shutdownRole s).now = s.now ∧ (shutdownRole s).draws = s.draws ∧ (shutdownRole s).store = s.store ∧
    (shutdownRole s).zone = s.zone ∧ (shutdownRole s).dep = s.dep ∧ (shutdownRole s).pending = s.pending ∧
    (shutdownRole s).view = s.view ∧ (shutdownRole s).st.straps = s.st.straps ∧
    (shutdownRole s).st.settings = s.st.settings ∧ (shutdownRole s).st.ejectPin = s.st.ejectPin ∧
    (shutdownRole s).st.ejectOpen = s.st.ejectOpen ∧ (shutdownRole s).st.ejectMeasure = s.st.ejectMeasure ∧
    (shutdownRole s).st.clash = s.st.clash ∧ (shutdownRole s).st.resetCause = s.st.resetCause ∧
    (shutdownRole s).st.state = s.st.state ∧ (shutdownRole s).st.ready = s.st.ready ∧
    (shutdownRole s).st.joinTimer = s.st.joinTimer ∧ (shutdownRole s).st.pend = s.st.pend ∧
    (shutdownRole s).st.drops = s.st.drops ∧ (shutdownRole s).st.silence = s.st.silence ∧
    (shutdownRole s).st.silenceArmed = s.st.silenceArmed ∧ (shutdownRole s).link.rx = s.link.rx ∧
    (shutdownRole s).link.counters = s.link.counters ∧ (shutdownRole s).link.hold = s.link.hold ∧
    (shutdownRole s).link.guard = s.link.guard ∧ (shutdownRole s).link.idleFrom = s.link.idleFrom ∧
    (shutdownRole s).link.listenFrom = s.link.listenFrom ∧ (shutdownRole s).link.ownUntil = s.link.ownUntil ∧
    (shutdownRole s).cool.readings = s.cool.readings ∧ (shutdownRole s).cool.hottest = s.cool.hottest ∧
    (shutdownRole s).cool.sampled = s.cool.sampled ∧ (shutdownRole s).cool.sampleAt = s.cool.sampleAt ∧
    (shutdownRole s).cool.demand = s.cool.demand ∧ (shutdownRole s).cool.forced = s.cool.forced ∧
    (shutdownRole s).cool.critCount = s.cool.critCount ∧ (shutdownRole s).cool.clearCount = s.cool.clearCount ∧
    (shutdownRole s).cool.shutCount = s.cool.shutCount ∧ (shutdownRole s).cool.thermal = s.cool.thermal ∧
    (shutdownRole s).cool.rotors = s.cool.rotors ∧ (shutdownRole s).cool.checkAt = s.cool.checkAt ∧
    (shutdownRole s).view.faultLow = s.view.faultLow ∧ (shutdownRole s).view.faultMeasure = s.view.faultMeasure ∧
    (shutdownRole s).view.faultSet = s.view.faultSet ∧ (shutdownRole s).host.slot = s.host.slot ∧
    (shutdownRole s).host.cursor = s.host.cursor ∧ (shutdownRole s).host.out = s.host.out ∧
    (shutdownRole s).seat.receipts = s.seat.receipts ∧ (shutdownRole s).seat.serial = s.seat.serial := by
  unfold shutdownRole
  split <;> simp

@[simp] theorem enterDeparting_frame (c : Cause) (b : Bool) (s : State) :
    (enterDeparting c b s).now = s.now ∧ (enterDeparting c b s).draws = s.draws ∧
    (enterDeparting c b s).store = s.store ∧ (enterDeparting c b s).pending = s.pending ∧
    (enterDeparting c b s).st.straps = s.st.straps ∧ (enterDeparting c b s).st.settings = s.st.settings ∧
    (enterDeparting c b s).st.ejectPin = s.st.ejectPin ∧ (enterDeparting c b s).st.ejectOpen = s.st.ejectOpen ∧
    (enterDeparting c b s).st.ejectMeasure = s.st.ejectMeasure ∧ (enterDeparting c b s).st.clash = s.st.clash ∧
    (enterDeparting c b s).st.resetCause = s.st.resetCause ∧ (enterDeparting c b s).st.pwroff = s.st.pwroff ∧
    (enterDeparting c b s).link.rx = s.link.rx ∧ (enterDeparting c b s).link.counters = s.link.counters ∧
    (enterDeparting c b s).link.hold = s.link.hold ∧ (enterDeparting c b s).link.guard = s.link.guard ∧
    (enterDeparting c b s).link.idleFrom = s.link.idleFrom ∧
    (enterDeparting c b s).link.listenFrom = s.link.listenFrom ∧
    (enterDeparting c b s).link.ownUntil = s.link.ownUntil ∧ (enterDeparting c b s).cool.readings = s.cool.readings ∧
    (enterDeparting c b s).cool.hottest = s.cool.hottest ∧ (enterDeparting c b s).cool.sampled = s.cool.sampled ∧
    (enterDeparting c b s).cool.sampleAt = s.cool.sampleAt ∧ (enterDeparting c b s).cool.demand = s.cool.demand ∧
    (enterDeparting c b s).cool.forced = s.cool.forced ∧ (enterDeparting c b s).cool.critCount = s.cool.critCount ∧
    (enterDeparting c b s).cool.clearCount = s.cool.clearCount ∧
    (enterDeparting c b s).cool.shutCount = s.cool.shutCount ∧ (enterDeparting c b s).cool.thermal = s.cool.thermal ∧
    (enterDeparting c b s).cool.rotors = s.cool.rotors ∧ (enterDeparting c b s).cool.checkAt = s.cool.checkAt ∧
    (enterDeparting c b s).view.faultLow = s.view.faultLow ∧
    (enterDeparting c b s).view.faultMeasure = s.view.faultMeasure ∧
    (enterDeparting c b s).view.faultSet = s.view.faultSet ∧ (enterDeparting c b s).host.slot = s.host.slot ∧
    (enterDeparting c b s).host.cursor = s.host.cursor ∧ (enterDeparting c b s).host.out = s.host.out ∧
    (enterDeparting c b s).zone.active = s.zone.active ∧ (enterDeparting c b s).zone.gen = s.zone.gen ∧
    (enterDeparting c b s).zone.lastProposed = s.zone.lastProposed ∧
    (enterDeparting c b s).zone.draft = s.zone.draft ∧ (enterDeparting c b s).zone.results = s.zone.results ∧
    (enterDeparting c b s).zone.behind = s.zone.behind ∧ (enterDeparting c b s).seat.receipts = s.seat.receipts ∧
    (enterDeparting c b s).seat.serial = s.seat.serial := by
  unfold enterDeparting
  dsimp only
  split
  · simp
  · split <;> simp

@[simp] theorem enterShutdown_frame (s : State) :
    (enterShutdown s).now = s.now ∧ (enterShutdown s).draws = s.draws ∧ (enterShutdown s).store = s.store ∧
    (enterShutdown s).pending = s.pending ∧ (enterShutdown s).st.straps = s.st.straps ∧
    (enterShutdown s).st.settings = s.st.settings ∧ (enterShutdown s).st.ejectPin = s.st.ejectPin ∧
    (enterShutdown s).st.ejectOpen = s.st.ejectOpen ∧ (enterShutdown s).st.ejectMeasure = s.st.ejectMeasure ∧
    (enterShutdown s).st.clash = s.st.clash ∧ (enterShutdown s).st.resetCause = s.st.resetCause ∧
    (enterShutdown s).cool.readings = s.cool.readings ∧ (enterShutdown s).cool.hottest = s.cool.hottest ∧
    (enterShutdown s).cool.sampled = s.cool.sampled ∧ (enterShutdown s).cool.sampleAt = s.cool.sampleAt ∧
    (enterShutdown s).cool.demand = s.cool.demand ∧ (enterShutdown s).cool.forced = s.cool.forced ∧
    (enterShutdown s).cool.critCount = s.cool.critCount ∧ (enterShutdown s).cool.clearCount = s.cool.clearCount ∧
    (enterShutdown s).cool.shutCount = s.cool.shutCount ∧ (enterShutdown s).cool.thermal = s.cool.thermal ∧
    (enterShutdown s).cool.rotors = s.cool.rotors ∧ (enterShutdown s).cool.checkAt = s.cool.checkAt ∧
    (enterShutdown s).view.faultLow = s.view.faultLow ∧ (enterShutdown s).view.faultMeasure = s.view.faultMeasure ∧
    (enterShutdown s).view.faultSet = s.view.faultSet ∧ (enterShutdown s).host.slot = s.host.slot ∧
    (enterShutdown s).host.cursor = s.host.cursor ∧ (enterShutdown s).host.out = s.host.out ∧
    (enterShutdown s).zone.active = s.zone.active ∧ (enterShutdown s).zone.gen = s.zone.gen ∧
    (enterShutdown s).zone.lastProposed = s.zone.lastProposed ∧ (enterShutdown s).zone.draft = s.zone.draft ∧
    (enterShutdown s).zone.results = s.zone.results ∧ (enterShutdown s).zone.behind = s.zone.behind ∧
    (enterShutdown s).seat.receipts = s.seat.receipts ∧ (enterShutdown s).seat.serial = s.seat.serial := by
  unfold enterShutdown
  dsimp only
  split
  · simp
  · simp
  · simp
  · split <;> simp
  all_goals simp

end Sys2Proof.Machine
end

section
/-! PROOF. `Keeps` through the meaning of each command other than the resets and READ-NOTICE. -/

namespace Sys2Proof.Machine

open Sys2Proof.Config

variable {s u : State}

/-! ## The shapes of a meaning -/

/-- Every next state of an answer is one that keeps what `s` had. -/
def OutKeeps (s : State) (o : Out) : Prop := ∀ t, o = .next t → Keeps s t

theorem next_keeps (h : Keeps s u) : OutKeeps s (.next u) := by
  rintro t ⟨⟩
  exact h

theorem same_next_keeps (e : SameCore s u) : OutKeeps s (.next u) := next_keeps e.keeps

theorem reach_keeps {d : Nat} (h : Keeps s u) : Keeps s (reach d u) := h.same (by simp [SameCore])

theorem stepOf_keeps {act : State → State} (h : Keeps s (act u)) : OutKeeps s (stepOf act u) :=
  next_keeps (finish_keeps h)

theorem expiryStep_keeps {timer : Option Nat} {act : State → State}
    (h : ∀ d, timer = some d → Keeps s (act (reach d s))) : OutKeeps s (expiryStep timer act s) := by
  unfold expiryStep
  split
  · exact next_keeps (.refl s)
  · exact stepOf_keeps (h _ rfl)

theorem outKeeps_ite {c : Prop} [Decidable c] {o p : Out} (ho : c → OutKeeps s o) (hp : OutKeeps s p) :
    OutKeeps s (if c then o else p) := by
  split
  case isTrue hc => exact ho hc
  case isFalse => exact hp

theorem answer_keeps {st : Status} {d : List Byte} (h : Keeps s u) : Keeps s (answer st d u) :=
  h.same (by simp [SameCore])

theorem reply_keeps {st : Status} {d : List Byte} (h : Keeps s u) : Keeps s (reply st d u) := answer_keeps h

theorem refuse_keeps {st : Status} (h : Keeps s u) : Keeps s (refuse st u) := answer_keeps h

theorem transactWith_keeps {onBad : State → State} {len : Nat} {judge : List Byte → State → State} {rest : List Byte}
    (hbad : ∀ v, Keeps s v → Keeps s (onBad v)) (hjudge : ∀ p v, Keeps s v → Keeps s (judge p v)) :
    OutKeeps s (transactWith onBad len judge rest s) := by
  have hshift : Keeps s (shiftStatus s) := (Keeps.refl s).same (by simp [SameCore]; simp [shiftStatus])
  have hbusy (tag : Byte) : Keeps s { shiftStatus s with host.slot := .busy tag } :=
    hshift.same (by simp [SameCore])
  unfold transactWith
  dsimp only
  split
  · exact next_keeps hshift
  · split
    · exact next_keeps hshift
    · split
      · exact stepOf_keeps (hjudge _ _ (hbusy _))
      · exact next_keeps (refuse_keeps (hbad _ (hbusy _)))
    · exact next_keeps hshift

theorem transact_keeps {len : Nat} {judge : List Byte → State → State} {rest : List Byte}
    (hjudge : ∀ p v, Keeps s v → Keeps s (judge p v)) : OutKeeps s (transact len judge rest s) :=
  transactWith_keeps (fun _ h => h) hjudge

theorem takeHead_keeps {k : Kind} {act : RxFrame → State → State} (h : ∀ f v, Keeps s v → Keeps s (act f v)) :
    OutKeeps s (takeHead k act s) := by
  unfold takeHead
  split
  · exact next_keeps (.refl s)
  · split
    · exact stepOf_keeps (h _ _ ((Keeps.refl s).same (by simp [SameCore])))
    · exact next_keeps (.refl s)

/-! ## EJECT and FAULT -/

theorem judgedOpen_keeps (h : Keeps s u) : Keeps s (judgedOpen u) := by
  have hopen : Keeps s { u with st.ejectMeasure := none, st.ejectOpen := true } := h.same (by simp [SameCore])
  unfold judgedOpen
  dsimp only
  split
  · exact enterDeparting_keeps hopen
  · exact enterDeparting_keeps hopen
  · exact Keeps.ite (h.same (by simp [SameCore])) hopen
  all_goals exact hopen

theorem judgedClosed_keeps (h : Keeps s u) : Keeps s (judgedClosed u) := by
  have hclosed : Keeps s { u with st.ejectMeasure := none, st.ejectOpen := false } := h.same (by simp [SameCore])
  unfold judgedClosed
  dsimp only
  split
  · exact Keeps.ite (h.same (by simp [SameCore])) hclosed
  · split
    case isTrue => exact hclosed
    case isFalse hth => exact rejoin_keeps hclosed hth
  all_goals exact hclosed

theorem faultSet_keeps (h : Keeps s u) : Keeps s (faultSet u) :=
  updateForcing_keeps (raiseOwn_keeps (h.same (by simp [SameCore])))

theorem faultClear_keeps (h : Keeps s u) : Keeps s (faultClear u) :=
  updateForcing_keeps (raiseOwn_keeps (h.same (by simp [SameCore])))

/-! ## Samples, rotors and supply lines -/

/-- The sample up to the judgement of its thermal state (R80 to R85). -/
def sampleJudged (r : Sensors) (s : State) : State :=
  judgeThermal (updateCounts (takeReadings r { s with cool.sampleAt := some (s.now + ms 250) }))

/-- The sample up to the entry into SHUTDOWN (R87). -/
def sampleEntered (r : Sensors) (s : State) : State :=
  if (sampleJudged r s).cool.thermal = .shutdown ∧ s.cool.thermal ≠ .shutdown then enterShutdown (sampleJudged r s)
  else sampleJudged r s

theorem takeSample_eq (r : Sensors) (s : State) : takeSample r s =
    if (ownRecorded (supplySample r.loadCode.toNat (sampleEntered r s))).isNone then
      retarget (supplySample r.loadCode.toNat (sampleEntered r s))
    else supplySample r.loadCode.toNat (sampleEntered r s) := rfl

theorem takeSample_keeps (r : Sensors) (s : State) : Keeps (sampleEntered r s) (takeSample r s) := by
  rw [takeSample_eq]
  exact Keeps.ite (retarget_keeps (supplySample_keeps (.refl _))) (supplySample_keeps (.refl _))

theorem sampleRead_keeps (r : Sensors) (s : State) :
    Keeps s (updateCounts (takeReadings r { s with cool.sampleAt := some (s.now + ms 250) })) := by
  have hread : Keeps s (takeReadings r { s with cool.sampleAt := some (s.now + ms 250) }) :=
    takeReadings_keeps ((Keeps.refl s).same (by simp [SameCore]))
  exact hread.same (by simp [SameCore, updateCounts])

theorem sampleJudged_most (r : Sensors) (s : State) : KeepsMost s (sampleJudged r s) :=
  (sampleRead_keeps r s).most.trans (judgeThermal_most _)

theorem takeSample_most (r : Sensors) (s : State) : KeepsMost s (takeSample r s) := by
  refine KeepsMost.trans ?_ (takeSample_keeps r s).most
  unfold sampleEntered
  split
  case isTrue hth => exact (sampleJudged_most r s).trans (enterShutdown_keeps (.refl _) hth.1).most
  case isFalse => exact sampleJudged_most r s

theorem shutdownRole_pwroff (h : role s ≠ .fan) : (shutdownRole s).st.pwroff = true := by
  unfold shutdownRole
  split
  · simp
  · rfl
  case h_3 hr => exact absurd hr h
  · simp

theorem enterDeparting_st (c : Cause) (b : Bool) (s : State) :
    (enterDeparting c b s).st.state = .departing ∧ (enterDeparting c b s).st.ready = false ∧
    (enterDeparting c b s).st.pwroff = s.st.pwroff := by
  unfold enterDeparting
  dsimp only
  split
  · simp
  · split <;> simp

theorem enterDeparting_life (c : Cause) (b : Bool)
    (h : s.st.pwroff = true ↔ s.cool.thermal = .shutdown ∧ role s ≠ .fan) : LifeHold (enterDeparting c b s) := by
  obtain ⟨hstate, hready, hpwr⟩ := enterDeparting_st c b s
  have hth : (enterDeparting c b s).cool.thermal = s.cool.thermal := by simp
  have hrole : role (enterDeparting c b s) = role s := by simp [role]
  exact ⟨by simp [hstate, hready], by rw [hpwr, hth, hrole]; exact h, fun _ => .inl hstate⟩

/-- SHUTDOWN entered by a station whose PWROFF was not yet driven leaves the pins as they must be (R13, R87). -/
theorem enterShutdown_life (hstate : s.st.state ≠ .reset) (hth : s.cool.thermal = .shutdown)
    (hready : s.st.ready = true ↔ s.st.state = .departed) (hpwr : s.st.pwroff = false) :
    LifeHold (enterShutdown s) := by
  have hrole : role (shutdownRole s) = role s := by simp [role]
  have hdriven : (shutdownRole s).st.pwroff = true ↔ (shutdownRole s).cool.thermal = .shutdown ∧
      role (shutdownRole s) ≠ .fan := by
    rw [hrole]
    refine ⟨fun hp => ⟨by simpa using hth, fun hfan => ?_⟩, fun h => shutdownRole_pwroff h.2⟩
    simp [shutdownRole, hfan, hpwr] at hp
  have hsame : (shutdownRole s).st.state = s.st.state ∧ (shutdownRole s).st.ready = s.st.ready := by simp
  unfold enterShutdown
  dsimp only
  split
  · exact enterDeparting_life _ _ hdriven
  · exact enterDeparting_life _ _ hdriven
  · exact enterDeparting_life _ _ hdriven
  case h_4 hd =>
    have hl : LifeHold (shutdownRole s) := ⟨by rw [hsame.1, hsame.2]; exact hready, hdriven, fun _ => .inl hd⟩
    split
    · exact (forceDeparture_keeps (.refl _)).life hl
    · exact hl
  case h_5 => exact ⟨by simp, by simpa [role] using hdriven, fun _ => .inr (by simp)⟩
  case h_6 hd => exact ⟨by rw [hsame.1, hsame.2]; exact hready, hdriven, fun _ => .inr hd⟩
  case h_7 hr => exact absurd (hsame.1 ▸ hr) hstate

theorem takeSample_life (r : Sensors) (hstate : s.st.state ≠ .reset) (hl : LifeHold s) : LifeHold (takeSample r s) := by
  refine (takeSample_keeps r s).life ?_
  have hread := (sampleRead_keeps r s).life hl
  have hst : (sampleJudged r s).st = s.st := by simp [sampleJudged, updateCounts]
  unfold sampleEntered
  split
  case isTrue hth =>
    refine enterShutdown_life (by rwa [hst]) hth.1 (by rw [hst]; exact hl.ready) ?_
    rw [hst]
    exact Bool.eq_false_iff.mpr fun hp => hth.2 (hl.pwroff.mp hp).1
  case isFalse hth =>
    refine judgeThermal_life (fun h => ?_) hread
    rw [(sampleRead_keeps r s).thermal]
    exact not_not.mp (fun hn => hth ⟨h, hn⟩)

theorem rotorEvent_keeps {i : Nat} {f : State → State} (hf : Keeps s (f u)) : Keeps s (rotorEvent i f u) :=
  Keeps.ite hf (propagate_keeps _ (reevaluate_keeps (retarget_keeps (noteChange_keeps hf))))

theorem checkRotors_keeps {r : RotorPins} (h : Keeps s u) : Keeps s (checkRotors r u) := by
  have hcheck : Keeps s { u with cool.checkAt := some (u.now + ms 1000) } := h.same (by simp [SameCore])
  unfold checkRotors measureAll judgeAllPresence
  dsimp only
  refine Keeps.foldl (fun v i hv => ?_) _
    (Keeps.foldl (fun v i hv => rotorEvent_keeps (judgePresence_keeps hv)) _ hcheck)
  split
  · exact hv
  · exact Keeps.ite hv (rotorEvent_keeps (measureRotor_keeps hv))

theorem stepDown_keeps (h : Keeps s u) : Keeps s (stepDown u) := h.same (by simp [SameCore])

theorem execInOkChange_keeps (b : Bool) : OutKeeps s (execInOkChange b s) := by
  refine outKeeps_ite (fun _ => stepOf_keeps ?_) (next_keeps (.refl s))
  have hline : Keeps s (updateGoodRun { s with sup.inOk := b }) :=
    updateGoodRun_keeps ((Keeps.refl s).same (by simp [SameCore]))
  exact Keeps.ite (inputRose_keeps hline) (inputFell_keeps hline)

theorem execOutOkChange_keeps (b : Bool) : OutKeeps s (execOutOkChange b s) := by
  refine outKeeps_ite (fun _ => stepOf_keeps (updateGoodRun_keeps ?_)) (next_keeps (.refl s))
  exact Keeps.ite ((Keeps.refl s).same (by simp [SameCore])) ((Keeps.refl s).same (by simp [SameCore]))

theorem execEarlyWarnChange_keeps (b : Bool) : OutKeeps s (execEarlyWarnChange b s) := by
  refine outKeeps_ite (fun _ => stepOf_keeps ?_) (next_keeps (.refl s))
  have hline : Keeps s (updateGoodRun { s with sup.earlyWarn := b }) :=
    updateGoodRun_keeps ((Keeps.refl s).same (by simp [SameCore]))
  exact Keeps.ite (warned_keeps hline) hline

/-! ## The link -/

theorem addressClash_keeps (h : Keeps s u) : Keeps s (addressClash u) :=
  Keeps.ite h (raiseOwn_keeps (isolate_keeps (h.same (by simp [SameCore]))))

theorem peerHeard_keeps {a : Addr} (h : Keeps s u) : Keeps s (peerHeard a u) := by
  have hage : Keeps s (refreshAge a u) := h.same (by simp [SameCore])
  have hheard : Keeps s { refreshAge a u with
      st.silence := some ((refreshAge a u).now + ms 2000), st.silenceArmed := anyPeerPresent (refreshAge a u) } :=
    hage.same (by simp [SameCore])
  unfold peerHeard
  dsimp only
  split
  case isTrue hi =>
    have hst : u.st.state = .isolated := by simpa using hi.1
    exact enterJoining_keeps hheard (fun _ => by simp [hst])
  case isFalse => exact hheard

theorem callHold_keeps (h : Keeps s u) : Keeps s (callHold u) := h.same (by simp [SameCore])

theorem deliver_keeps {d : Nat} {a : Addr} {c : Nat} {p : List Byte} (h : Keeps s u) : Keeps s (deliver d a c p u) := by
  unfold deliver
  refine Keeps.ite h ?_
  split
  · exact h.same (by simp [SameCore])
  · refine Keeps.ite (Keeps.ite (h.same (by simp [SameCore])) ?_) (h.same (by simp [SameCore]))
    exact Keeps.ite (callHold_keeps (h.same (by simp [SameCore]))) (h.same (by simp [SameCore]))

theorem receive_keeps {a : Activity} (h : Keeps s u) : Keeps s (receive a u) := by
  unfold receive
  split
  case h_4 => exact Keeps.ite (addressClash_keeps h) (deliver_keeps (peerHeard_keeps h))
  all_goals exact h.same (by simp [SameCore])

theorem execLineActivityEnd_keeps (bits : List Bool) (lead : Nat) : OutKeeps s (execLineActivityEnd bits lead s) := by
  have hidle : Keeps s (lineIdle (reach (activityEnd bits lead s) s)) := (Keeps.refl s).same (by simp [SameCore])
  exact outKeeps_ite (fun _ => outKeeps_ite (fun _ => next_keeps hidle) (stepOf_keeps (receive_keeps hidle)))
    (next_keeps (.refl s))

theorem countDrop_keeps (h : Keeps s u) : Keeps s (countDrop u) :=
  Keeps.ite (isolate_keeps (h.same (by simp [SameCore]))) (h.same (by simp [SameCore]))

theorem dropFrame_keeps {q : TxQueue} (h : Keeps s u) : Keeps s (dropFrame q u) := by
  have hpop (l : Link) : Keeps s { u with link := l } := h.same (by simp [SameCore])
  unfold dropFrame
  dsimp only
  split
  · exact kick_keeps (countDrop_keeps (hpop _))
  · exact kick_keeps (countDrop_keeps (frameReported_keeps (hpop _)))

theorem endJam_keeps {q : Option TxQueue} (h : Keeps s u) : Keeps s (endJam q u) := by
  have hidle : Keeps s { u with link.idleFrom := u.now, link.ownUntil := some u.now } := h.same (by simp [SameCore])
  unfold endJam
  dsimp only
  split
  · exact kick_keeps (h.same (by simp [SameCore]))
  · exact Keeps.ite (kick_keeps (h.same (by simp [SameCore]))) (dropFrame_keeps hidle)

theorem frameSent_keeps {q : TxQueue} (h : Keeps s u) : Keeps s (frameSent q u) := by
  unfold frameSent
  dsimp only
  split
  · exact kick_keeps (h.same (by simp [SameCore]))
  · exact kick_keeps (frameReported_keeps (Keeps.ite (h.same (by simp [SameCore])) (h.same (by simp [SameCore]))))

theorem guardOver_keeps (h : Keeps s u) : Keeps s (guardOver u) :=
  Keeps.ite (callHold_keeps (h.same (by simp [SameCore]))) (h.same (by simp [SameCore]))

/-! ## Frames taken -/

theorem arrived_keeps {a : Addr} {e : Entry} {f : Roll} (h : Keeps s u) : Keeps s (arrived a e f u) := by
  unfold arrived
  split
  · exact raise_keeps h
  · exact Keeps.ite h (raise_keeps h)
  · exact raise_keeps h
  · exact raise_keeps h

theorem takeRollcall_keeps {a : Addr} {p : List Byte} (h : Keeps s u) : Keeps s (takeRollcall a p u) := by
  unfold takeRollcall
  split
  · exact h
  · exact changeEntry_keeps (fun _ hv => arrived_keeps hv) h

theorem takeDrop_keeps {a : Addr} (h : Keeps s u) : Keeps s (takeDrop a u) := by
  unfold takeDrop
  split
  · exact h
  · exact Keeps.ite (changeEntry_keeps (fun _ hv => hv) h) h

theorem takeDepart_keeps {a : Addr} (h : Keeps s u) : Keeps s (takeDepart a u) := by
  unfold takeDepart
  split
  · exact h
  · exact h
  · exact changeEntry_keeps (fun _ hv => raise_keeps hv) h

theorem takeAsk_keeps {a : Addr} {x n : Nat} (h : Keeps s u) : Keeps s (takeAsk a x n u) := by
  refine Keeps.ite (h.same ?_) h
  simp [SameCore]

theorem takeGive_keeps {a : Addr} {g : GiveFields} (h : Keeps s u) : Keeps s (takeGive a g u) := by
  have hcount : Keeps s (countGive a g u) := h.same (by simp [SameCore]; simp [countGive])
  exact Keeps.ite h (Keeps.ite (acceptGive_keeps hcount) hcount)

/-! ## Store, timers and ports -/

theorem runWait_keeps {w : Wait} (h : Keeps s u) : Keeps s (runWait u w) := by
  unfold runWait
  split
  · exact offerGive_keeps h
  · exact Keeps.ite (raise_keeps (sendNormal_keeps h)) (sendNormal_keeps h)
  · exact answer_keeps h
  · exact Keeps.ite (sendZone_keeps h) h
  · exact commitEffect_keeps h

theorem execStoreWriteComplete_keeps (r : RecordId) : OutKeeps s (execStoreWriteComplete r s) := by
  unfold execStoreWriteComplete
  split
  · refine outKeeps_ite (fun _ => stepOf_keeps ?_) (next_keeps (.refl s))
    exact Keeps.foldl (fun _ _ h => runWait_keeps h) _ ((Keeps.refl s).seatStore finish_seatLimit)
  · refine outKeeps_ite (fun _ => stepOf_keeps ?_) (next_keeps (.refl s))
    exact Keeps.foldl (fun _ _ h => runWait_keeps h) _ ((Keeps.refl s).same (by simp [SameCore]))

theorem loseEntry_keeps {p : Addr} (h : Keeps s u) : Keeps s (loseEntry p u) := by
  unfold loseEntry
  split
  · exact h
  · exact changeEntry_keeps (fun _ hv => raise_keeps hv) h

theorem silenceExpired_keeps (h : Keeps s u) : Keeps s (silenceExpired u) :=
  Keeps.ite (isolate_keeps (h.same (by simp [SameCore]))) (h.same (by simp [SameCore]))

theorem joiningOver_keeps (h : Keeps s u) (hu : u.st.state = .joining) : Keeps s (joiningOver u) := by
  unfold joiningOver
  split
  · exact enterActive_keeps h hu
  · exact enterDeparting_keeps h
  · exact enterDeparting_keeps h

theorem recheck_keeps (h : Keeps s u) : Keeps s (recheck u) := by
  unfold recheck
  split
  · exact closeWindow_keeps h
  · exact Keeps.ite (h.same (by simp [SameCore]))
      (Keeps.ite (closeWindow_keeps h) (closeWindow_keeps (startHead_keeps h)))

theorem windowOver_keeps (h : Keeps s u) : Keeps s (windowOver u) :=
  Keeps.ite (recheck_keeps (reevaluate_keeps h)) (reevaluate_keeps h)

theorem spacingOver_keeps (h : Keeps s u) : Keeps s (spacingOver u) := by
  have hidle : Keeps s { u with seat.phase := .idle } := h.same (by simp [SameCore])
  exact Keeps.ite (Keeps.ite (offerAsk_keeps hidle) (h.same (by simp [SameCore]))) hidle

theorem escrowOver_keeps {e : Escrow} (h : Keeps s u) : Keeps s (escrowOver e u) := by
  refine offerGive_keeps (judgeEscrow_keeps ?_)
  unfold judgeUnanswered
  split
  · exact h
  · exact Keeps.ite (raiseOwn_keeps (mapEscrow_keeps (fun _ => rfl) h)) h

theorem becomeLit_keeps {n : Nat} (h : Keeps s u) : Keeps s (becomeLit n u) := by
  unfold becomeLit
  split
  · exact h
  · exact raise_keeps (h.same (by simp [SameCore]))

theorem dimmingOver_keeps {n : Nat} (h : Keeps s u) : Keeps s (dimmingOver n u) := by
  unfold dimmingOver
  split
  · exact h
  · dsimp only
    split
    · exact raise_keeps (darkenPort_keeps h)
    · exact raise_keeps (darkenPort_keeps h)
    · exact darkenPort_keeps h

theorem orphaned_keeps (h : Keeps s u) : Keeps s (orphaned u) := raise_keeps (freeLock_keeps h)

theorem tryOver_keeps {l : Flight} (h : Keeps s u) : Keeps s (tryOver l u) :=
  Keeps.ite (serveFilters_keeps (h.same (by simp [SameCore])))
    (Keeps.ite (serveFilters_keeps (endTimedOut_keeps h)) (h.same (by simp [SameCore])))

/-! ## Host commands -/

/-- A write within a setting's range keeps every range and the thresholds apart (R7). -/
theorem write_settingsHold {p q : Settings} {n : Nat} {v : Int} (h : SettingsHold { u with st.settings := p })
    (hw : p.write n v = some q) : SettingsHold { u with st.settings := q } := by
  obtain ⟨hlow, hhigh, hcrit, hshut, hbase, hreserve, hint⟩ := h
  unfold Settings.write at hw
  dsimp only at hlow hhigh hcrit hshut hbase hreserve hint
  split at hw <;> (try split at hw) <;> simp only [Option.some.injEq, reduceCtorEq] at hw <;> subst hw <;>
    constructor <;> dsimp only <;> omega

theorem judgeSet_keeps {p : List Byte} (h : Keeps s u) : Keeps s (judgeSet p u) := by
  unfold judgeSet
  dsimp only
  refine Keeps.ite (refuse_keeps h) (Keeps.ite (refuse_keeps h) ?_)
  split
  · exact refuse_keeps h
  case h_2 q hq =>
    have hset : Keeps s { u with st.settings := q } :=
      h.trans ⟨List.prefix_rfl, fun hi => ⟨hi.empty, hi.asserted⟩, rfl, fun hl => ⟨hl.ready, hl.pwroff, hl.shutdown⟩,
        fun hs => ⟨hs.owned, hs.copyA, hs.copyB, hs.writing⟩, fun _ => le_rfl, fun hs => write_settingsHold hs hq⟩
    refine reply_keeps ?_
    unfold settingWritten
    split
    all_goals exact hset.same (by simp [SameCore, updateDemand])

theorem reportExhausted_keeps (h : Keeps s u) : Keeps s (reportExhausted u) := Keeps.ite (raiseOwn_keeps h) h

theorem buildOwn_keeps (h : Keeps s u) : Keeps s (buildOwn u) := h.same (by simp [SameCore])

theorem joinUp_keeps (h : Keeps s u) (hu : u.st.state = .setup) : Keeps s (joinUp u) := by
  have hbuilt : Keeps s (silenceUnarmed (buildOwn { u with link := startLink u.now u.link })) :=
    silenceUnarmed_keeps (buildOwn_keeps (h.same (by simp [SameCore])))
  exact resendAll_keeps (enterJoining_keeps hbuilt (fun _ => by simp [silenceUnarmed, hu]))

theorem judgeJoin_keeps {p : List Byte} (h : Keeps s u) : Keeps s (judgeJoin p u) := by
  have hreply : Keeps s (reply .accepted [] u) := reply_keeps h
  unfold judgeJoin
  refine Keeps.ite (refuse_keeps h) ?_
  split
  case h_1 hst => exact reportExhausted_keeps (joinUp_keeps hreply (by simpa [reply] using hst))
  case h_2 =>
    split
    case isTrue => exact refuse_keeps h
    case isFalse hth => exact reportExhausted_keeps (rejoin_keeps hreply (by simpa [reply] using hth))
  all_goals exact refuse_keeps h

theorem judgeDepart_keeps {p : List Byte} (h : Keeps s u) : Keeps s (judgeDepart p u) := by
  unfold judgeDepart
  split
  · exact enterDeparting_keeps (reply_keeps h)
  · exact enterDeparting_keeps (reply_keeps h)
  · exact reply_keeps (h.same (by simp [SameCore]))
  all_goals exact refuse_keeps h

theorem emptyPeers_keeps (h : Keeps s u) : Keeps s (emptyPeers u) :=
  Keeps.foldl (fun _ _ hv => hv.same (by simp [SameCore])) _ h

@[simp] theorem emptyPeers_frame (s : State) :
    (emptyPeers s).now = s.now ∧ (emptyPeers s).draws = s.draws ∧ (emptyPeers s).st = s.st ∧
    (emptyPeers s).store = s.store ∧ (emptyPeers s).link = s.link ∧ (emptyPeers s).budget = s.budget ∧
    (emptyPeers s).cool = s.cool ∧ (emptyPeers s).sup = s.sup ∧ (emptyPeers s).seat = s.seat ∧
    (emptyPeers s).port = s.port ∧ (emptyPeers s).zone = s.zone ∧ (emptyPeers s).filt = s.filt ∧
    (emptyPeers s).dep = s.dep ∧ (emptyPeers s).host = s.host ∧ (emptyPeers s).pending = s.pending ∧
    (emptyPeers s).view.faultLow = s.view.faultLow ∧ (emptyPeers s).view.faultMeasure = s.view.faultMeasure ∧
    (emptyPeers s).view.faultSet = s.view.faultSet := by
  unfold emptyPeers
  generalize peers s = l
  induction l generalizing s with
  | nil => simp
  | cons a l ih => simpa using ih (setEntry a .empty s)

theorem stopAsking_keeps (h : Keeps s u) : Keeps s (stopAsking u) := h.same (by simp [SameCore, stopAsking])

theorem restartGoodRun_keeps (h : Keeps s u) : Keeps s (restartGoodRun u) :=
  h.same (by simp [SameCore, restartGoodRun])

theorem announce_keeps (h : Keeps s u) : Keeps s { u with announce := true } :=
  h.same ⟨rfl, rfl, rfl, rfl, rfl, rfl, rfl, rfl, rfl, rfl, rfl, rfl, rfl, rfl, rfl, rfl⟩

theorem restart_keeps (h : Keeps s u) (hu : u.st.state ≠ .departing ∧ u.st.state ≠ .departed) :
    Keeps s (restart u) := by
  have hempty : Keeps s (emptyPeers { u with link := restartLink u.now u.link }) :=
    emptyPeers_keeps (h.same (by simp [SameCore]))
  have hjoin := enterJoining_keeps (c := .linkRestart) (silenceUnarmed_keeps (restartZoning_keeps (stopAsking_keeps
    hempty))) (fun _ => by simpa [silenceUnarmed, stopAsking] using hu)
  exact announce_keeps (resendAll_keeps (restartGoodRun_keeps (retarget_keeps hjoin)))

theorem judgeRestart_keeps {p : List Byte} (h : Keeps s u) : Keeps s (judgeRestart p u) := by
  have hreply : Keeps s (reply .ok [] u) := reply_keeps h
  unfold judgeRestart
  split
  case h_1 hst => exact restart_keeps hreply (by simp [reply, hst])
  case h_2 hst => exact restart_keeps hreply (by simp [reply, hst])
  case h_3 hst => exact Keeps.ite (refuse_keeps h) (restart_keeps hreply (by simp [reply, hst]))
  all_goals exact refuse_keeps h

theorem judgeForget_keeps {p : List Byte} (h : Keeps s u) : Keeps s (judgeForget p u) := by
  unfold judgeForget
  split
  · exact refuse_keeps h
  · refine Keeps.ite (refuse_keeps h) ?_
    split
    · exact refuse_keeps h
    · exact refuse_keeps h
    · exact changeEntry_keeps (fun _ hv => hv) (reply_keeps h)
    · exact changeEntry_keeps (fun _ hv => hv) (reply_keeps h)

theorem forceFans_keeps {b : Bool} (h : Keeps s u) : Keeps s (forceFans b u) := by
  have hflag : Keeps s (updateDemand { u with cool.forced := b }) := h.same (by simp [SameCore, updateDemand])
  exact Keeps.ite (retarget_keeps hflag) hflag

theorem judgeForce_keeps {p : List Byte} (h : Keeps s u) : Keeps s (judgeForce p u) := by
  unfold judgeForce
  split
  · exact reply_keeps (forceFans_keeps h)
  · exact reply_keeps (forceFans_keeps h)
  · exact refuse_keeps h

theorem onPort_keeps {b : Bool} {n : Nat} {act : Port → State → State} (h : Keeps s u)
    (hact : ∀ p, Keeps s (act p u)) : Keeps s (onPort b n act u) := by
  unfold onPort
  refine Keeps.ite (refuse_keeps h) (Keeps.ite (refuse_keeps h) ?_)
  split
  · exact refuse_keeps h
  · exact hact _

theorem removeEntry_keeps {n : Nat} (h : Keeps s u) : Keeps s (removeEntry n u) := h.same (by simp [SameCore])

theorem requestPort_keeps {n d k : Nat} {q : Port} (h : Keeps s u) : Keeps s (requestPort n d k q u) := by
  unfold requestPort
  exact reply_keeps (h.same (by simp [SameCore]))

theorem judgeRequest_keeps {p : List Byte} (h : Keeps s u) : Keeps s (judgeRequest p u) := by
  unfold judgeRequest
  refine onPort_keeps h fun q => ?_
  exact Keeps.ite (refuse_keeps h) (Keeps.ite (requestPort_keeps h) (refuse_keeps h))

theorem judgeCancel_keeps {p : List Byte} (h : Keeps s u) : Keeps s (judgeCancel p u) := by
  unfold judgeCancel
  refine onPort_keeps h fun q => ?_
  exact Keeps.ite (reply_keeps (darkenPort_keeps (removeEntry_keeps h))) (refuse_keeps h)

theorem judgeRelease_keeps {p : List Byte} (h : Keeps s u) : Keeps s (judgeRelease p u) := by
  have hdim (n : Nat) : Keeps s (dimPort .released n u) := h.same (by simp [SameCore])
  unfold judgeRelease
  refine onPort_keeps h fun q => ?_
  split
  · exact reply_keeps (hdim _)
  · exact reply_keeps (hdim _)
  · exact reply_keeps (darkenPort_keeps (removeEntry_keeps h))
  all_goals exact refuse_keeps h

theorem setNode_keeps {n : Nat} {node : Option Nat} {q : Port} (h : Keeps s u) : Keeps s (setNode n node q u) := by
  have hserved : Keeps s (serveFilters (oweLoad n (setPort n { q with node } u))) :=
    serveFilters_keeps (h.same (by simp [SameCore]))
  unfold setNode filterReply
  split
  · exact reply_keeps hserved
  · exact reply_keeps hserved

theorem judgeAttach_keeps {p : List Byte} (h : Keeps s u) : Keeps s (judgeAttach p u) := by
  unfold judgeAttach
  refine onPort_keeps h fun q => ?_
  exact Keeps.ite (refuse_keeps h) (Keeps.ite (setNode_keeps h) (refuse_keeps h))

theorem judgeDetach_keeps {p : List Byte} (h : Keeps s u) : Keeps s (judgeDetach p u) := by
  unfold judgeDetach
  refine onPort_keeps h fun q => ?_
  exact Keeps.ite (setNode_keeps h) (refuse_keeps h)

theorem judgeInstall_keeps {p : List Byte} (h : Keeps s u) : Keeps s (judgeInstall p u) := by
  unfold judgeInstall
  dsimp only
  refine Keeps.ite (refuse_keeps h) (Keeps.ite (refuse_keeps h) ?_)
  split
  case isTrue => exact refuse_keeps h
  case isFalse hr =>
    refine touchSeat_keeps (h.account (fun _ => ?_) (fun _ => le_rfl) rfl rfl rfl ⟨rfl, rfl, rfl⟩)
    simp only [owned] at hr ⊢
    omega

theorem judgeWithdraw_keeps {p : List Byte} (h : Keeps s u) : Keeps s (judgeWithdraw p u) :=
  Keeps.ite (refuse_keeps h) (Keeps.ite (refuse_keeps h)
    (touchSeat_keeps (h.account (by simp only [owned]; omega) (fun _ => le_rfl) rfl rfl rfl ⟨rfl, rfl, rfl⟩)))

theorem judgeReclaim_keeps {p : List Byte} (h : Keeps s u) : Keeps s (judgeReclaim p u) := by
  unfold judgeReclaim
  dsimp only
  split
  · exact refuse_keeps h
  case h_2 e he =>
    refine Keeps.ite (touchSeat_keeps (h.account (fun ho => ?_) (fun _ => le_rfl) rfl rfl rfl ⟨rfl, rfl, rfl⟩))
      (refuse_keeps h)
    have := escrowTotal_drop he
    simp only [owned, dropEscrow] at ho ⊢
    omega

theorem onDraft_keeps {act : State → State} (h : Keeps s u) (hact : Keeps s (act u)) : Keeps s (onDraft act u) :=
  Keeps.ite (refuse_keeps h) (Keeps.ite (refuse_keeps h) hact)

theorem draftReply_keeps (h : Keeps s u) : Keeps s (draftReply u) := reply_keeps h

theorem draft_keeps {z : ZoneSet} (h : Keeps s u) : Keeps s (draftReply { u with zone.draft := z }) :=
  draftReply_keeps (h.same (by simp [SameCore]))

theorem publish_keeps (h : Keeps s u) : Keeps s (publish u) := by
  have hdraft : Keeps s (touchZone [.zoneOpen (max u.zone.gen u.zone.lastProposed + 1)] { u with
      zone.draft := [], zone.lastProposed := max u.zone.gen u.zone.lastProposed + 1,
      zone.results := (voters u).map fun a => { voter := a, verdict := none } }) :=
    touchZone_keeps (h.same ⟨rfl, rfl, rfl, rfl, rfl, rfl, rfl, rfl, rfl, rfl, rfl, rfl, rfl, rfl, rfl, rfl⟩)
  unfold publish
  dsimp only
  split
  · exact zoneResult_keeps hdraft
  · exact hdraft.same ⟨rfl, rfl, rfl, rfl, rfl, rfl, rfl, rfl, rfl, rfl, rfl, rfl, rfl, rfl, rfl, rfl⟩

theorem judgePublish_keeps {p : List Byte} (h : Keeps s u) : Keeps s (judgePublish p u) :=
  Keeps.ite (refuse_keeps h) (Keeps.ite (refuse_keeps h) (Keeps.ite (refuse_keeps h) (Keeps.ite (refuse_keeps h)
    (publish_keeps (reply_keeps h)))))

theorem clearCursor_keeps (h : Keeps s u) : Keeps s (clearCursor u) := h.same (by simp [SameCore]; simp [clearCursor])

theorem readFrom_keeps {t : Table} {i : Nat} (h : Keeps s u) : Keeps s (readFrom t i u) :=
  reply_keeps (h.same (by simp [SameCore]))

theorem judgeReadTable_keeps {p : List Byte} (h : Keeps s u) : Keeps s (judgeReadTable p u) := by
  unfold judgeReadTable
  dsimp only
  split
  · exact refuse_keeps (clearCursor_keeps h)
  · exact Keeps.ite (refuse_keeps (clearCursor_keeps h))
      (Keeps.ite (refuse_keeps (clearCursor_keeps h)) (readFrom_keeps h))

theorem judgeReadNext_keeps {p : List Byte} (h : Keeps s u) : Keeps s (judgeReadNext p u) := by
  unfold judgeReadNext
  split
  · exact refuse_keeps h
  · exact Keeps.ite (reply_keeps h) (readFrom_keeps h)

theorem judgeReadCounters_keeps {p : List Byte} (h : Keeps s u) : Keeps s (judgeReadCounters p u) := by
  unfold judgeReadCounters
  split
  · exact reply_keeps h
  · exact reply_keeps (h.same (by simp [SameCore]))
  · exact refuse_keeps h

end Sys2Proof.Machine
end

section
/-! PROOF. Settles O4, O6, O11, O13: one line per command for `Keeps`, then the commands that answer for more than it:
the resets, the sample and READ-NOTICE. -/

namespace Sys2Proof.Machine

open Sys2Proof.Config

variable {s t : State}

/-! ## Every command but the resets, the sample and READ-NOTICE -/

theorem execEjectPinChange_keeps (b : Bool) : OutKeeps s (execEjectPinChange b s) :=
  outKeeps_ite (fun _ => next_keeps (.refl s)) (same_next_keeps (by simp [SameCore]))

theorem execFaultLineChange_keeps (b : Bool) : OutKeeps s (execFaultLineChange b s) :=
  outKeeps_ite (fun _ => next_keeps (.refl s)) (same_next_keeps (by simp [SameCore]))

theorem execTxGapComplete_keeps : OutKeeps s (execTxGapComplete s) := by
  unfold execTxGapComplete
  split
  · split
    · exact next_keeps (.refl s)
    · exact same_next_keeps (by simp [SameCore])
  all_goals exact next_keeps (.refl s)

theorem execTxCollision_keeps : OutKeeps s (execTxCollision s) := by
  unfold execTxCollision
  split
  · exact outKeeps_ite (fun _ => same_next_keeps (by simp [SameCore, startJam])) (next_keeps (.refl s))
  all_goals exact next_keeps (.refl s)

theorem execJamEnd_keeps : OutKeeps s (execJamEnd s) := by
  unfold execJamEnd
  split
  · exact stepOf_keeps (endJam_keeps (reach_keeps (.refl s)))
  all_goals exact next_keeps (.refl s)

theorem execTxFrameComplete_keeps : OutKeeps s (execTxFrameComplete s) := by
  unfold execTxFrameComplete
  split
  · exact stepOf_keeps (frameSent_keeps (reach_keeps (.refl s)))
  all_goals exact next_keeps (.refl s)

theorem execAnswerDelayExpire_keeps (a : Addr) : OutKeeps s (execAnswerDelayExpire a s) := by
  unfold execAnswerDelayExpire
  split
  · exact next_keeps (.refl s)
  · exact stepOf_keeps (giveAnswer_keeps (reach_keeps (.refl s)))

theorem execEscrowTimerExpire_keeps (x : Nat) : OutKeeps s (execEscrowTimerExpire x s) := by
  unfold execEscrowTimerExpire
  split
  · exact next_keeps (.refl s)
  · exact expiryStep_keeps fun d _ => escrowOver_keeps (reach_keeps (.refl s))

theorem execFilterAck_keeps (n : Nat) : OutKeeps s (execFilterAck n s) := by
  unfold execFilterAck
  split
  · exact next_keeps (.refl s)
  · refine outKeeps_ite (fun _ => stepOf_keeps (serveFilters_keeps (Keeps.ite ?_ ?_))) (next_keeps (.refl s))
    all_goals exact (Keeps.refl s).same (by simp [SameCore])

theorem execFilterTryExpire_keeps : OutKeeps s (execFilterTryExpire s) := by
  unfold execFilterTryExpire
  split
  · exact next_keeps (.refl s)
  · exact stepOf_keeps (tryOver_keeps (reach_keeps (.refl s)))

theorem execFetch_keeps (n : Nat) : OutKeeps s (execFetch n s) := by
  have hshift : Keeps s (shiftStatus s) := (Keeps.refl s).same (by simp [SameCore]; simp [shiftStatus])
  unfold execFetch
  dsimp only
  refine outKeeps_ite (fun _ => next_keeps hshift) ?_
  split
  · exact next_keeps (Keeps.ite (hshift.same (by simp [SameCore])) (hshift.same (by simp [SameCore])))
  all_goals exact next_keeps hshift

theorem execCommandUnknown_keeps (c : Byte) (rest : List Byte) : OutKeeps s (execCommandUnknown c rest s) := by
  have hshift : Keeps s (shiftStatus s) := (Keeps.refl s).same (by simp [SameCore]; simp [shiftStatus])
  unfold execCommandUnknown
  dsimp only
  refine outKeeps_ite (fun _ => next_keeps hshift) ?_
  split
  · exact next_keeps hshift
  · exact next_keeps (refuse_keeps (hshift.same (by simp [SameCore])))
  · exact next_keeps hshift

theorem during_some {c : Prop} [Decidable c] {timer : Option Nat} {d : Nat} (h : during c timer = some d) :
    c ∧ timer = some d := by
  unfold during at h
  split at h
  case isTrue hc => exact ⟨hc, h⟩
  case isFalse => exact absurd h (by simp)

/-- INT's interval ends: INT stands for the notices that wait (R180). -/
theorem intervalOver_keeps {u : State} (h : Keeps s u) :
    Keeps s { u with host.intOff := none, host.int := !u.host.notices.isEmpty } :=
  h.trans ⟨List.prefix_rfl, fun _ => ⟨by simp, by simp⟩, rfl, fun hl => ⟨hl.ready, hl.pwroff, hl.shutdown⟩,
    fun hs => ⟨hs.owned, hs.copyA, hs.copyB, hs.writing⟩, fun _ => le_rfl, settingsHold_of_eq rfl⟩

theorem addMember_keeps {e : ZEntry} {u : State} (h : Keeps s u) : Keeps s (addMember e u) :=
  Keeps.ite (refuse_keeps h) (Keeps.ite (draftReply_keeps h) (Keeps.ite (refuse_keeps h) (draft_keeps h)))

theorem removeMember_keeps {e : ZEntry} {u : State} (h : Keeps s u) : Keeps s (removeMember e u) :=
  Keeps.ite (refuse_keeps h) (draft_keeps h)

/-- The commands that `Keeps` speaks of. -/
def Ordinary (c : Instr) : Prop :=
  (∀ k, c ≠ .resetAssert k) ∧ (∀ p, c ≠ .resetRelease p) ∧ (∀ r, c ≠ .sensorSample r) ∧ ∀ l, c ≠ .readNotice l

/-- Every command but the resets, the sample and READ-NOTICE extends `Keeps`. -/
theorem exec_keeps (c : Instr) (hc : Ordinary c) : OutKeeps s (exec c s) := by
  obtain ⟨hassert, hrelease, hsample, hnotice⟩ := hc
  have hreach (d : Nat) : Keeps s (reach d s) := reach_keeps (.refl s)
  cases c with
  | resetAssert k => exact absurd rfl (hassert k)
  | resetRelease p => exact absurd rfl (hrelease p)
  | sensorSample r => exact absurd rfl (hsample r)
  | readNotice l => exact absurd rfl (hnotice l)
  | ejectPinChange b => exact execEjectPinChange_keeps b
  | ejectJudgedOpen =>
    exact outKeeps_ite (fun _ => expiryStep_keeps fun d _ => judgedOpen_keeps (hreach d)) (next_keeps (.refl s))
  | ejectJudgedClosed =>
    exact outKeeps_ite (fun _ => next_keeps (.refl s)) (expiryStep_keeps fun d _ => judgedClosed_keeps (hreach d))
  | faultLineChange b => exact execFaultLineChange_keeps b
  | faultConditionSet =>
    exact outKeeps_ite (fun _ => expiryStep_keeps fun d _ => faultSet_keeps (hreach d)) (next_keeps (.refl s))
  | faultConditionClear =>
    exact outKeeps_ite (fun _ => expiryStep_keeps fun d _ => faultClear_keeps (hreach d)) (next_keeps (.refl s))
  | rotorCheck r => exact expiryStep_keeps fun d _ => checkRotors_keeps (hreach d)
  | inOkChange b => exact execInOkChange_keeps b
  | outOkChange b => exact execOutOkChange_keeps b
  | earlyWarnChange b => exact execEarlyWarnChange_keeps b
  | outputLostExpire =>
    exact expiryStep_keeps fun d _ => outputWentLost_keeps ((hreach d).same (by simp [SameCore]))
  | goodRunComplete => exact expiryStep_keeps fun d _ => goodRunDone_keeps ((hreach d).same (by simp [SameCore]))
  | storeWriteComplete r => exact execStoreWriteComplete_keeps r
  | lineActivityEnd bits lead => exact execLineActivityEnd_keeps bits lead
  | txGapComplete => exact execTxGapComplete_keeps
  | txCollision => exact execTxCollision_keeps
  | jamEnd => exact execJamEnd_keeps
  | txFrameComplete => exact execTxFrameComplete_keeps
  | backoffExpire q => exact expiryStep_keeps fun d _ => kick_keeps ((hreach d).same (by simp [SameCore]))
  | holdCounterExpire => exact expiryStep_keeps fun d _ => kick_keeps ((hreach d).same (by simp [SameCore]))
  | holdGuardExpire => exact expiryStep_keeps fun d _ => guardOver_keeps (hreach d)
  | rollcallTaken => exact takeHead_keeps fun f v hv => takeRollcall_keeps hv
  | supplyDropTaken => exact takeHead_keeps fun f v hv => takeDrop_keeps hv
  | departTaken => exact takeHead_keeps fun f v hv => takeDepart_keeps hv
  | seatAskTaken =>
    refine takeHead_keeps fun f v hv => Keeps.ite ?_ hv
    split
    · exact hv
    · exact takeAsk_keeps hv
  | seatGiveTaken =>
    refine takeHead_keeps fun f v hv => Keeps.ite ?_ hv
    split
    · exact hv
    · exact takeGive_keeps hv
  | seatAckTaken =>
    refine takeHead_keeps fun f v hv => Keeps.ite ?_ hv
    split
    · exact hv
    · exact takeAck_keeps hv
  | zoneOpenTaken => exact takeHead_keeps fun f v hv => Keeps.ite (receiveOpen_keeps hv) hv
  | zoneSegTaken => exact takeHead_keeps fun f v hv => Keeps.ite (receiveSeg_keeps hv) hv
  | zoneVoteTaken =>
    refine takeHead_keeps fun f v hv => Keeps.ite ?_ hv
    split
    · exact takeVote_keeps hv
    · exact hv
  | zoneCommitTaken => exact takeHead_keeps fun f v hv => Keeps.ite (receiveCommit_keeps hv) hv
  | zoneAbandonTaken => exact takeHead_keeps fun f v hv => Keeps.ite (receiveAbandon_keeps hv) hv
  | rollcallPeriodExpire => exact expiryStep_keeps fun d _ => (hreach d).same (by simp [SameCore])
  | peerAgeExpire p => exact expiryStep_keeps fun d _ => loseEntry_keeps (hreach d)
  | silenceTimerExpire => exact expiryStep_keeps fun d _ => silenceExpired_keeps (hreach d)
  | joiningTimerExpire =>
    refine expiryStep_keeps fun d hd => joiningOver_keeps (hreach d) ?_
    simpa using (during_some hd).1
  | settleWindowExpire => exact expiryStep_keeps fun d _ => windowOver_keeps (hreach d)
  | retryTimerExpire => exact expiryStep_keeps fun d _ => examineGates_keeps ((hreach d).same (by simp [SameCore]))
  | fanHoldExpire => exact expiryStep_keeps fun d _ => stepDown_keeps (hreach d)
  | fanStepExpire => exact expiryStep_keeps fun d _ => stepDown_keeps (hreach d)
  | askOutstandingExpire =>
    exact expiryStep_keeps fun d _ => (hreach d).same (by simp [SameCore, outstandingOver])
  | askSpacingExpire => exact expiryStep_keeps fun d _ => spacingOver_keeps (hreach d)
  | answerDelayExpire a => exact execAnswerDelayExpire_keeps a
  | escrowTimerExpire x => exact execEscrowTimerExpire_keeps x
  | lightingTimerExpire n => exact expiryStep_keeps fun d _ => becomeLit_keeps (hreach d)
  | dimmingTimerExpire n => exact expiryStep_keeps fun d _ => dimmingOver_keeps (hreach d)
  | historyBoundary => exact expiryStep_keeps fun d _ => examineGates_keeps ((hreach d).same (by simp [SameCore]))
  | segmentTimerExpire => exact expiryStep_keeps fun d _ => refuseSet_keeps (hreach d)
  | voteWindowExpire => exact expiryStep_keeps fun d _ => abandon_keeps (hreach d)
  | orphanTimerExpire => exact expiryStep_keeps fun d _ => orphaned_keeps (hreach d)
  | zoneResendTimerExpire => exact expiryStep_keeps fun d _ => (hreach d).same (by simp [SameCore])
  | filterAck n => exact execFilterAck_keeps n
  | filterTryExpire => exact execFilterTryExpire_keeps
  | departureTimerExpire => exact expiryStep_keeps fun d _ => forceDeparture_keeps (hreach d)
  | departRetryExpire => exact expiryStep_keeps fun d _ => (hreach d).same (by simp [SameCore])
  | intDeassertIntervalExpire => exact expiryStep_keeps fun d _ => intervalOver_keeps (hreach d)
  | fetch n => exact execFetch_keeps n
  | set l => exact transact_keeps fun p v hv => judgeSet_keeps hv
  | join l => exact transact_keeps fun p v hv => judgeJoin_keeps hv
  | depart l => exact transact_keeps fun p v hv => judgeDepart_keeps hv
  | linkRestart l => exact transact_keeps fun p v hv => judgeRestart_keeps hv
  | forgetPeer l => exact transact_keeps fun p v hv => judgeForget_keeps hv
  | forceFans l => exact transact_keeps fun p v hv => judgeForce_keeps hv
  | portRequest l => exact transact_keeps fun p v hv => judgeRequest_keeps hv
  | portCancel l => exact transact_keeps fun p v hv => judgeCancel_keeps hv
  | portRelease l => exact transact_keeps fun p v hv => judgeRelease_keeps hv
  | portAttach l => exact transact_keeps fun p v hv => judgeAttach_keeps hv
  | portDetach l => exact transact_keeps fun p v hv => judgeDetach_keeps hv
  | seatInstall l => exact transact_keeps fun p v hv => judgeInstall_keeps hv
  | seatWithdraw l => exact transact_keeps fun p v hv => judgeWithdraw_keeps hv
  | seatReclaim l => exact transact_keeps fun p v hv => judgeReclaim_keeps hv
  | zoneDraftClear l => exact transact_keeps fun p v hv => onDraft_keeps hv (draft_keeps hv)
  | zoneDraftAdd l => exact transact_keeps fun p v hv => onDraft_keeps hv (addMember_keeps hv)
  | zoneDraftRemove l => exact transact_keeps fun p v hv => onDraft_keeps hv (removeMember_keeps hv)
  | zonePublish l => exact transact_keeps fun p v hv => judgePublish_keeps hv
  | readTable l => exact transactWith_keeps (fun v hv => clearCursor_keeps hv) fun p v hv => judgeReadTable_keeps hv
  | readNext l => exact transact_keeps fun p v hv => judgeReadNext_keeps hv
  | readCounters l => exact transact_keeps fun p v hv => judgeReadCounters_keeps hv
  | readStatus l => exact transact_keeps fun p v hv => reply_keeps hv
  | commandUnknown c l => exact execCommandUnknown_keeps c l

/-! ## The sample and READ-NOTICE -/

theorem execSensorSample_cases {r : Sensors} (h : execSensorSample r s = .next t) : Keeps s t ∨
    ∃ u, Keeps s u ∧ u.st.state ≠ .reset ∧ Keeps (takeSample r u) t := by
  unfold execSensorSample expiryStep at h
  split at h
  · exact .inl (next_keeps (.refl s) t h)
  case h_2 d hd =>
    refine .inr ⟨reach d s, reach_keeps (.refl s), by simpa using (during_some hd).1, ?_⟩
    exact stepOf_keeps (.refl (takeSample r (reach d s))) t h

/-- A notice read leaves INT with the queue, and deasserted where the queue became empty (R180). -/
theorem dropNotice_intHold (hi : IntHold s) : IntHold (dropNotice s) := by
  unfold dropNotice
  split
  · exact hi
  · exact ⟨by simp, by simp⟩
  case h_3 n rest hrest hn =>
    have hne : rest ≠ [] := hrest
    exact ⟨fun _ => hne, fun _ hoff => hi.asserted (by simp [hn]) hoff⟩

/-- READ-NOTICE changes the module port alone. -/
theorem dropNotice_most (s : State) : KeepsMost s (dropNotice s) :=
  ⟨dropNotice_intHold, fun hs => ⟨by simpa [owned] using hs.owned, by simpa using hs.copyA, by simpa using hs.copyB,
    by simpa using hs.writing⟩, by simp, settingsHold_of_eq (by simp)⟩

theorem dropNotice_life (hl : LifeHold s) : LifeHold (dropNotice s) :=
  ⟨by simpa using hl.ready, by simpa [role] using hl.pwroff, by simpa using hl.shutdown⟩

/-- A host transaction changes the slot and the status byte alone, or judges its command on the state so changed. -/
theorem transact_cases {len : Nat} {judge : List Byte → State → State} {rest : List Byte}
    (h : transact len judge rest s = .next t) : Keeps s t ∨ ∃ p u, Keeps s u ∧ t = finish u (judge p u) := by
  have hshift : Keeps s (shiftStatus s) := (Keeps.refl s).same (by simp [SameCore]; simp [shiftStatus])
  have hbusy (tag : Byte) : Keeps s { shiftStatus s with host.slot := .busy tag } := hshift.same (by simp [SameCore])
  unfold transact transactWith at h
  dsimp only at h
  split at h
  · exact .inl (next_keeps hshift t h)
  · split at h
    · exact .inl (next_keeps hshift t h)
    · split at h
      · exact .inr ⟨_, _, hbusy _, (Host.Outcome.next.inj h).symm⟩
      · exact .inl (next_keeps (refuse_keeps (hbusy _)) t h)
    · exact .inl (next_keeps hshift t h)

theorem execReadNotice_cases {l : List Byte} (h : execReadNotice l s = .next t) : Keeps s t ∨
    ∃ u, Keeps s u ∧ Keeps (dropNotice u) t := by
  obtain hst | ⟨p, u, hsu, rfl⟩ := transact_cases h
  · exact .inl hst
  · exact .inr ⟨{ u with host.overflow := 0 }, hsu.same (by simp [SameCore]), finish_keeps (reply_keeps (.refl _))⟩

/-- Every command but the resets keeps what `KeepsMost` says. -/
theorem exec_keepsMost {c : Instr} (hassert : ∀ k, c ≠ .resetAssert k) (hrelease : ∀ p, c ≠ .resetRelease p)
    (h : exec c s = .next t) : KeepsMost s t := by
  by_cases hsample : ∃ r, c = .sensorSample r
  case pos =>
    obtain ⟨r, rfl⟩ := hsample
    obtain hst | ⟨u, hsu, -, hut⟩ := execSensorSample_cases h
    · exact hst.most
    · exact (hsu.most.trans (takeSample_most r u)).trans hut.most
  case neg =>
    by_cases hnotice : ∃ l, c = .readNotice l
    case pos =>
      obtain ⟨l, rfl⟩ := hnotice
      obtain hst | ⟨u, hsu, hut⟩ := execReadNotice_cases h
      · exact hst.most
      · exact (hsu.most.trans (dropNotice_most u)).trans hut.most
    case neg =>
      exact (exec_keeps c ⟨hassert, hrelease, fun r hr => hsample ⟨r, hr⟩, fun l hl => hnotice ⟨l, hl⟩⟩ t h).most

/-- Every command but the resets keeps READY, PWROFF and the place of SHUTDOWN. -/
theorem exec_life {c : Instr} (hassert : ∀ k, c ≠ .resetAssert k) (hrelease : ∀ p, c ≠ .resetRelease p)
    (h : exec c s = .next t) (hl : LifeHold s) : LifeHold t := by
  by_cases hsample : ∃ r, c = .sensorSample r
  case pos =>
    obtain ⟨r, rfl⟩ := hsample
    obtain hst | ⟨u, hsu, hu, hut⟩ := execSensorSample_cases h
    · exact hst.life hl
    · exact hut.life (takeSample_life r hu (hsu.life hl))
  case neg =>
    by_cases hnotice : ∃ l, c = .readNotice l
    case pos =>
      obtain ⟨l, rfl⟩ := hnotice
      obtain hst | ⟨u, hsu, hut⟩ := execReadNotice_cases h
      · exact hst.life hl
      · exact hut.life (dropNotice_life (hsu.life hl))
    case neg =>
      exact (exec_keeps c ⟨hassert, hrelease, fun r hr => hsample ⟨r, hr⟩, fun l hl => hnotice ⟨l, hl⟩⟩ t h).life hl

/-! ## The resets -/

theorem settingsHold_of_default {r : Role} (h : t.st.settings = Settings.default r) : SettingsHold t := by
  have hr : t.st.settings.reserve ≤ 4096 ∧ t.st.settings.base ≤ 500 := by rw [h]; cases r <;> decide
  refine ⟨?_, ?_, ?_, ?_, hr.2, hr.1, ?_⟩ <;> (rw [h]; cases r <;> decide)

/-- A state with no notice, INT deasserted, in RESET at its reset values holds the pins. -/
theorem assertReset_pins (k : ResetKind) (s : State) : PinsHold (assertReset k s) := by
  refine ⟨?_, ?_, ?_, ?_, ?_⟩ <;> simp [assertReset, State.underReset]

theorem assertReset_seats (k : ResetKind) (hs : SeatLimit s) : SeatLimit (assertReset k s) where
  owned := by simp [assertReset, State.underReset, owned, escrowTotal]
  copyA := hs.copyA
  copyB := hs.copyB
  writing r hr := by simp [assertReset, State.underReset, Record.abandon] at hr

theorem releaseReset_pins (p : ReleasePins) (s : State) : PinsHold (releaseReset p s) := by
  obtain ⟨-, hst, -⟩ := releaseReset_frame p s
  obtain ⟨-, hint, hmap⟩ := releaseReset_host p s
  have hsampled : (sampledRelease p s).st.state = .setup ∧ (sampledRelease p s).st.ready = false ∧
      (sampledRelease p s).st.pwroff = false := by
    simp [sampledRelease, startMeasures, State.underReset]
  have hth : (releaseReset p s).cool.thermal = .normal := by
    simp [releaseReset_eq, sampledRelease, startMeasures, State.underReset]
  have hne : (releaseReset p s).host.notices ≠ [] := fun h => by simp [h] at hmap
  obtain ⟨hsetup, hready, hpwr⟩ := hsampled
  exact ⟨by rw [hst, hsetup, hready]; decide, by rw [hst, hpwr, hth]; simp, by rw [hth]; simp, fun _ => hne,
    fun _ _ => hint⟩

/-- What is loaded is a copy, or the blank record (R16). -/
theorem load_total (hs : SeatLimit s) : (s.store.seat.load SeatRecord.blank).total ≤ seatCap := by
  unfold Record.load
  split
  · decide
  case h_2 c hc =>
    unfold Record.current at hc
    split at hc
    case h_1 x y hx hy =>
      split at hc
      · exact hs.copyA c (by rw [hx, hc])
      · exact hs.copyB c (by rw [hy, hc])
    case h_2 x hx hy => exact hs.copyA c (by rw [hx, hc])
    case h_3 => exact hs.copyB c hc

theorem releaseReset_seats (p : ReleasePins) (hs : SeatLimit s) : SeatLimit (releaseReset p s) := by
  obtain ⟨-, -, hstore, -, -, hseat, -⟩ := releaseReset_frame p s
  have hbound : (sampledRelease p s).seat.bound = 0 := by simp [sampledRelease, startMeasures, State.underReset]
  have howned : owned (releaseReset p s) = (s.store.seat.load SeatRecord.blank).total := by
    rw [owned, hseat]
    simp [loadSeats, hbound, SeatRecord.total, escrowTotal, Function.comp_def]
  exact ⟨by rw [howned]; exact load_total hs, by rw [hstore]; exact hs.copyA, by rw [hstore]; exact hs.copyB,
    by rw [hstore]; exact hs.writing⟩

theorem releaseReset_settings (p : ReleasePins) (s : State) : SettingsHold (releaseReset p s) := by
  obtain ⟨-, hst, -⟩ := releaseReset_frame p s
  refine settingsHold_of_default (r := p.straps.role) ?_
  rw [hst]
  simp [sampledRelease, startMeasures, State.underReset]

/-! ## One step -/

/-- What holds of a reset, of a release and of every other command from states where it holds is kept by a step. -/
theorem step_kept {P : State → Prop} (hpending : ∀ s q, P s → P { s with pending := q })
    (htick : ∀ s, P s → P (tick s)) (hassert : ∀ k s, P s → P (assertReset k s))
    (hrelease : ∀ p s, P s → P (releaseReset p s))
    (hexec : ∀ c s t, (∀ k, c ≠ .resetAssert k) → (∀ p, c ≠ .resetRelease p) → exec c s = .next t → P s → P t)
    (hs : P s) (h : step s = .next t) : P t := by
  unfold step at h
  split at h
  · obtain rfl := Host.Outcome.next.inj h
    exact htick s hs
  case h_2 c rest _ =>
    have hs' := hpending s rest hs
    by_cases ha : ∃ k, c = .resetAssert k
    case pos =>
      obtain ⟨k, rfl⟩ := ha
      obtain rfl := Host.Outcome.next.inj h
      exact hassert k _ hs'
    case neg =>
      by_cases hr : ∃ p, c = .resetRelease p
      case pos =>
        obtain ⟨p, rfl⟩ := hr
        change execResetRelease p _ = _ at h
        unfold execResetRelease at h
        split at h
        · obtain rfl := Host.Outcome.next.inj h
          exact hrelease p _ hs'
        · obtain rfl := Host.Outcome.next.inj h
          exact hs'
      case neg => exact hexec c _ t (fun k hk => ha ⟨k, hk⟩) (fun p hp => hr ⟨p, hp⟩) h hs'

theorem SameCore.pins (e : SameCore s t) (h : PinsHold s) : PinsHold t :=
  (pinsHold_iff t).mpr (((pinsHold_iff s).mp h).imp e.keeps.life e.keeps.int)

theorem sameCore_pending (s : State) (q : List Instr) : SameCore s { s with pending := q } :=
  ⟨rfl, rfl, rfl, rfl, rfl, rfl, rfl, rfl, rfl, rfl, rfl, rfl, rfl, rfl, rfl, rfl⟩

theorem sameCore_tick (s : State) : SameCore s (tick s) :=
  ⟨rfl, rfl, rfl, rfl, rfl, rfl, rfl, rfl, rfl, rfl, rfl, rfl, rfl, rfl, rfl, rfl⟩

/-- Settles O4: each operation keeps the pins, but for the sample that closes the SHUTDOWN latch, which departs the
station and drives PWROFF in the same step. -/
theorem pinsKept : Obligations.PinsKept := by
  unfold Obligations.PinsKept
  intro s t hs h
  refine step_kept (fun s q => (sameCore_pending s q).pins) (fun s => (sameCore_tick s).pins)
    (fun k s _ => assertReset_pins k s) (fun p s _ => releaseReset_pins p s) (fun c s t ha hr h hs => ?_) hs h
  obtain ⟨hl, hi⟩ := (pinsHold_iff s).mp hs
  exact (pinsHold_iff t).mpr ⟨exec_life ha hr h hl, (exec_keepsMost ha hr h).int hi⟩

/-- Settles O6: seats are made by SEAT-INSTALL and by a give alone, each within the cap, and a write carries the
account as it stands. -/
theorem seatLimitKept : Obligations.SeatLimitKept := by
  unfold Obligations.SeatLimitKept
  intro s t hs h
  exact step_kept (fun s q => (sameCore_pending s q).keeps.seats) (fun s => (sameCore_tick s).keeps.seats)
    (fun k s => assertReset_seats k) (fun p s => releaseReset_seats p)
    (fun c s t ha hr h => (exec_keepsMost ha hr h).seats) hs h

/-- Settles O11: only SET writes a setting, within its range. -/
theorem settingsKept : Obligations.SettingsKept := by
  unfold Obligations.SettingsKept
  intro s t hs h
  exact step_kept (fun s q => (sameCore_pending s q).keeps.settings) (fun s => (sameCore_tick s).keeps.settings)
    (fun k s _ => settingsHold_of_default (r := s.st.straps.role) rfl) (fun p s _ => releaseReset_settings p s)
    (fun c s t ha hr h => (exec_keepsMost ha hr h).settings) hs h

/-- Settles O13: a receipt is written by a give with a greater transfer number alone. -/
theorem receiptsNeverFall : Obligations.ReceiptsNeverFall := by
  unfold Obligations.ReceiptsNeverFall
  intro c s t g ha hr h
  exact (exec_keepsMost ha hr h).receipts g

end Sys2Proof.Machine
end

section
/-! PROOF. What the end of a step (`finish`) can still do in every station state, DEPARTING included: it offers frames
behind those queued, follows the own entry and moves a departure on. -/

namespace Sys2Proof.Machine

open Sys2Proof.Config

variable {s t u : State}

/-! ## The transmit queues -/

@[simp] theorem withoutRollcall_append (l k : List Msg) :
    withoutRollcall (l ++ k) = withoutRollcall l ++ withoutRollcall k := List.filter_append ..

@[simp] theorem withoutRollcall_rollcall (f : Roll) : withoutRollcall [.rollcall f] = [] := by
  simp [withoutRollcall, isRollcall]

/-- Replacing a queued ROLLCALL's contents moves no other frame (R29). -/
@[simp] theorem withoutRollcall_replace (f : Roll) (l : List Msg) :
    withoutRollcall (replaceRollcall f l) = withoutRollcall l := by
  induction l with
  | nil => rfl
  | cons m l ih =>
    simp only [withoutRollcall, replaceRollcall] at ih ⊢
    cases hm : isRollcall m
    case true =>
      have hf : isRollcall (.rollcall f) = true := rfl
      simpa [hm, hf] using ih
    case false => simpa [hm] using ih

/-- The engine leaves IDLE for DEFER alone. -/
theorem kick_engine {q : Option TxQueue} {e : Nat} (h : (kick s).link.engine = .jam q e) :
    s.link.engine = .jam q e := by
  unfold kick kickLink at h
  dsimp only at h
  split at h <;> first | exact h | skip
  split at h <;> (try split at h) <;> simp_all

/-- A ROLLCALL moves no other frame. -/
@[simp] theorem offerRollcall_normal (f : Roll) (s : State) :
    withoutRollcall (offerRollcall f s).link.normal = withoutRollcall s.link.normal := by
  unfold offerRollcall
  dsimp only
  (repeat' split) <;> simp

@[simp] theorem offerChanged_normal (s : State) :
    withoutRollcall (offerChanged s).link.normal = withoutRollcall s.link.normal := by
  unfold offerChanged
  split <;> simp

/-- Frames have only been offered to the normal queue, or a ROLLCALL's contents replaced; no attempt has moved. -/
structure TxKept (s t : State) : Prop where
  urgent : t.link.urgent = s.link.urgent
  urgentTry : t.link.urgentTry = s.link.urgentTry
  normalTry : t.link.normalTry = s.link.normalTry
  engine : ∀ q e, t.link.engine = .jam q e → s.link.engine = .jam q e
  normal : ∃ new, withoutRollcall t.link.normal = withoutRollcall s.link.normal ++ new

theorem TxKept.refl (s : State) : TxKept s s := ⟨rfl, rfl, rfl, fun _ _ => id, [], by simp⟩

theorem TxKept.trans (h : TxKept s u) (k : TxKept u t) : TxKept s t where
  urgent := k.urgent.trans h.urgent
  urgentTry := k.urgentTry.trans h.urgentTry
  normalTry := k.normalTry.trans h.normalTry
  engine q e hj := h.engine q e (k.engine q e hj)
  normal := by
    obtain ⟨l, hl⟩ := h.normal
    obtain ⟨r, hr⟩ := k.normal
    exact ⟨l ++ r, by rw [hr, hl, List.append_assoc]⟩

theorem TxKept.same (h : TxKept s u) (e : t.link = u.link) : TxKept s t :=
  ⟨by rw [e, h.urgent], by rw [e, h.urgentTry], by rw [e, h.normalTry], by rw [e]; exact h.engine,
    by rw [e]; exact h.normal⟩

theorem kick_tx (h : TxKept s u) : TxKept s (kick u) :=
  h.trans ⟨by simp, by simp, by simp, fun _ _ => kick_engine, [], by simp⟩

/-- A frame joins the tail of the normal queue. -/
theorem queued_tx (m : Msg) (h : TxKept s u) : TxKept s { u with link.normal := u.link.normal ++ [m] } :=
  h.trans ⟨rfl, rfl, rfl, fun _ _ => id, withoutRollcall [m], withoutRollcall_append _ _⟩

theorem offerNormal_tx (m : Msg) (h : TxKept s u) : TxKept s (offerNormal m u).1 := by
  unfold offerNormal
  split
  · exact h
  · split
    · exact kick_tx (queued_tx m h)
    · exact h

theorem sendNormal_tx (m : Msg) (h : TxKept s u) : TxKept s (sendNormal m u) := offerNormal_tx m h

theorem offerRollcall_tx (f : Roll) (h : TxKept s u) : TxKept s (offerRollcall f u) := by
  have hperiod : TxKept s { u with view.period := some (u.now + ms 250) } := h.same rfl
  unfold offerRollcall
  dsimp only
  split
  · exact h
  · split
    · exact h.trans ⟨rfl, rfl, rfl, fun _ _ => id, [], by simp⟩
    · split
      · exact h.trans ⟨rfl, rfl, rfl, fun _ _ => id, [], by simp⟩
      · split
        · exact kick_tx (queued_tx _ hperiod)
        · exact hperiod

theorem offerChanged_tx (h : TxKept s u) : TxKept s (offerChanged u) := by
  unfold offerChanged
  split
  · exact offerRollcall_tx _ (h.same rfl)
  · exact h

theorem offerAsk_tx (h : TxKept s u) : TxKept s (offerAsk u) := by
  unfold offerAsk
  dsimp only
  split
  · exact sendNormal_tx _ (h.same (by simp))
  · exact sendNormal_tx _ (h.same rfl)

theorem judgeAsk_tx (h : TxKept s u) : TxKept s (judgeAsk u) := by
  unfold judgeAsk
  split
  · split
    · exact offerAsk_tx h
    · exact h
  · exact h.same rfl

theorem pumpZone_tx (l : List Msg) (h : TxKept s u) : TxKept s (pumpZone l u) := by
  induction l generalizing u with
  | nil => exact h.same rfl
  | cons m l ih =>
    unfold pumpZone
    split
    all_goals
      rename_i ho
      obtain rfl := offerNormal_of ho
      have hm := offerNormal_tx m h
    · exact ih (hm.same rfl)
    · exact ih (hm.same rfl)
    · exact hm.same rfl

theorem sendZone_tx (l : List Msg) (h : TxKept s u) : TxKept s (sendZone l u) := by
  unfold sendZone
  split
  · exact h.same rfl
  · exact pumpZone_tx _ h

theorem abandon_tx (r : Reason) (l : List Byte) (h : TxKept s u) : TxKept s (abandon r l u) := by
  have hsent : TxKept s (sendZone [.zoneAbandon (u.zone.proposed.getD 0) r] (dropUnoffered u)) :=
    sendZone_tx _ (h.same rfl)
  exact hsent.same (by simp [abandon])

theorem leaveZoning_tx (h : TxKept s u) : TxKept s (leaveZoning u) := by
  have hfree : TxKept s (freeLock u) := h.same rfl
  unfold leaveZoning
  split
  · unfold refuseSet
    split
    · exact sendZone_tx _ hfree
    · exact hfree
  · split
    · exact h
    · exact abandon_tx _ _ h
  · split
    · exact h
    · exact abandon_tx _ _ h
  all_goals exact h

/-! ## The own entry and the departure -/

/-- What follows the effect of a step leaves as it was: every frame queued, the peers' entries, the current copies
in the retained store, the timers of the station state, and the station itself but for a departure that ends. -/
structure Follows (s t : State) : Prop where
  tx : TxKept s t
  straps : t.st.straps = s.st.straps
  peers : PeersKept s t
  still : s.st.state ≠ .departing → t.st = s.st ∧ t.dep = s.dep ∧ t.zone = s.zone
  state : s.st.state = .departing → t.st.state = .departing ∨ t.st.state = .departed
  silence : t.st.silence = s.st.silence ∧ t.st.silenceArmed = s.st.silenceArmed ∧ t.st.drops = s.st.drops
  joinTimer : s.st.joinTimer = none → t.st.joinTimer = none
  kind : t.dep.kind = s.dep.kind
  timer : s.dep.timer = none → t.dep.timer = none
  zone : s.zone.lock = .free ∨ s.zone.lock = .applying → t.zone = s.zone
  copies : t.store.seat.current = s.store.seat.current ∧ t.store.zoning.current = s.store.zoning.current

theorem Follows.refl (s : State) : Follows s s :=
  ⟨.refl s, rfl, fun _ _ => rfl, fun _ => ⟨rfl, rfl, rfl⟩, .inl, ⟨rfl, rfl, rfl⟩, id, rfl, id, fun _ => rfl, ⟨rfl, rfl⟩⟩

theorem Follows.trans (h : Follows s u) (k : Follows u t) : Follows s t where
  tx := h.tx.trans k.tx
  straps := k.straps.trans h.straps
  peers a ha := by
    have hown : ownAddr u = ownAddr s := by rw [ownAddr, h.straps, ownAddr]
    rw [k.peers a (by rwa [hown]), h.peers a ha]
  still hs := by
    obtain ⟨hst, hdep, hzone⟩ := h.still hs
    obtain ⟨kst, kdep, kzone⟩ := k.still (by rwa [hst])
    exact ⟨kst.trans hst, kdep.trans hdep, kzone.trans hzone⟩
  state hs := by
    obtain hu | hu := h.state hs
    · exact k.state hu
    · exact .inr (by rw [(k.still (by simp [hu])).1, hu])
  silence := ⟨k.silence.1.trans h.silence.1, k.silence.2.1.trans h.silence.2.1, k.silence.2.2.trans h.silence.2.2⟩
  joinTimer := k.joinTimer ∘ h.joinTimer
  kind := k.kind.trans h.kind
  timer := k.timer ∘ h.timer
  zone hs := (k.zone (by rwa [h.zone hs])).trans (h.zone hs)
  copies := ⟨k.copies.1.trans h.copies.1, k.copies.2.trans h.copies.2⟩

/-- `t` differs from `s` in nothing that `Follows` reads. -/
def SameOuter (s t : State) : Prop :=
  t.link = s.link ∧ t.st = s.st ∧ t.dep = s.dep ∧ t.zone = s.zone ∧ t.view.entries = s.view.entries ∧
  t.store.seat.current = s.store.seat.current ∧ t.store.zoning.current = s.store.zoning.current

theorem Follows.same (h : Follows s u) (e : SameOuter u t) : Follows s t := by
  obtain ⟨hlink, hst, hdep, hzone, hentries, hseat, hzoning⟩ := e
  exact h.trans
    { tx := (TxKept.refl u).same hlink
      straps := by rw [hst]
      peers := fun a _ => by rw [entryAt, hentries, entryAt]
      still := fun _ => ⟨hst, hdep, hzone⟩
      state := fun hs => .inl (by rw [hst, hs])
      silence := by rw [hst]; exact ⟨rfl, rfl, rfl⟩
      joinTimer := fun hj => by rw [hst, hj]
      kind := by rw [hdep]
      timer := fun ht => by rw [hdep, ht]
      zone := fun _ => hzone
      copies := ⟨hseat, hzoning⟩ }

theorem Follows.ite {c : Prop} [Decidable c] (ht : Follows s t) (hu : Follows s u) :
    Follows s (if c then t else u) := by
  split
  · exact ht
  · exact hu

/-- An operation on the normal queue alone. -/
theorem Follows.offered (h : Follows s u) (htx : TxKept u t) (hst : t.st = u.st) (hdep : t.dep = u.dep)
    (hzone : t.zone = u.zone) (hentries : t.view.entries = u.view.entries) (hstore : t.store = u.store) : Follows s t :=
  h.trans
    { tx := htx
      straps := by rw [hst]
      peers := fun a _ => by rw [entryAt, hentries, entryAt]
      still := fun _ => ⟨hst, hdep, hzone⟩
      state := fun hs => .inl (by rw [hst, hs])
      silence := by rw [hst]; exact ⟨rfl, rfl, rfl⟩
      joinTimer := fun hj => by rw [hst, hj]
      kind := by rw [hdep]
      timer := fun ht => by rw [hdep, ht]
      zone := fun _ => hzone
      copies := by rw [hstore]; exact ⟨rfl, rfl⟩ }

theorem judgeAsk_follows (h : Follows s u) : Follows s (judgeAsk u) :=
  h.offered (judgeAsk_tx (.refl u)) (by simp) (by simp) (by simp) (by simp) (by simp)

theorem offerChanged_follows (h : Follows s u) : Follows s (offerChanged u) :=
  h.offered (offerChanged_tx (.refl u)) (by simp) (by simp) (by simp) (by simp) (by simp)

theorem setEntry_own_follows (e : Entry) (h : Follows s u) : Follows s (setEntry (ownAddr u) e u) :=
  h.trans
    { (Follows.refl u) with
      tx := (TxKept.refl u).same rfl
      peers := fun a ha => by
        simp only [entryAt, setEntry]
        exact Vector.getElem_set_ne _ _ (fun h => ha (Fin.ext h.symm)) }

theorem noteChange_follows (h : Follows s u) : Follows s (noteChange u) := h.same (by simp [SameOuter])

theorem shedPort_follows {n : Nat} (h : Follows s u) : Follows s (shedPort n u) := h.same (by simp [SameOuter])

theorem compute_follows (h : Follows s u) : Follows s (compute u) := h.same (by simp [SameOuter])

theorem retarget_follows (h : Follows s u) : Follows s (retarget u) := h.same (by simp [SameOuter])

theorem closeWindow_follows (h : Follows s u) : Follows s (closeWindow u) := h.same (by simp [SameOuter])

theorem examineGates_follows (h : Follows s u) : Follows s (examineGates u) := h.same (by simp [SameOuter])

theorem refresh_follows (h : Follows s u) : Follows s (refresh u) := by
  have hblocks : Follows s { u with budget.claim := steadyClaim u, budget.tent := tentative u, view.pull := pulls u } :=
    h.same ⟨rfl, rfl, rfl, rfl, rfl, rfl, rfl⟩
  unfold refresh
  dsimp only
  split
  · exact hblocks
  · split
    · exact hblocks
    · exact noteChange_follows (setEntry_own_follows _ hblocks)

theorem shedAll_follows (fuel : Nat) (h : Follows s u) : Follows s (shedAll fuel u) := by
  induction fuel generalizing u with
  | zero => exact h
  | succ fuel ih =>
    unfold shedAll
    split
    · split
      · exact h
      · exact ih (compute_follows (refresh_follows (shedPort_follows h)))
    · exact h

theorem actUncovered_follows (h : Follows s u) : Follows s (actUncovered u) := by
  have hshed := shedAll_follows (refresh (closeWindow u)).port.recs.length
    (refresh_follows (closeWindow_follows h))
  unfold actUncovered
  split
  · split
    · exact Follows.ite (hshed.same (by simp [SameOuter])) (hshed.same (by simp [SameOuter]))
    · exact h
  all_goals exact h.same (by simp [SameOuter])

theorem reevaluate_follows (h : Follows s u) : Follows s (reevaluate u) := by
  have hcompute : Follows s (compute (refresh u)) := (refresh_follows h).same (by simp [SameOuter])
  have hreport : Follows s (if comparing (compute (refresh u)) then
      reportCoverage (reportRedundancy (compute (refresh u))) else compute (refresh u)) :=
    Follows.ite (hcompute.same (by simp [SameOuter])) hcompute
  unfold reevaluate
  split
  · exact examineGates_follows (Follows.ite (actUncovered_follows hreport) hreport)
  · exact h

theorem propagate_follows (fuel : Nat) (h : Follows s u) : Follows s (propagate fuel u) := by
  induction fuel generalizing u with
  | zero => exact refresh_follows h
  | succ fuel ih =>
    unfold propagate
    dsimp only
    split
    · exact refresh_follows h
    · exact ih (reevaluate_follows (retarget_follows (refresh_follows h)))

theorem handOn_follows (h : Follows s u) : Follows s (handOn u) :=
  propagate_follows _ (Follows.ite (retarget_follows h) h)

/-- A write begins in the copy that is not current (R15). -/
@[simp] theorem begin_current {α : Type} (r : Record α) (c : α) : (r.begin c).current = r.current := by
  unfold Record.begin Record.current Record.toA
  rcases r.a with _ | x <;> rcases r.b with _ | y
  case some.some => by_cases hw : y.writes < x.writes <;> simp [hw]
  all_goals rfl

theorem beginWrites_follows (h : Follows s u) : Follows s (beginWrites u) := by
  refine h.same ?_
  unfold beginWrites
  dsimp only
  split <;> split <;> simp [SameOuter]

/-! ## A departure's progress -/

/-- A move of the departure record of a DEPARTING station that keeps its kind and starts no timer. -/
theorem Follows.departure (h : Follows s u) (hst : t.st = u.st) (hd : u.st.state = .departing)
    (hkind : t.dep.kind = u.dep.kind) (htimer : u.dep.timer = none → t.dep.timer = none) (htx : TxKept u t)
    (hzone : u.zone.lock = .free ∨ u.zone.lock = .applying → t.zone = u.zone)
    (hentries : t.view.entries = u.view.entries)
    (hstore : t.store.seat.current = u.store.seat.current ∧ t.store.zoning.current = u.store.zoning.current) :
    Follows s t := by
  obtain ⟨hseat, hzoning⟩ := hstore
  exact h.trans
    { tx := htx
      straps := by rw [hst]
      peers := fun a _ => by rw [entryAt, hentries, entryAt]
      still := fun hn => absurd hd hn
      state := fun hs => .inl (by rw [hst, hs])
      silence := by rw [hst]; exact ⟨rfl, rfl, rfl⟩
      joinTimer := fun hj => by rw [hst, hj]
      kind := hkind
      timer := htimer
      zone := hzone
      copies := ⟨hseat, hzoning⟩ }

theorem leaveZoning_quiet (h : u.zone.lock = .free ∨ u.zone.lock = .applying) : leaveZoning u = u := by
  obtain h | h := h <;> simp [leaveZoning, h]

/-- Zoning frames taken bring DEPART nearer and move nothing else of the departure (R171). -/
@[simp] theorem pumpZone_dep (l : List Msg) (s : State) :
    (pumpZone l s).dep.kind = s.dep.kind ∧ (pumpZone l s).dep.timer = s.dep.timer ∧
    (pumpZone l s).dep.step = s.dep.step ∧ (pumpZone l s).dep.retry = s.dep.retry ∧
    (pumpZone l s).dep.zoningAsked = s.dep.zoningAsked := by
  induction l generalizing s with
  | nil => simp [pumpZone]
  | cons m l ih =>
    unfold pumpZone
    split <;> (rename_i h; obtain rfl := offerNormal_of h; simp [ih])

@[simp] theorem sendZone_dep (l : List Msg) (s : State) :
    (sendZone l s).dep.kind = s.dep.kind ∧ (sendZone l s).dep.timer = s.dep.timer ∧
    (sendZone l s).dep.step = s.dep.step ∧ (sendZone l s).dep.retry = s.dep.retry ∧
    (sendZone l s).dep.zoningAsked = s.dep.zoningAsked := by
  unfold sendZone
  split <;> simp

@[simp] theorem leaveZoning_dep (s : State) :
    (leaveZoning s).dep.kind = s.dep.kind ∧ (leaveZoning s).dep.timer = s.dep.timer ∧
    (leaveZoning s).dep.step = s.dep.step ∧ (leaveZoning s).dep.retry = s.dep.retry ∧
    (leaveZoning s).dep.zoningAsked = s.dep.zoningAsked := by
  have habandon : (abandon .departing [] s).dep.kind = s.dep.kind ∧ (abandon .departing [] s).dep.timer = s.dep.timer ∧
      (abandon .departing [] s).dep.step = s.dep.step ∧ (abandon .departing [] s).dep.retry = s.dep.retry ∧
      (abandon .departing [] s).dep.zoningAsked = s.dep.zoningAsked := by
    simp [abandon, freeLock, dropUnoffered]
  unfold leaveZoning
  split
  · unfold refuseSet vote
    split <;> simp [freeLock]
  · split
    · simp
    · exact habandon
  · split
    · simp
    · exact habandon
  all_goals simp

@[simp] theorem enterLeaving_dep (s : State) :
    (enterLeaving s).dep.kind = s.dep.kind ∧ (enterLeaving s).dep.timer = s.dep.timer ∧
    (enterLeaving s).dep.retry = s.dep.retry ∧ (enterLeaving s).dep.step = some .departWait := by
  unfold enterLeaving
  dsimp only
  split <;> simp

theorem enterLeaving_zone (h : u.zone.lock = .free ∨ u.zone.lock = .applying) : (enterLeaving u).zone = u.zone := by
  unfold enterLeaving
  dsimp only
  split
  · rw [leaveZoning_quiet h]
  · rfl

theorem enterLeaving_tx (h : TxKept s u) : TxKept s (enterLeaving u) := by
  unfold enterLeaving
  dsimp only
  split
  · exact (leaveZoning_tx h).same rfl
  · exact h.same rfl

theorem enterLeaving_follows (h : Follows s u) (hd : u.st.state = .departing) : Follows s (enterLeaving u) :=
  h.departure (by simp) hd (by simp) (by simp) (enterLeaving_tx (.refl u)) enterLeaving_zone (by simp) (by simp)

theorem giveChunk_follows (h : Follows s u) (hd : u.st.state = .departing) : Follows s (giveChunk u) := by
  have hgive (a : Addr) (n : Nat) : Follows s (makeGive a n none u) := by
    refine h.same ?_
    unfold makeGive
    dsimp only
    split <;> simp [SameOuter, touchSeat, Record.current]
  unfold giveChunk
  split
  · exact h
  · exact Follows.ite (hgive _ _) h

theorem endGift_follows (h : Follows s u) (hd : u.st.state = .departing) : Follows s (endGift u) :=
  Follows.ite (enterLeaving_follows h hd) h

theorem enterGift_follows (h : Follows s u) (hd : u.st.state = .departing) : Follows s (enterGift u) := by
  have hgift : Follows s { u with dep.step := some .gift } :=
    h.departure rfl hd rfl id ((TxKept.refl u).same rfl) (fun _ => rfl) rfl ⟨rfl, rfl⟩
  unfold enterGift
  dsimp only
  split
  · exact enterLeaving_follows hgift hd
  · split
    · exact endGift_follows hgift hd
    · exact endGift_follows (giveChunk_follows hgift hd) (by simpa using hd)

/-- DEPART taken ends the departure (R171). -/
theorem enterDeparted_follows (h : Follows s u) (hd : u.st.state = .departing) : Follows s (enterDeparted u) := by
  refine h.trans
    { tx := (TxKept.refl u).same (by simp)
      straps := by simp
      peers := fun a _ => by simp [entryAt]
      still := fun hn => absurd hd hn
      state := fun _ => .inr ?state
      silence := ?silence
      joinTimer := fun _ => ?join
      kind := ?kind
      timer := fun _ => ?timer
      zone := fun _ => by simp
      copies := by simp }
  all_goals simp [enterDeparted, stopEscrow]

theorem offerDepart_follows (h : Follows s u) (hd : u.st.state = .departing) : Follows s (offerDepart u) := by
  have hahead : Follows s (offerChanged (handOn u)) := offerChanged_follows (handOn_follows h)
  have hoffer : Follows s (offerNormal .depart (offerChanged (handOn u))).1 :=
    hahead.offered (offerNormal_tx _ (.refl _)) (by simp) (by simp) (by simp) (by simp) (by simp)
  have hst : (offerNormal .depart (offerChanged (handOn u))).1.st.state = .departing := by simpa using hd
  unfold offerDepart
  split
  · split
    all_goals
      rename_i ho
      obtain rfl := offerNormal_of ho
    · exact enterDeparted_follows hoffer hst
    · exact hoffer.departure rfl hst rfl id ((TxKept.refl _).same rfl) (fun _ => rfl) rfl ⟨rfl, rfl⟩
    · exact hoffer
  · exact h

theorem departProgress_follows {s0 : State} (h : Follows s u) : Follows s (departProgress s0 u) := by
  unfold departProgress
  split
  case isTrue hd =>
    split
    · exact h
    · exact Follows.ite h (offerDepart_follows (enterGift_follows h hd) (by simpa using hd))
    · refine offerDepart_follows (endGift_follows (Follows.ite (giveChunk_follows h hd) h) ?_) ?_
      · split <;> simpa using hd
      · split <;> simpa using hd
    · exact offerDepart_follows (enterLeaving_follows h hd) (by simpa using hd)
    · exact offerDepart_follows h hd
  case isFalse => exact h

/-- What every step's end leaves as it was. -/
theorem finish_follows (s0 s : State) : Follows s (finish s0 s) := by
  have hask : Follows s (if askEvent s0 s then judgeAsk s else s) := Follows.ite (judgeAsk_follows (.refl s)) (.refl s)
  have hprogress := handOn_follows (departProgress_follows (s0 := s0) hask)
  exact beginWrites_follows (offerChanged_follows
    (Follows.ite (handOn_follows (examineGates_follows hprogress)) hprogress))

/-- Without an event of R115, a step's end moves no frame but the ROLLCALL outside DEPARTING. -/
theorem finish_normal {s0 : State} (hask : askEvent s0 s = false) (h : s.st.state ≠ .departing) :
    withoutRollcall (finish s0 s).link.normal = withoutRollcall s.link.normal := by
  unfold finish
  dsimp only
  simp only [hask, Bool.false_eq_true, if_false, departProgress_of_ne _ _ h]
  split <;> simp

end Sys2Proof.Machine
end

section
/-! PROOF. Settles O17, O42: EJECT judged, and the silence and JOINING timers. -/

namespace Sys2Proof.Machine

open Sys2Proof.Config

variable {s t u : State}

/-! ## What a step leaves aside -/

theorem LinkKept.trans (h : LinkKept s u) (k : LinkKept u t) : LinkKept s t :=
  ⟨k.rx.trans h.rx, k.counters.trans h.counters, k.hold.trans h.hold, k.guard.trans h.guard,
    k.idleFrom.trans h.idleFrom, k.listenFrom.trans h.listenFrom, k.ownUntil.trans h.ownUntil, k.draws.trans h.draws⟩

theorem SenseKept.trans (h : SenseKept s u) (k : SenseKept u t) : SenseKept s t := by
  obtain ⟨hcrit, hclear, hshut⟩ := h.counts
  obtain ⟨kcrit, kclear, kshut⟩ := k.counts
  obtain ⟨hlow, hmeasure, hset⟩ := h.fault
  obtain ⟨klow, kmeasure, kset⟩ := k.fault
  exact ⟨k.readings.trans h.readings, k.hottest.trans h.hottest, k.demand.trans h.demand, k.forced.trans h.forced,
    ⟨kcrit.trans hcrit, kclear.trans hclear, kshut.trans hshut⟩, k.thermal.trans h.thermal, k.rotors.trans h.rotors,
    ⟨k.timers.1.trans h.timers.1, k.timers.2.trans h.timers.2⟩,
    ⟨klow.trans hlow, kmeasure.trans hmeasure, kset.trans hset⟩⟩

theorem PortKept.trans (h : PortKept s u) (k : PortKept u t) : PortKept s t :=
  ⟨k.slot.trans h.slot, k.cursor.trans h.cursor, k.out.trans h.out⟩

theorem DurableKept.trans (h : DurableKept s u) (k : DurableKept u t) : DurableKept s t :=
  ⟨k.settings.trans h.settings, k.straps.trans h.straps, k.active.trans h.active, k.gen.trans h.gen,
    k.lastProposed.trans h.lastProposed, k.draft.trans h.draft, k.receipts.trans h.receipts, k.serial.trans h.serial⟩

theorem SeatsKept.trans (h : SeatsKept s u) (k : SeatsKept u t) : SeatsKept s t :=
  ⟨k.free.trans h.free, k.bound.trans h.bound, k.escrow.trans h.escrow, k.receipts.trans h.receipts,
    k.next.trans h.next, k.serial.trans h.serial, k.answers.trans h.answers⟩

theorem Aside.trans (h : Aside s u) (k : Aside u t) : Aside s t :=
  ⟨h.1.trans k.1, h.2.1.trans k.2.1, h.2.2.1.trans k.2.2.1, h.2.2.2.trans k.2.2.2⟩

/-- Everything that `Aside` reads, as equations. -/
def SameAside (s t : State) : Prop :=
  (t.link.rx = s.link.rx ∧ t.link.counters = s.link.counters ∧ t.link.hold = s.link.hold ∧
    t.link.guard = s.link.guard ∧ t.link.idleFrom = s.link.idleFrom ∧ t.link.listenFrom = s.link.listenFrom ∧
    t.link.ownUntil = s.link.ownUntil ∧ t.draws = s.draws) ∧
  (t.cool.readings = s.cool.readings ∧ t.cool.hottest = s.cool.hottest ∧ t.cool.demand = s.cool.demand ∧
    t.cool.forced = s.cool.forced ∧ t.cool.critCount = s.cool.critCount ∧ t.cool.clearCount = s.cool.clearCount ∧
    t.cool.shutCount = s.cool.shutCount ∧ t.cool.thermal = s.cool.thermal ∧ t.cool.rotors = s.cool.rotors ∧
    t.cool.sampleAt = s.cool.sampleAt ∧ t.cool.checkAt = s.cool.checkAt ∧ t.view.faultLow = s.view.faultLow ∧
    t.view.faultMeasure = s.view.faultMeasure ∧ t.view.faultSet = s.view.faultSet) ∧
  (t.host.slot = s.host.slot ∧ t.host.cursor = s.host.cursor ∧ t.host.out = s.host.out) ∧
  (t.st.settings = s.st.settings ∧ t.st.straps = s.st.straps ∧ t.zone.active = s.zone.active ∧
    t.zone.gen = s.zone.gen ∧ t.zone.lastProposed = s.zone.lastProposed ∧ t.zone.draft = s.zone.draft ∧
    t.seat.receipts = s.seat.receipts ∧ t.seat.serial = s.seat.serial)

theorem SameAside.aside (h : SameAside s t) : Aside s t := by
  obtain ⟨⟨hrx, hcounters, hhold, hguard, hidle, hlisten, hown, hdraws⟩, ⟨hreadings, hhottest, hdemand, hforced, hcrit,
    hclear, hshut, hthermal, hrotors, hsample, hcheck, hlow, hmeasure, hset⟩, ⟨hslot, hcursor, hout⟩, ⟨hsettings,
    hstraps, hactive, hgen, hlast, hdraft, hreceipts, hserial⟩⟩ := h
  exact ⟨⟨hrx, hcounters, hhold, hguard, hidle, hlisten, hown, hdraws⟩,
    ⟨hreadings, hhottest, hdemand, hforced, ⟨hcrit, hclear, hshut⟩, hthermal, hrotors, ⟨hsample, hcheck⟩,
      ⟨hlow, hmeasure, hset⟩⟩, ⟨hslot, hcursor, hout⟩,
    ⟨hsettings, hstraps, hactive, hgen, hlast, hdraft, hreceipts, hserial⟩⟩

theorem finish_link (s0 s : State) : LinkKept s (finish s0 s) := by constructor <;> simp

theorem finish_sense (s0 s : State) : SenseKept s (finish s0 s) := by constructor <;> simp

theorem finish_port (s0 s : State) : PortKept s (finish s0 s) := by constructor <;> simp

theorem finish_durable (s0 s : State) : DurableKept s (finish s0 s) := by constructor <;> simp

/-- Outside DEPARTING a step's end leaves the seat account but for the asking. -/
theorem finish_seats (s0 : State) (h : s.st.state ≠ .departing) : SeatsKept s (finish s0 s) := by
  constructor <;> simp only [finish_frame s0 s h]

theorem finish_aside (s0 s : State) : Aside s (finish s0 s) :=
  ⟨finish_link s0 s, finish_sense s0 s, finish_port s0 s, finish_durable s0 s⟩

theorem reach_aside (d : Nat) (s : State) : Aside s (reach d s) :=
  SameAside.aside (by simp [SameAside])

theorem enterDeparting_aside (c : Cause) (b : Bool) (s : State) : Aside s (enterDeparting c b s) :=
  SameAside.aside (by simp [SameAside])

/-- An orderly departure is held as one, whatever its first step does (R169). -/
theorem enterDeparting_kind (c : Cause) (s : State) : (enterDeparting c false s).dep.kind = .orderly := by
  unfold enterDeparting
  dsimp only
  split
  case isTrue h => simp at h
  case isFalse => split <;> simp

theorem enterDeparting_joinTimer (c : Cause) (b : Bool) (s : State) : (enterDeparting c b s).st.joinTimer = none := by
  unfold enterDeparting
  dsimp only
  split
  · simp
  · split <;> simp

/-- A departure entered in this step is under way or done at its end. -/
theorem departing_finish {s0 : State} (h : u.st.state = .departing) (hk : u.dep.kind = .orderly) :
    ((finish s0 u).st.state = .departing ∨ (finish s0 u).st.state = .departed) ∧ (finish s0 u).dep.kind = .orderly :=
  ⟨(finish_follows s0 u).state h, (finish_follows s0 u).kind.trans hk⟩

/-! ## The return from DEPARTED -/

@[simp] theorem giveReported_account (x : Nat) (s : State) :
    (giveReported x s).seat.receipts = s.seat.receipts ∧ (giveReported x s).seat.serial = s.seat.serial ∧
    (giveReported x s).seat.next = s.seat.next ∧ (giveReported x s).seat.free = s.seat.free ∧
    (giveReported x s).seat.bound = s.seat.bound := by
  unfold giveReported
  split <;> simp [mapEscrow]

@[simp] theorem offerGive_account (x : Nat) (s : State) :
    (offerGive x s).seat.receipts = s.seat.receipts ∧ (offerGive x s).seat.serial = s.seat.serial ∧
    (offerGive x s).seat.next = s.seat.next ∧ (offerGive x s).seat.free = s.seat.free ∧
    (offerGive x s).seat.bound = s.seat.bound := by
  unfold offerGive
  split
  · simp
  · dsimp only
    split
    · simp
    · split
      · simp [mapEscrow]
      · split
        all_goals
          rename_i ho
          obtain rfl := offerNormal_of ho
          simp [mapEscrow]

@[simp] theorem resend_account (e : Escrow) (s : State) :
    (resend s e).seat.receipts = s.seat.receipts ∧ (resend s e).seat.serial = s.seat.serial ∧
    (resend s e).seat.next = s.seat.next ∧ (resend s e).seat.free = s.seat.free ∧
    (resend s e).seat.bound = s.seat.bound := by
  unfold resend offerStored
  split
  · simp
  · split <;> simp [mapEscrow]

@[simp] theorem resendAll_account (s : State) :
    (resendAll s).seat.receipts = s.seat.receipts ∧ (resendAll s).seat.serial = s.seat.serial ∧
    (resendAll s).seat.next = s.seat.next ∧ (resendAll s).seat.free = s.seat.free ∧
    (resendAll s).seat.bound = s.seat.bound :=
  ⟨foldl_same (g := (·.seat.receipts)) (by simp) _ s, foldl_same (g := (·.seat.serial)) (by simp) _ s,
    foldl_same (g := (·.seat.next)) (by simp) _ s, foldl_same (g := (·.seat.free)) (by simp) _ s,
    foldl_same (g := (·.seat.bound)) (by simp) _ s⟩

@[simp] theorem enterJoining_account (c : Cause) (s : State) :
    (enterJoining c s).seat.receipts = s.seat.receipts ∧ (enterJoining c s).seat.serial = s.seat.serial ∧
    (enterJoining c s).view.faultLow = s.view.faultLow ∧ (enterJoining c s).view.faultMeasure = s.view.faultMeasure ∧
    (enterJoining c s).view.faultSet = s.view.faultSet := by
  simp [enterJoining]

theorem rejoin_aside (c : Cause) (s : State) : Aside s (rejoin c s) := by
  unfold rejoin
  dsimp only
  split <;> exact SameAside.aside (by simp [SameAside, silenceUnarmed])

/-- The station leaves DEPARTED for JOINING, or for ISOLATED with a clash held (R13, R173). -/
theorem rejoin_st (c : Cause) (s : State) :
    (rejoin c s).st.state = (if s.st.clash then .isolated else .joining) ∧ (rejoin c s).st.ready = false ∧
    (rejoin c s).dep.kind = .none ∧ (rejoin c s).st.ejectOpen = s.st.ejectOpen ∧
    (rejoin c s).st.ejectMeasure = s.st.ejectMeasure ∧ (rejoin c s).now = s.now := by
  unfold rejoin
  dsimp only
  split <;> simp [silenceUnarmed]

/-! ## EJECT -/

theorem judgedOpen_aside (s : State) : Aside s (judgedOpen s) := by
  have hopen : Aside s { s with st.ejectMeasure := none, st.ejectOpen := true } :=
    SameAside.aside (by simp [SameAside])
  have hmarked : Aside s { s with st.ejectMeasure := none, st.ejectOpen := true, st.pend := .eject } :=
    SameAside.aside (by simp [SameAside])
  unfold judgedOpen
  dsimp only
  split
  · exact hopen.trans (enterDeparting_aside _ _ _)
  · exact hopen.trans (enterDeparting_aside _ _ _)
  · split
    · exact hmarked
    · exact hopen
  all_goals exact hopen

theorem judgedClosed_aside (s : State) : Aside s (judgedClosed s) := by
  have hclosed : Aside s { s with st.ejectMeasure := none, st.ejectOpen := false } :=
    SameAside.aside (by simp [SameAside])
  have hunmarked : Aside s { s with st.ejectMeasure := none, st.ejectOpen := false, st.pend := .none } :=
    SameAside.aside (by simp [SameAside])
  unfold judgedClosed
  dsimp only
  split
  · split
    · exact hunmarked
    · exact hclosed
  · split
    · exact hclosed
    · exact hclosed.trans (rejoin_aside _ _)
  all_goals exact hclosed

theorem judgedOpen_pin (s : State) :
    (judgedOpen s).st.ejectOpen = true ∧ (judgedOpen s).st.ejectMeasure = none ∧ (judgedOpen s).now = s.now := by
  unfold judgedOpen
  dsimp only
  split <;> (try split) <;> simp

theorem judgedClosed_pin (s : State) :
    (judgedClosed s).st.ejectOpen = false ∧ (judgedClosed s).st.ejectMeasure = none ∧
    (judgedClosed s).now = s.now := by
  have hrejoin := rejoin_st .latchClosed { s with st.ejectMeasure := none, st.ejectOpen := false }
  unfold judgedClosed
  dsimp only
  split
  · split <;> simp
  · split
    · simp
    · obtain ⟨-, -, -, hopen, hmeasure, hnow⟩ := hrejoin
      exact ⟨hopen, hmeasure, hnow⟩
  all_goals simp

/-- EJECT judged open, by station state (R10, R13). -/
theorem judgedOpen_st (s : State) :
    (s.st.state = .active ∨ s.st.state = .isolated →
      (judgedOpen s).st.state = .departing ∧ (judgedOpen s).dep.kind = .orderly) ∧
    (s.st.state = .joining → (judgedOpen s).st.state = .joining ∧
      (judgedOpen s).st.pend = if s.st.pend = .none then .eject else s.st.pend) ∧
    (s.st.state = .setup ∨ s.st.state = .departed → (judgedOpen s).st.state = s.st.state) := by
  refine ⟨fun h => ?departs, fun h => ?marks, fun h => ?stays⟩
  case departs =>
    obtain h | h := h <;> simp [judgedOpen, h, enterDeparting_kind, (enterDeparting_st _ _ _).1]
  case marks =>
    simp only [judgedOpen, h]
    split <;> simp [h]
  case stays => obtain h | h := h <;> simp [judgedOpen, h]

/-- EJECT judged closed, by station state (R10, R13). -/
theorem judgedClosed_st (s : State) :
    (s.st.state = .joining → (judgedClosed s).st.state = .joining ∧
      (judgedClosed s).st.pend = if s.st.pend = .eject then .none else s.st.pend) ∧
    (s.st.state = .departed → (judgedClosed s).st.state =
      if s.cool.thermal = .shutdown then .departed else if s.st.clash then .isolated else .joining) ∧
    (s.st.state = .setup ∨ s.st.state = .active ∨ s.st.state = .isolated →
      (judgedClosed s).st.state = s.st.state) := by
  refine ⟨fun h => ?unmarks, fun h => ?returns, fun h => ?stays⟩
  case unmarks =>
    simp only [judgedClosed, h]
    split <;> simp [h]
  case returns =>
    simp only [judgedClosed, h]
    split
    · rfl
    · exact (rejoin_st _ _).1
  case stays => obtain h | h | h := h <;> simp [judgedClosed, h]

/-- Settles O17: the judgement by station state; a step's end moves the station only along a departure. -/
theorem ejectJudged : Obligations.EjectJudged := by
  unfold Obligations.EjectJudged
  intro s d hd
  have hreach := reach_aside d s
  refine ⟨fun hpin => ?opened, fun hpin => ?closed⟩
  case opened =>
    obtain ⟨hopen, hmeasure, hnow⟩ := judgedOpen_pin (reach d s)
    obtain ⟨hdeparts, hmarks, hstays⟩ := judgedOpen_st (reach d s)
    have hfollows := finish_follows (reach d s) (judgedOpen (reach d s))
    refine ⟨finish (reach d s) (judgedOpen (reach d s)),
      by simp [exec, execEjectJudgedOpen, hpin, expiryStep, hd, stepOf],
      by simp [hnow], hreach.trans ((judgedOpen_aside _).trans (finish_aside _ _)), by simp [hopen], by simp [hmeasure],
      fun h => ?_, fun h => ?_, fun h => ?_⟩
    · obtain ⟨hst, hkind⟩ := hdeparts (by simpa using h)
      exact departing_finish hst hkind
    · obtain ⟨hst, hpend⟩ := hmarks (by simpa using h)
      rw [(hfollows.still (by simp [hst])).1]
      exact ⟨hst, by simpa using hpend⟩
    · have hst := hstays (by simpa using h)
      have hs : (reach d s).st.state = s.st.state := by simp
      rw [(hfollows.still (by rw [hst, hs]; obtain h | h := h <;> simp [h])).1, hst, hs]
  case closed =>
    obtain ⟨hopen, hmeasure, hnow⟩ := judgedClosed_pin (reach d s)
    obtain ⟨hunmarks, hreturns, hstays⟩ := judgedClosed_st (reach d s)
    have hfollows := finish_follows (reach d s) (judgedClosed (reach d s))
    refine ⟨finish (reach d s) (judgedClosed (reach d s)),
      by simp [exec, execEjectJudgedClosed, hpin, expiryStep, hd, stepOf], by simp [hnow],
      hreach.trans ((judgedClosed_aside _).trans (finish_aside _ _)), by simp [hopen], by simp [hmeasure],
      fun h => ?_, fun h => ?_, fun h => ?_⟩
    · obtain ⟨hst, hpend⟩ := hunmarks (by simpa using h)
      rw [(hfollows.still (by simp [hst])).1]
      exact ⟨hst, by simpa using hpend⟩
    · have hst := hreturns (by simpa using h)
      have hne : (judgedClosed (reach d s)).st.state ≠ .departing := by
        rw [hst]
        split
        · simp
        · split <;> simp
      rw [(hfollows.still hne).1]
      simpa using hst
    · have hst := hstays (by simpa using h)
      have hs : (reach d s).st.state = s.st.state := by simp
      rw [(hfollows.still (by rw [hst, hs]; obtain h | h | h := h <;> simp [h])).1, hst, hs]

/-! ## The silence and JOINING timers -/

theorem isolate_aside (c : Cause) (s : State) : Aside s (isolate c s) := by
  unfold isolate
  split
  · exact SameAside.aside (by simp [SameAside])
  · exact SameAside.aside (by simp [SameAside])
  all_goals exact SameAside.aside (by simp [SameAside])

/-- An isolation trigger acts in JOINING and ACTIVE alone (R11). -/
theorem isolate_state (c : Cause) (s : State) : (isolate c s).st.state =
    if s.st.state = .joining ∨ s.st.state = .active then .isolated else s.st.state := by
  unfold isolate
  split <;> simp [*]

@[simp] theorem isolate_silence (c : Cause) (s : State) : (isolate c s).st.silence = s.st.silence := by
  unfold isolate
  split <;> simp

theorem silenceExpired_aside (s : State) : Aside s (silenceExpired s) := by
  have hstopped : Aside s { s with st.silence := none, st.silenceArmed := false } :=
    SameAside.aside (by simp [SameAside])
  unfold silenceExpired
  dsimp only
  split
  · exact hstopped.trans (isolate_aside _ _)
  · exact hstopped

theorem silenceExpired_st (s : State) : (silenceExpired s).st.silence = none ∧
    (silenceExpired s).now = s.now ∧ (silenceExpired s).st.state =
      if s.st.silenceArmed = true ∧ (s.st.state = .joining ∨ s.st.state = .active) then .isolated else s.st.state := by
  unfold silenceExpired
  dsimp only
  split
  case isTrue h => simp [h, isolate_state]
  case isFalse h => simp [h]

@[simp] theorem judgeEscrow_account (e : Escrow) (s : State) :
    (judgeEscrow s e).seat.receipts = s.seat.receipts ∧ (judgeEscrow s e).seat.serial = s.seat.serial := by
  unfold judgeEscrow offerStored
  split
  · split
    · split <;> simp [mapEscrow]
    · simp
  · split <;> simp [mapEscrow]

@[simp] theorem judgeAllEscrow_account (s : State) :
    (judgeAllEscrow s).seat.receipts = s.seat.receipts ∧ (judgeAllEscrow s).seat.serial = s.seat.serial :=
  ⟨foldl_same (g := (·.seat.receipts)) (by simp) _ s, foldl_same (g := (·.seat.serial)) (by simp) _ s⟩

theorem joiningOver_aside (s : State) : Aside s (joiningOver s) := by
  unfold joiningOver
  split
  · exact SameAside.aside (by simp [SameAside, enterActive])
  · exact enterDeparting_aside _ _ _
  · exact enterDeparting_aside _ _ _

/-- The end of JOINING (R10). -/
theorem joiningOver_st (s : State) : (joiningOver s).now = s.now ∧ (joiningOver s).st.joinTimer = none ∧
    (s.st.pend = .none → (joiningOver s).st.state = .active) ∧
    (s.st.pend ≠ .none → (joiningOver s).st.state = .departing ∧ (joiningOver s).dep.kind = .orderly) := by
  unfold joiningOver
  split
  case h_1 h => simp [h, enterActive]
  case h_2 h => simp [h, enterDeparting_kind, (enterDeparting_st _ _ _).1, enterDeparting_joinTimer]
  case h_3 h => simp [h, enterDeparting_kind, (enterDeparting_st _ _ _).1, enterDeparting_joinTimer]

/-- Settles O42. -/
theorem lifeTimersEnd : Obligations.LifeTimersEnd := by
  unfold Obligations.LifeTimersEnd
  intro s d
  have hreach := reach_aside d s
  refine ⟨fun hd => ?silence, fun hj hd => ?joining⟩
  case silence =>
    obtain ⟨hsilence, hnow, hst⟩ := silenceExpired_st (reach d s)
    have hfollows := finish_follows (reach d s) (silenceExpired (reach d s))
    refine ⟨finish (reach d s) (silenceExpired (reach d s)),
      by simp [exec, execSilenceTimerExpire, expiryStep, hd, stepOf],
      by simp [hnow], hreach.trans ((silenceExpired_aside _).trans (finish_aside _ _)),
      by rw [hfollows.silence.1, hsilence],
      fun ha hs => ?_, fun ha hs => ?_⟩
    · have hiso : (silenceExpired (reach d s)).st.state = .isolated := by
        rw [hst]
        exact if_pos (by simpa [ha] using hs)
      rw [(hfollows.still (by simp [hiso])).1, hiso]
    · have hstays : (silenceExpired (reach d s)).st.state = s.st.state := by
        rw [hst]
        simp [ha]
      rw [(hfollows.still (by rwa [hstays])).1, hstays]
  case joining =>
    obtain ⟨hnow, hjoin, hactive, hdeparts⟩ := joiningOver_st (reach d s)
    have hfollows := finish_follows (reach d s) (joiningOver (reach d s))
    refine ⟨finish (reach d s) (joiningOver (reach d s)),
      by simp [exec, execJoiningTimerExpire, expiryStep, during, hj, hd, stepOf], by simp [hnow],
      hreach.trans ((joiningOver_aside _).trans (finish_aside _ _)), hfollows.joinTimer hjoin, fun hp => ?_,
      fun hp => ?_⟩
    · have hst := hactive (by simpa using hp)
      rw [(hfollows.still (by simp [hst])).1, hst]
    · obtain ⟨hst, hkind⟩ := hdeparts (by simpa using hp)
      exact departing_finish hst hkind

end Sys2Proof.Machine
end

section
/-! PROOF. Settles O50: SET. With the facts about host transactions and about the claim at a step's end. -/

namespace Sys2Proof.Machine

open Sys2Proof.Config

variable {s t u : State}

/-! ## A transaction that carries a command -/

/-- The status byte is shifted out and the slot is BUSY with the command's tag (R174). -/
def taken (tag : Byte) (s : State) : State := { shiftStatus s with host.slot := .busy tag }

@[simp] theorem taken_frame (tag : Byte) (s : State) :
    (taken tag s).now = s.now ∧ (taken tag s).draws = s.draws ∧ (taken tag s).announce = s.announce ∧
    (taken tag s).st = s.st ∧ (taken tag s).store = s.store ∧ (taken tag s).link = s.link ∧
    (taken tag s).view = s.view ∧ (taken tag s).budget = s.budget ∧ (taken tag s).cool = s.cool ∧
    (taken tag s).sup = s.sup ∧ (taken tag s).seat = s.seat ∧ (taken tag s).port = s.port ∧
    (taken tag s).zone = s.zone ∧ (taken tag s).filt = s.filt ∧ (taken tag s).dep = s.dep ∧
    (taken tag s).pending = s.pending ∧ (taken tag s).host.notices = s.host.notices ∧
    (taken tag s).host.slot = .busy tag ∧ (taken tag s).host.out = [statusByte s] ∧
    (taken tag s).host.cursor = s.host.cursor := by
  simp [taken, shiftStatus]

/-- A command of good envelope is judged on the state with its slot BUSY (R174). -/
theorem transact_taken {len : Nat} {judge : List Byte → State → State} {tag l : Byte} {p : List Byte} (h : Judges s)
    (hl : l.toNat = p.length) (hlen : p.length = len) :
    transact len judge (tag :: l :: p) s = .next (finish (taken tag s) (judge p (taken tag s))) := by
  have hslot : ∀ g, s.host.slot ≠ .busy g := h.2
  unfold transact transactWith
  dsimp only
  rw [if_neg h.1]
  cases hs : s.host.slot with
  | busy g => exact absurd hs (hslot g)
  | idle => exact if_pos ⟨hl, hl.trans hlen⟩
  | reply r => exact if_pos ⟨hl, hl.trans hlen⟩

/-- The reply stands at the end of the step that gave it. -/
theorem finish_replied {s0 : State} {st : Status} {tag : Byte} {d : List Byte}
    (hslot : u.host.slot = .reply { status := st, tag, data := d }) (hout : u.host.out = [statusByte s]) :
    Replied s (finish s0 u) st tag d := ⟨by simpa using hslot, by simpa using hout⟩

@[simp] theorem answer_taken (st : Status) (d : List Byte) (tag : Byte) (s : State) :
    (answer st d (taken tag s)).host.slot = .reply { status := st, tag, data := d } := rfl

/-! ## The claim and the ports at a step's end -/

theorem refresh_claim (s : State) : (refresh s).budget.claim = steadyClaim (refresh s) := by
  have hbase : (refresh s).budget.claim = steadyClaim s := by
    unfold refresh
    dsimp only
    split
    · rfl
    · split <;> simp
  rw [hbase]
  simp [steadyClaim, role, portWeight, okRotors]

theorem propagate_claim (fuel : Nat) (s : State) :
    (propagate fuel s).budget.claim = steadyClaim (propagate fuel s) := by
  induction fuel generalizing s with
  | zero => exact refresh_claim s
  | succ fuel ih =>
    unfold propagate
    dsimp only
    split
    · exact refresh_claim s
    · exact ih _

theorem handOn_claim (s : State) : (handOn s).budget.claim = steadyClaim (handOn s) := propagate_claim _ _

/-- The ask of a step that began at `s0`. -/
def asked (s0 s : State) : State := if askEvent s0 s then judgeAsk s else s

/-- The step up to the hand-on of its own entry's changes. -/
def handed (s0 s : State) : State := handOn (departProgress s0 (asked s0 s))

theorem finish_eq (s0 s : State) : finish s0 s = beginWrites (offerChanged
    (if gateEvent s0 (handed s0 s) then handOn (examineGates (handed s0 s)) else handed s0 s)) := rfl

@[simp] theorem asked_frame (s0 s : State) : (asked s0 s).st = s.st ∧ (asked s0 s).port = s.port := by
  unfold asked
  split <;> simp

/-- The own entry is followed last, but for the ROLLCALL and the store writes it begins. -/
theorem finish_handOn (s0 s : State) : ∃ v, finish s0 s = beginWrites (offerChanged (handOn v)) := by
  rw [finish_eq]
  split
  · exact ⟨_, rfl⟩
  · exact ⟨departProgress s0 (asked s0 s), rfl⟩

/-- The claim stands as the station's role and blocks give it at the end of every step (R63 to R66). -/
theorem finish_claim (s0 s : State) : (finish s0 s).budget.claim = steadyClaim (finish s0 s) := by
  obtain ⟨v, hv⟩ := finish_handOn s0 s
  have hclaim := handOn_claim v
  rw [hv]
  simpa [steadyClaim, role, portWeight, okRotors] using hclaim

/-- Where no re-evaluation is made, what follows the own entry leaves the ports. -/
theorem propagate_port (fuel : Nat) (h : evaluating s = false) : (propagate fuel s).port = s.port := by
  induction fuel generalizing s with
  | zero => simp [propagate]
  | succ fuel ih =>
    have hre : reevaluate (retarget (refresh s)) = retarget (refresh s) := by
      simp only [evaluating] at h ⊢
      simp [reevaluate, evaluating, h]
    unfold propagate
    dsimp only
    split
    · simp
    · rw [hre, ih (by simpa [evaluating] using h)]
      simp

theorem handOn_port (h : evaluating s = false) : (handOn s).port = s.port := by
  unfold handOn
  split
  · rw [propagate_port _ (by simpa [evaluating] using h)]
    simp
  · exact propagate_port _ h

/-- In SETUP the end of a step leaves the ports. -/
theorem finish_port_of_setup {s0 : State} (h : s.st.state = .setup) : (finish s0 s).port = s.port := by
  have hand (v : State) (hv : v.st = s.st) : (handOn v).port = v.port :=
    handOn_port (by simp [evaluating, hv, h])
  have hhanded : (handed s0 s).st = s.st ∧ (handed s0 s).port = s.port := by
    unfold handed
    rw [departProgress_of_ne _ _ (by simp [h]), hand _ (by simp)]
    simp
  obtain ⟨hst, hport⟩ := hhanded
  rw [finish_eq]
  split
  · simp [hand (examineGates (handed s0 s)) (by simpa using hst), hport]
  · simp [hport]

/-! ## Arithmetic of the settings -/

/-- Rounding up a quotient of naturals (R63, R82). -/
theorem ceilDiv_eq_ceil (a b : Nat) (hb : 0 < b) : ((ceilDiv a b : Nat) : Int) = ⌈(a : Rat) / b⌉ := by
  have hlow : ceilDiv a b * b ≤ a + b - 1 := Nat.div_mul_le_self _ _
  have hhigh : a + b - 1 < (ceilDiv a b + 1) * b := by
    have := Nat.lt_mul_div_succ (a + b - 1) hb
    rwa [Nat.mul_comm] at this
  have hb' : (0 : Rat) < b := by exact_mod_cast hb
  symm
  rw [Int.ceil_eq_iff, lt_div_iff₀ hb', div_le_iff₀ hb']
  constructor
  · have h : ceilDiv a b * b < a + b := by omega
    have : ((ceilDiv a b : Nat) : Rat) * b < a + b := by exact_mod_cast h
    push_cast
    linarith
  · have h : a ≤ ceilDiv a b * b := by
      rw [Nat.add_mul] at hhigh
      omega
    exact_mod_cast h

theorem write_some_iff (p q : Settings) (n : Nat) (v : Int) : p.write n v = some q ↔
    (n = 1 ∧ -10 ≤ v ∧ v ≤ 60 ∧ v + 5 ≤ p.tHigh ∧ q = { p with tLow := v }) ∨
    (n = 2 ∧ p.tLow + 5 ≤ v ∧ v ≤ 100 ∧ q = { p with tHigh := v }) ∨
    (n = 3 ∧ 40 ≤ v ∧ v ≤ 110 ∧ v + 5 ≤ p.tShut ∧ q = { p with tCrit := v }) ∨
    (n = 4 ∧ p.tCrit + 5 ≤ v ∧ v ≤ 125 ∧ q = { p with tShut := v }) ∨
    (n = 5 ∧ ∃ w : Nat, v = w ∧ w ≤ 500 ∧ q = { p with base := w }) ∨
    (n = 6 ∧ ∃ w : Nat, v = w ∧ w ≤ 4096 ∧ q = { p with reserve := w }) ∨
    (n = 7 ∧ ((v = 1 ∧ q = { p with giveOnDepart := true }) ∨ (v = 0 ∧ q = { p with giveOnDepart := false }))) ∨
    (n = 8 ∧ ∃ w : Nat, v = w ∧ w ≤ 10 ∧ q = { p with intMin := w }) := by
  have hnat {b : Nat} {f : Nat → Settings} : (0 ≤ v ∧ v ≤ b) ∧ f v.toNat = q ↔
      ∃ w : Nat, v = w ∧ w ≤ b ∧ q = f w := by
    constructor
    · rintro ⟨⟨h0, hb⟩, rfl⟩
      exact ⟨v.toNat, by omega, by omega, rfl⟩
    · rintro ⟨w, rfl, hw, rfl⟩
      exact ⟨by omega, by rw [Int.toNat_natCast]⟩
  have hset {c : Prop} [Decidable c] {r : Settings} : (if c then some r else none) = some q ↔ c ∧ q = r := by
    split <;> simp [*, eq_comm]
  unfold Settings.write
  split
  case h_1 =>
    have hgap : v + 4 < p.tHigh ↔ v + 5 ≤ p.tHigh := by omega
    simp [hset, hgap, and_assoc]
  case h_5 => simpa using hnat (b := 500) (f := fun w => { p with base := w })
  case h_6 => simpa using hnat (b := 4096) (f := fun w => { p with reserve := w })
  case h_7 =>
    rw [hset]
    constructor
    · rintro ⟨rfl | rfl, rfl⟩ <;> simp
    · rintro h
      obtain ⟨rfl, rfl⟩ | ⟨rfl, rfl⟩ : (v = 1 ∧ q = { p with giveOnDepart := true }) ∨
        (v = 0 ∧ q = { p with giveOnDepart := false }) := by simpa using h
      · simp
      · simp
  case h_8 => simpa using hnat (b := 10) (f := fun w => { p with intMin := w })
  case h_9 => simp_all
  all_goals simp [hset, and_assoc]

theorem signed16_eq (hi lo : Byte) : signed16 [hi, lo] =
    if 256 * hi.toNat + lo.toNat < 32768 then (256 * hi.toNat + lo.toNat : Int)
    else (256 * hi.toNat + lo.toNat : Int) - 65536 := by
  have hhi := hi.isLt
  have hlo := lo.isLt
  have hnat : beNat [hi, lo] = 256 * hi.toNat + lo.toNat := by simp [beNat]
  simp only [signed16, beInt16, hnat, BitVec.toInt, BitVec.toNat_ofNat]
  split <;> split <;> omega

theorem settingApplies_iff (n : Nat) (r : Role) : settingApplies n r = true ↔
    (n = 5 → r = .line ∨ r = .supervisor) ∧ (n = 6 → r = .line) ∧ (n = 7 → r = .line) := by
  unfold settingApplies
  split <;> simp_all

/-- The demand's table (R82). -/
theorem demandOf_is (p : Settings) (b : Bool) (h : Option Int) : DemandIs p b h (demandOf p b h) := by
  refine ⟨fun hf => by simp [demandOf, hf], fun hf hn => by simp [demandOf, hf, hn],
    fun T hf hT hle => by simp [demandOf, hf, hT, hle], fun T hf hT hlt hge => ?high, fun T hf hT hlt hhi => ?between⟩
  case high => simp [demandOf, hf, hT, hge, not_le.mpr hlt]
  case between =>
    have hnum : ((70 * (T - p.tLow)).toNat : Int) = 70 * (T - p.tLow) := Int.toNat_of_nonneg (by omega)
    have hden : ((p.tHigh - p.tLow).toNat : Int) = p.tHigh - p.tLow := Int.toNat_of_nonneg (by omega)
    have hceil := ceilDiv_eq_ceil (70 * (T - p.tLow)).toNat (p.tHigh - p.tLow).toNat (by omega)
    simp only [demandOf, hf, hT, Bool.false_eq_true, if_false, if_neg (not_le.mpr hlt), if_neg (not_le.mpr hhi)]
    have hnumR : (((70 * (T - p.tLow)).toNat : Nat) : Rat) = ((70 * (T - p.tLow) : Int) : Rat) := by exact_mod_cast hnum
    have hdenR : (((p.tHigh - p.tLow).toNat : Nat) : Rat) = ((p.tHigh - p.tLow : Int) : Rat) := by exact_mod_cast hden
    rw [Nat.cast_add, hceil, hnumR, hdenR]
    rfl

/-! ## SET -/

theorem portWeight_eq (s : State) : portWeight s = portTenths s := by
  have hport (p : Port) : p.weight = (p.req.map (·.draw)).getD 0 * match p.state with
      | .lighting => 3 | .lit => 1 | .dimming => 1 | .dark => 0 | .queued => 0 | .shed => 0 := by
    unfold Port.weight
    cases p.req <;> cases p.state <;> simp [Nat.mul_comm]
  unfold portWeight portTenths
  exact congrArg List.sum (List.map_congr_left fun p _ => hport p)

@[simp] theorem settingWritten_frame (n : Nat) (s : State) :
    (settingWritten n s).now = s.now ∧ (settingWritten n s).draws = s.draws ∧ (settingWritten n s).st = s.st ∧
    (settingWritten n s).link = s.link ∧ (settingWritten n s).sup = s.sup ∧ (settingWritten n s).seat = s.seat ∧
    (settingWritten n s).port = s.port ∧ (settingWritten n s).zone = s.zone ∧
    (settingWritten n s).host = s.host := by
  unfold settingWritten
  split <;> simp [updateDemand]

/-- What a SET of value in range makes of the state on which it is judged (R7). -/
def setDone (n : Nat) (q : Settings) (s : State) : State := reply .ok [] (settingWritten n { s with st.settings := q })

theorem judgeSet_of_setup {n hi lo : Byte} (h : s.st.state = .setup)
    (ha : settingApplies n.toNat (role s) = true) : judgeSet [n, hi, lo] s =
      match s.st.settings.write n.toNat (signed16 [hi, lo]) with
      | none => refuse .range s
      | some q => setDone n.toNat q s := by
  have hn : fieldAt [n, hi, lo] 0 1 = n.toNat := by simp [fieldAt, beNat]
  unfold judgeSet
  dsimp only
  rw [hn, if_neg (not_not.mpr h), if_neg (by simp [ha])]
  rfl

/-- A SET taken, at the end of its step: what depends on the setting is recomputed (R66, R82, R84). -/
theorem setDone_finish {s0 : State} {n : Byte} {q : Settings} {tag : Byte} (h : s.st.state = .setup)
    (hset : (finish s0 (setDone n.toNat q (taken tag s))).st = { s.st with settings := q }) :
    (n = 1#8 ∨ n = 2#8 → DemandIs q s.cool.forced s.cool.hottest
      (finish s0 (setDone n.toNat q (taken tag s))).cool.demand) ∧
    (n = 3#8 → (finish s0 (setDone n.toNat q (taken tag s))).cool.critCount = 0 ∧
      (finish s0 (setDone n.toNat q (taken tag s))).cool.clearCount = 0 ∧
      (finish s0 (setDone n.toNat q (taken tag s))).cool.shutCount = s.cool.shutCount) ∧
    (n = 4#8 → (finish s0 (setDone n.toNat q (taken tag s))).cool.shutCount = 0 ∧
      (finish s0 (setDone n.toNat q (taken tag s))).cool.critCount = s.cool.critCount ∧
      (finish s0 (setDone n.toNat q (taken tag s))).cool.clearCount = s.cool.clearCount) ∧
    (role s = .supervisor → (finish s0 (setDone n.toNat q (taken tag s))).budget.claim = q.base) ∧
    (role s = .line → ((finish s0 (setDone n.toNat q (taken tag s))).budget.claim : Int) =
      q.base + ⌈(portTenths s : Rat) / 10⌉) := by
  have hrole : role (finish s0 (setDone n.toNat q (taken tag s))) = role s := by rw [role, hset, role]
  refine ⟨fun hn => ?demand, fun hn => ?crit, fun hn => ?shut, fun hr => ?supervisor, fun hr => ?line⟩
  case demand =>
    have hd := demandOf_is q s.cool.forced s.cool.hottest
    obtain rfl | rfl := hn <;> simpa [setDone, settingWritten, updateDemand, reply] using hd
  case crit => subst hn; simp [setDone, settingWritten, reply]
  case shut => subst hn; simp [setDone, settingWritten, reply]
  case supervisor => rw [finish_claim, steadyClaim, hrole, hr, hset]
  case line =>
    have hport : (finish s0 (setDone n.toNat q (taken tag s))).port = s.port := by
      rw [finish_port_of_setup (by simpa [setDone, reply] using h)]
      simp [setDone, reply]
    have hweight : portWeight (finish s0 (setDone n.toNat q (taken tag s))) = portTenths s := by
      rw [← portWeight_eq, portWeight, hport, portWeight]
    have hceil := ceilDiv_eq_ceil (portTenths s) 10 (by omega)
    rw [finish_claim, steadyClaim, hrole, hr, hset]
    simp only [lineClaim, hweight, Nat.cast_add, hceil]
    rfl

end Sys2Proof.Machine

namespace Sys2Proof.Proofs

open Sys2Proof.Config Sys2Proof.Machine

/-- Settles O50: the ranges and the arithmetic, then the transaction; the claim follows at the step's end. -/
theorem settingWritten : Obligations.SettingWritten := by
  unfold Obligations.SettingWritten
  refine ⟨settingApplies_iff, signed16_eq, write_some_iff, fun s tag n hi lo hj => ?_⟩
  have htaken := transact_taken (len := 3) (judge := judgeSet) (tag := tag) (l := 3#8) (p := [n, hi, lo]) hj rfl rfl
  have hsetup (h : s.st.state = .setup) : (taken tag s).st.state = .setup := by simpa using h
  refine ⟨fun h => ?wrongState, fun h ha => ?wrongRole, fun h ha hw => ?range, fun q h ha hw => ?ok⟩
  case wrongState =>
    have hjudge : judgeSet [n, hi, lo] (taken tag s) = refuse .wrongState (taken tag s) := if_pos (by simpa using h)
    rw [hjudge] at htaken
    exact ⟨_, htaken, finish_replied rfl (by simp [refuse]), by simp [refuse]⟩
  case wrongRole =>
    have hn : fieldAt [n, hi, lo] 0 1 = n.toNat := by simp [fieldAt, beNat]
    have hjudge : judgeSet [n, hi, lo] (taken tag s) = refuse .wrongRole (taken tag s) := by
      unfold judgeSet
      dsimp only
      rw [hn, if_neg (not_not.mpr (hsetup h)), if_pos (by simpa [role] using ha)]
    rw [hjudge] at htaken
    have hst := ((finish_follows (taken tag s) (refuse .wrongRole (taken tag s))).still (by simp [refuse, h])).1
    exact ⟨_, htaken, finish_replied rfl (by simp [refuse]), by rw [hst]; simp [refuse]⟩
  case range =>
    have hjudge : judgeSet [n, hi, lo] (taken tag s) = refuse .range (taken tag s) := by
      rw [judgeSet_of_setup (hsetup h) (by simpa [role] using ha)]
      simp [hw]
    rw [hjudge] at htaken
    have hst := ((finish_follows (taken tag s) (refuse .range (taken tag s))).still (by simp [refuse, h])).1
    exact ⟨_, htaken, finish_replied rfl (by simp [refuse]), by rw [hst]; simp [refuse]⟩
  case ok =>
    have hjudge : judgeSet [n, hi, lo] (taken tag s) = setDone n.toNat q (taken tag s) := by
      rw [judgeSet_of_setup (hsetup h) (by simpa [role] using ha)]
      simp [hw]
    rw [hjudge] at htaken
    have hne : (setDone n.toNat q (taken tag s)).st.state ≠ .departing := by simp [setDone, reply, h]
    obtain ⟨-, -, hst, hsup, hzone, -⟩ := finish_frame (taken tag s) _ hne
    have hset : (finish (taken tag s) (setDone n.toNat q (taken tag s))).st = { s.st with settings := q } := by
      rw [hst]
      simp [setDone, reply]
    obtain ⟨hdemand, hcrit, hshut, hsuper, hline⟩ := setDone_finish h hset
    refine ⟨_, htaken, finish_replied ?slot (by simp [setDone, reply]), hset, by simp [setDone, reply], ?link, ?seats,
      by rw [hzone]; simp [setDone, reply], by rw [hsup]; simp [setDone, reply], hdemand, hcrit, hshut,
      fun _ hr => hsuper hr, fun _ hr => hline hr⟩
    case slot => simp [setDone, reply, answer]
    case link => constructor <;> simp [setDone, reply]
    case seats =>
      have htake : SeatsKept s (setDone n.toNat q (taken tag s)) := by constructor <;> simp [setDone, reply]
      exact htake.trans (finish_seats _ hne)

end Sys2Proof.Proofs
end

section
/-! PROOF. Settles O20: the thermal state after a sample, and SHUTDOWN entered by it. -/

namespace Sys2Proof.Machine

open Sys2Proof.Config

variable {s t u : State}

/-! ## The judgement -/

/-- The thermal state by the counts (R85). -/
theorem judgeThermal_thermal (s : State) : (judgeThermal s).cool.critCount = s.cool.critCount ∧
    (judgeThermal s).cool.clearCount = s.cool.clearCount ∧ (judgeThermal s).cool.shutCount = s.cool.shutCount ∧
    (judgeThermal s).cool.thermal = (match s.cool.thermal with
      | .shutdown => Thermal.shutdown
      | .normal => if s.cool.critCount = 8 then (if s.cool.shutCount = 8 then .shutdown else .critical) else .normal
      | .critical => if s.cool.shutCount = 8 then .shutdown
          else if s.cool.clearCount = 8 then .normal else .critical) := by
  unfold judgeThermal
  split
  case h_1 h => simp [h]
  case h_2 h =>
    dsimp only
    split
    · split <;> simp [*]
    · simp [*]
  case h_3 h =>
    split
    · simp [*]
    · split <;> simp [*]

@[simp] theorem sampleJudged_frame (r : Sensors) (s : State) :
    (sampleJudged r s).now = s.now ∧ (sampleJudged r s).st = s.st ∧ (sampleJudged r s).link = s.link ∧
    (sampleJudged r s).dep = s.dep := by
  simp [sampleJudged, updateCounts]

/-- The counts and the thermal state are those of the judgement at the end of the sample (R84, R85). -/
theorem takeSample_cool (r : Sensors) (s : State) :
    (takeSample r s).cool.critCount = (sampleJudged r s).cool.critCount ∧
    (takeSample r s).cool.clearCount = (sampleJudged r s).cool.clearCount ∧
    (takeSample r s).cool.shutCount = (sampleJudged r s).cool.shutCount ∧
    (takeSample r s).cool.thermal = (sampleJudged r s).cool.thermal := by
  have hentered : (sampleEntered r s).cool.critCount = (sampleJudged r s).cool.critCount ∧
      (sampleEntered r s).cool.clearCount = (sampleJudged r s).cool.clearCount ∧
      (sampleEntered r s).cool.shutCount = (sampleJudged r s).cool.shutCount ∧
      (sampleEntered r s).cool.thermal = (sampleJudged r s).cool.thermal := by
    unfold sampleEntered
    split <;> simp
  rw [takeSample_eq]
  split <;> simpa using hentered

/-- What the sample does after the entry into SHUTDOWN moves neither the station, its departure nor the link. -/
theorem takeSample_outer (r : Sensors) (s : State) : (takeSample r s).st = (sampleEntered r s).st ∧
    (takeSample r s).dep = (sampleEntered r s).dep ∧ (takeSample r s).link = (sampleEntered r s).link := by
  rw [takeSample_eq]
  split <;> simp

/-! ## SHUTDOWN entered -/

/-- SHUTDOWN departs the station (R13, R87). -/
theorem enterShutdown_state (h : s.st.state ≠ .reset) :
    (enterShutdown s).st.state = .departing ∨ (enterShutdown s).st.state = .departed := by
  have hst : (shutdownRole s).st.state = s.st.state := by simp
  unfold enterShutdown
  dsimp only
  split
  · exact .inl (enterDeparting_st _ _ _).1
  · exact .inl (enterDeparting_st _ _ _).1
  · exact .inl (enterDeparting_st _ _ _).1
  case h_4 hd =>
    split
    · exact .inl (by simpa using hd)
    · exact .inl hd
  · exact .inr (by simp)
  case h_6 hd => exact .inr hd
  case h_7 hr => exact absurd (hst ▸ hr) h

/-- SHUTDOWN drives PWROFF on every role but FAN (R87). -/
theorem enterShutdown_pwroff (h : role s ≠ .fan) : (enterShutdown s).st.pwroff = true := by
  have hdriven := shutdownRole_pwroff h
  unfold enterShutdown
  dsimp only
  split
  · simpa using hdriven
  · simpa using hdriven
  · simpa using hdriven
  · split
    · simpa using hdriven
    · exact hdriven
  all_goals simpa using hdriven

@[simp] theorem shutdownRole_normal (s : State) : (shutdownRole s).link.normal = s.link.normal := by
  have hdrop (v : State) : (sendDrop v).link.normal = v.link.normal := by
    unfold sendDrop offerUrgent
    split <;> simp
  unfold shutdownRole
  split <;> simp [supplyShutdown, hdrop]

/-- An orderly departure becomes forced (R172). -/
theorem enterShutdown_orderly (h : s.st.state = .departing) (hk : s.dep.kind = .orderly) :
    (enterShutdown s).dep.kind = .forced ∧ (enterShutdown s).dep.timer = none := by
  have hst : (shutdownRole s).st.state = .departing := by simpa using h
  have hkind : (shutdownRole s).dep.kind = .orderly := by simpa using hk
  unfold enterShutdown
  simp only [hst, hkind, if_true]
  unfold forceDeparture
  dsimp only
  split <;> split <;> simp

/-- A departure forced already goes on as it stands (R172). -/
theorem enterShutdown_forced (h : s.st.state = .departing) (hk : s.dep.kind = .forced) :
    enterShutdown s = shutdownRole s := by
  unfold enterShutdown
  simp [h, hk]

/-- While DEPART waits for room, a step's end leaves the departure and moves no frame but the ROLLCALL (R171). -/
theorem finish_waiting {s0 : State} (h : s.st.state = .departing) (hstep : s.dep.step = some .departWait)
    (hretry : s.dep.retry ≠ none) : (finish s0 s).st = s.st ∧ (finish s0 s).dep = s.dep ∧
      withoutRollcall (finish s0 s).link.normal = withoutRollcall s.link.normal := by
  have hasked : (asked s0 s).dep = s.dep ∧ (asked s0 s).link = s.link := by
    unfold asked judgeAsk
    have hshort : isShort s = false := by simp [isShort, h]
    rw [hshort]
    split <;> simp
  obtain ⟨hdep, hlink⟩ := hasked
  have hstill : departProgress s0 (asked s0 s) = asked s0 s := by
    have hst : (asked s0 s).st.state = .departing := by simpa using h
    have hr : (asked s0 s).dep.retry ≠ none := by rwa [hdep]
    simp [departProgress, hst, hdep, hstep, offerDepart, hretry]
  have hhanded : (handed s0 s).st = s.st ∧ (handed s0 s).dep = s.dep ∧ (handed s0 s).link = s.link := by
    unfold handed
    rw [hstill]
    simp [hdep, hlink]
  obtain ⟨kst, kdep, klink⟩ := hhanded
  rw [finish_eq]
  split <;> simp [kst, kdep, klink]

/-- Settles O20: the judgement is the sample's, and nothing after it moves the thermal state. -/
theorem thermalStateJudged : Obligations.ThermalStateJudged := by
  unfold Obligations.ThermalStateJudged
  intro r s t d hs hd hexec
  have ht : t = finish (reach d s) (takeSample r (reach d s)) := by
    have hstep : exec (.sensorSample r) s = stepOf (takeSample r) (reach d s) := by
      simp [exec, execSensorSample, during, hs, hd, expiryStep]
    rw [hstep] at hexec
    exact (Host.Outcome.next.inj hexec).symm
  obtain ⟨hcrit, hclear, hshut, hthermal⟩ := takeSample_cool r (reach d s)
  have hfollows := finish_follows (reach d s) (takeSample r (reach d s))
  have hcool : t.cool.critCount = (sampleJudged r (reach d s)).cool.critCount ∧
      t.cool.clearCount = (sampleJudged r (reach d s)).cool.clearCount ∧
      t.cool.shutCount = (sampleJudged r (reach d s)).cool.shutCount ∧
      t.cool.thermal = (sampleJudged r (reach d s)).cool.thermal := by
    rw [ht]
    simp [hcrit, hclear, hshut, hthermal]
  obtain ⟨tcrit, tclear, tshut, tthermal⟩ := hcool
  constructor
  · obtain ⟨jcrit, jclear, jshut, jthermal⟩ := judgeThermal_thermal
      (updateCounts (takeReadings r { reach d s with cool.sampleAt := some ((reach d s).now + ms 250) }))
    have hread : (updateCounts (takeReadings r { reach d s with
        cool.sampleAt := some ((reach d s).now + ms 250) })).cool.thermal = s.cool.thermal := by
      simpa using (sampleRead_keeps r (reach d s)).thermal
    rw [tthermal, tcrit, tclear, tshut]
    unfold sampleJudged
    rw [jcrit, jclear, jshut, jthermal, hread] <;> rfl
  · intro hwas hnow
    have hentered : sampleEntered r (reach d s) = enterShutdown (sampleJudged r (reach d s)) :=
      if_pos ⟨by rw [← tthermal, hnow], by simpa using hwas⟩
    obtain ⟨ost, odep, olink⟩ := takeSample_outer r (reach d s)
    rw [hentered] at ost odep olink
    have hrs : (sampleJudged r (reach d s)).st.state ≠ .reset := by simpa using hs
    refine ⟨?state, fun hr => ?pwroff, fun hdep hk => ?orderly, fun hdep hk hstep hretry => ?forced⟩
    case state =>
      obtain h | h := enterShutdown_state hrs
      · have hu : (takeSample r (reach d s)).st.state = .departing := by rw [ost, h]
        exact ht ▸ hfollows.state hu
      · have hu : (takeSample r (reach d s)).st.state = .departed := by rw [ost, h]
        exact .inr (by rw [ht, (hfollows.still (by simp [hu])).1, hu])
    case pwroff =>
      have hrole : role (sampleJudged r (reach d s)) = role s := by simp [role]
      rw [ht]
      simp only [finish_always]
      rw [ost]
      exact enterShutdown_pwroff (by rwa [hrole])
    case orderly =>
      obtain ⟨hkind, htimer⟩ := enterShutdown_orderly (s := sampleJudged r (reach d s)) (by simpa using hdep)
        (by simpa using hk)
      rw [ht]
      exact ⟨by rw [hfollows.kind, odep, hkind], hfollows.timer (by rw [odep, htimer])⟩
    case forced =>
      have hforced := enterShutdown_forced (s := sampleJudged r (reach d s)) (by simpa using hdep) (by simpa using hk)
      rw [hforced] at ost odep olink
      have hst : (takeSample r (reach d s)).st.state = .departing := by rw [ost]; simpa using hdep
      have hd' : (takeSample r (reach d s)).dep = s.dep := by rw [odep]; simp
      obtain ⟨kst, kdep, knormal⟩ := finish_waiting (s0 := reach d s) hst (by rw [hd', hstep]) (by rwa [hd'])
      rw [ht]
      exact ⟨by rw [kst, hst], by rw [kdep, hd'], by rw [knormal, olink]; simp⟩

end Sys2Proof.Machine
end

section
/-! PROOF. Settles O33: a valid frame received, and the address clash. -/

namespace Sys2Proof.Machine

open Sys2Proof.Config

variable {s t u : State}

/-! ## What the link's events leave aside -/

/-- The sensing, the module port and the durable items. -/
def RestKept (s t : State) : Prop := SenseKept s t ∧ PortKept s t ∧ DurableKept s t

/-- Everything that `RestKept` reads, as equations. -/
def SameRest (s t : State) : Prop :=
  (t.cool.readings = s.cool.readings ∧ t.cool.hottest = s.cool.hottest ∧ t.cool.demand = s.cool.demand ∧
    t.cool.forced = s.cool.forced ∧ t.cool.critCount = s.cool.critCount ∧ t.cool.clearCount = s.cool.clearCount ∧
    t.cool.shutCount = s.cool.shutCount ∧ t.cool.thermal = s.cool.thermal ∧ t.cool.rotors = s.cool.rotors ∧
    t.cool.sampleAt = s.cool.sampleAt ∧ t.cool.checkAt = s.cool.checkAt ∧ t.view.faultLow = s.view.faultLow ∧
    t.view.faultMeasure = s.view.faultMeasure ∧ t.view.faultSet = s.view.faultSet) ∧
  (t.host.slot = s.host.slot ∧ t.host.cursor = s.host.cursor ∧ t.host.out = s.host.out) ∧
  (t.st.settings = s.st.settings ∧ t.st.straps = s.st.straps ∧ t.zone.active = s.zone.active ∧
    t.zone.gen = s.zone.gen ∧ t.zone.lastProposed = s.zone.lastProposed ∧ t.zone.draft = s.zone.draft ∧
    t.seat.receipts = s.seat.receipts ∧ t.seat.serial = s.seat.serial)

theorem SameRest.rest (h : SameRest s t) : RestKept s t := by
  obtain ⟨⟨hreadings, hhottest, hdemand, hforced, hcrit, hclear, hshut, hthermal, hrotors, hsample, hcheck, hlow,
    hmeasure, hset⟩, ⟨hslot, hcursor, hout⟩, ⟨hsettings, hstraps, hactive, hgen, hlast, hdraft, hreceipts,
    hserial⟩⟩ := h
  exact ⟨⟨hreadings, hhottest, hdemand, hforced, ⟨hcrit, hclear, hshut⟩, hthermal, hrotors, ⟨hsample, hcheck⟩,
    ⟨hlow, hmeasure, hset⟩⟩, ⟨hslot, hcursor, hout⟩,
    ⟨hsettings, hstraps, hactive, hgen, hlast, hdraft, hreceipts, hserial⟩⟩

theorem RestKept.trans (h : RestKept s u) (k : RestKept u t) : RestKept s t :=
  ⟨h.1.trans k.1, h.2.1.trans k.2.1, h.2.2.trans k.2.2⟩

theorem Aside.rest (h : Aside s t) : RestKept s t := h.2

theorem finish_rest (s0 s : State) : RestKept s (finish s0 s) := (finish_aside s0 s).rest

/-! ## Entries -/

/-- An entry whose age begins anew at `now`; an EMPTY one stays EMPTY (R46). -/
def heardAt (now : Nat) : Entry → Entry
  | .empty => .empty
  | .known p _ f => .known p now f

theorem entryAt_refreshAge (a b : Addr) (s : State) : entryAt (refreshAge a s) b =
    if b = a then heardAt s.now (entryAt s a) else entryAt s b := by
  cases he : entryAt s a with
  | empty =>
    by_cases hb : b = a
    · subst hb
      simp [refreshAge, he, heardAt]
    · simp [refreshAge, he, hb]
  | known p h f =>
    have heard : refreshAge a s = setEntry a (.known p s.now f) s := by simp [refreshAge, he]
    by_cases hb : b = a
    · subst hb
      rw [if_pos rfl, heard]
      simp [heardAt, entryAt, setEntry]
    · rw [if_neg hb, heard]
      simp only [entryAt, setEntry]
      exact Vector.getElem_set_ne _ _ (fun h => hb (Fin.ext h.symm))

theorem enterJoining_peers (c : Cause) (s : State) : PeersKept s (enterJoining c s) := by
  intro a ha
  have hreev := (reevaluate_follows (.refl (updateGoodRun (enableOutput
    (changeState .joining c { s with st.drops := 0 }))))).peers a (by simpa [ownAddr] using ha)
  unfold enterJoining
  rw [hreev]
  simp [entryAt]

/-- Some peer is PRESENT (R11). -/
theorem anyPeerPresent_iff (s : State) : anyPeerPresent s = true ↔
    ∃ a h f, a ≠ ownAddr s ∧ entryAt s a = .known .present h f := by
  have hpresent (e : Entry) : e.isPresent = true ↔ ∃ h f, e = .known .present h f := by
    cases e <;> simp [Entry.isPresent, Entry.presence?]
  simp only [anyPeerPresent, peers, List.any_filter, List.any_eq_true, List.mem_finRange, true_and, Bool.and_eq_true,
    decide_eq_true_eq, hpresent]
  exact ⟨fun ⟨a, ha, h, f, he⟩ => ⟨a, h, f, ha, he⟩, fun ⟨a, h, f, ha, he⟩ => ⟨a, ha, h, f, he⟩⟩

/-! ## A peer heard (R11, R12, R46) -/

@[simp] theorem peerHeard_frame (a : Addr) (s : State) :
    (peerHeard a s).now = s.now ∧ (peerHeard a s).link = s.link ∧ (peerHeard a s).st.straps = s.st.straps ∧
    (peerHeard a s).st.silence = some (s.now + ms 2000) ∧
    (peerHeard a s).st.silenceArmed = anyPeerPresent (refreshAge a s) := by
  unfold peerHeard
  dsimp only
  split <;> simp

theorem peerHeard_rest (a : Addr) (s : State) : RestKept s (peerHeard a s) := by
  unfold peerHeard
  dsimp only
  split <;> exact SameRest.rest (by simp [SameRest])

theorem peerHeard_state (a : Addr) (s : State) : (peerHeard a s).st.state =
    if s.st.state = .isolated ∧ s.st.clash = false then .joining else s.st.state := by
  unfold peerHeard
  dsimp only
  split
  case isTrue h =>
    rw [if_pos (by simpa using h)]
    simp
  case isFalse h =>
    rw [if_neg (by simpa using h)]
    simp

theorem peerHeard_entry (a b : Addr) (hb : b ≠ ownAddr s) : entryAt (peerHeard a s) b = entryAt (refreshAge a s) b := by
  unfold peerHeard
  dsimp only
  split
  · exact enterJoining_peers _ _ b (by simpa [ownAddr] using hb)
  · rfl

/-! ## Delivery (R35, R36, R39) -/

@[simp] theorem callHold_link (s : State) :
    (callHold s).link.rx = s.link.rx ∧ (callHold s).link.counters = s.link.counters := by
  unfold callHold
  split
  · split <;> (obtain rfl := offerUrgent_of _ _ _ _ ‹_›; simp)
  · simp

@[simp] theorem offerReceived_frame (f : RxFrame) (s : State) :
    (offerReceived f s).now = s.now ∧ (offerReceived f s).st = s.st ∧ (offerReceived f s).view = s.view := by
  unfold offerReceived
  split <;> simp

theorem offerReceived_rest (f : RxFrame) (s : State) : RestKept s (offerReceived f s) := by
  unfold offerReceived
  split <;> exact SameRest.rest (by simp [SameRest])

@[simp] theorem takeHold_link (n : Nat) (s : State) : (takeHold n s).link.rx = s.link.rx ∧
    (takeHold n s).link.counters = { s.link.counters with
      received := bump s.link.counters.received, holdsReceived := bump s.link.counters.holdsReceived } ∧
    (takeHold n s).link.hold = if holdLoad n = 0 then none else some (s.now - endRun + ms (holdLoad n)) := by
  simp [takeHold]

@[simp] theorem deliver_frame (d : Nat) (a : Addr) (c : Nat) (p : List Byte) (s : State) :
    (deliver d a c p s).now = s.now ∧ (deliver d a c p s).st = s.st ∧ (deliver d a c p s).view = s.view := by
  unfold deliver
  split
  · simp
  · split
    · simp
    · split
      · split <;> simp
      · simp

theorem deliver_rest (d : Nat) (a : Addr) (c : Nat) (p : List Byte) (s : State) : RestKept s (deliver d a c p s) := by
  have hsame : RestKept s s := SameRest.rest (by simp [SameRest])
  unfold deliver
  split
  · exact hsame
  · split
    · exact SameRest.rest (by simp [SameRest])
    · split
      · split
        · exact SameRest.rest (by simp [SameRest])
        · exact offerReceived_rest _ _
      · exact SameRest.rest (by simp [SameRest])

/-- Where a frame to this station or to all goes (R35, R36, R39). -/
theorem deliver_cases (d : Nat) (a : Addr) (c : Nat) (p : List Byte) (s : State) :
    (d ≠ (ownAddr s).val → d ≠ 0x3F → deliver d a c p s = s) ∧
    (d = (ownAddr s).val ∨ d = 0x3F →
      ((∀ k, Kind.ofCode c = some k → lengthOk k p = false) →
        deliver d a c p s = { s with link.counters.unknownKind := bump s.link.counters.unknownKind }) ∧
      ∀ k, Kind.ofCode c = some k → lengthOk k p = true → deliver d a c p s =
        if k = .hold then takeHold (fieldAt p 0 1) s else offerReceived { src := a, kind := k, payload := p } s) := by
  refine ⟨fun h hall => if_pos ⟨h, hall⟩, fun h => ?_⟩
  have hours : ¬(d ≠ (ownAddr s).val ∧ d ≠ allByte) := fun ⟨h1, h2⟩ => h.elim h1 h2
  unfold deliver
  rw [if_neg hours]
  constructor
  · intro hbad
    split
    · rfl
    case h_2 k hk => rw [hbad k hk]; rfl
  · intro k hk hok
    simp [hk, hok]

/-! ## The end of a line activity -/

/-- The state on which an activity is judged: its last bit lies a closing run back (R19). -/
def lineEnded (bits : List Bool) (lead : Nat) (s : State) : State := lineIdle (reach (activityEnd bits lead s) s)

@[simp] theorem lineEnded_frame (bits : List Bool) (lead : Nat) (s : State) :
    (lineEnded bits lead s).now = max s.now (s.now + (bits.length + 8 - lead)) ∧ (lineEnded bits lead s).st = s.st ∧
    (lineEnded bits lead s).view = s.view ∧ (lineEnded bits lead s).link.rx = s.link.rx ∧
    (lineEnded bits lead s).link.counters = s.link.counters ∧ (lineEnded bits lead s).host = s.host := by
  simp [lineEnded, lineIdle, activityEnd, endRun]

theorem lineEnded_rest (bits : List Bool) (lead : Nat) (s : State) : RestKept s (lineEnded bits lead s) :=
  SameRest.rest (by simp [SameRest]; simp [lineEnded, lineIdle])

theorem execLineActivityEnd_of_taken {bits : List Bool} {lead : Nat} (hrec : receiving s = true)
    (hdis : discards bits lead s = false) : exec (.lineActivityEnd bits lead) s = .next (finish (lineEnded bits lead s)
      (receive (judgeActivity (activityBytes bits)) (lineEnded bits lead s))) := by
  simp [exec, execLineActivityEnd, hrec, hdis, stepOf, lineEnded]

/-- The entries after a frame of a peer: its own age starts again, no other changes (R46). -/
theorem heard_entry {w v s0 : State} {src a : Addr} (ha : a ≠ ownAddr w) (hview : v.view = (peerHeard src w).view)
    (hown : ownAddr v = ownAddr w) : entryAt (finish s0 v) a = entryAt (refreshAge src w) a := by
  rw [(finish_follows s0 v).peers a (by rwa [hown]), entryAt, hview]
  exact peerHeard_entry src a ha

/-- A frame of a peer is heard and delivered; `heard` is what the hearing leaves (R11, R35). -/
def heard (src : Addr) (bits : List Bool) (lead : Nat) (s : State) : State := peerHeard src (lineEnded bits lead s)

@[simp] theorem heard_frame (src : Addr) (bits : List Bool) (lead : Nat) (s : State) :
    (heard src bits lead s).now = max s.now (s.now + (bits.length + 8 - lead)) ∧
    (heard src bits lead s).link.rx = s.link.rx ∧ (heard src bits lead s).link.counters = s.link.counters ∧
    ownAddr (heard src bits lead s) = ownAddr s := by
  simp [heard, ownAddr]

theorem execLineActivityEnd_of_peer {bits : List Bool} {lead : Nat} {dest code : Nat} {src : Addr} {payload : List Byte}
    (hrec : receiving s = true) (hdis : discards bits lead s = false)
    (hvalid : judgeActivity (activityBytes bits) = .valid dest src code payload) (hsrc : src ≠ ownAddr s) :
    exec (.lineActivityEnd bits lead) s = .next (finish (lineEnded bits lead s)
      (deliver dest src code payload (heard src bits lead s))) := by
  have hown : src ≠ ownAddr (lineEnded bits lead s) := by simpa [ownAddr] using hsrc
  rw [execLineActivityEnd_of_taken hrec hdis, hvalid, receive, if_neg hown, heard]

/-- The age refreshed by a frame of its sender (R46). -/
theorem heard_entries {src : Addr} {bits : List Bool} {lead : Nat} {v s0 : State} {a : Addr} (ha : a ≠ ownAddr s)
    (hview : v.view = (heard src bits lead s).view) (hown : ownAddr v = ownAddr s) :
    entryAt (finish s0 v) a = if a = src then
      heardAt (max s.now (s.now + (bits.length + 8 - lead))) (entryAt s src) else entryAt s a := by
  have hw (b : Addr) : entryAt (lineEnded bits lead s) b = entryAt s b := by simp [entryAt]
  have hpeer := peerHeard_entry (s := lineEnded bits lead s) src a (by simpa [ownAddr] using ha)
  have hkept := (finish_follows s0 v).peers a (by rwa [hown])
  rw [hkept, entryAt, hview]
  refine (hpeer.trans (entryAt_refreshAge src a _)).trans ?_
  rw [hw, hw, (lineEnded_frame bits lead s).1]

theorem anyPeerPresent_congr (hown : ownAddr u = ownAddr s)
    (h : ∀ a, (entryAt u a).isPresent = (entryAt s a).isPresent) : anyPeerPresent u = anyPeerPresent s := by
  unfold anyPeerPresent peers
  rw [hown]
  simp only [h]

/-- Whether the silence timer is armed, by the entries before the frame (R11). -/
theorem anyPeerPresent_refreshAge (src : Addr) (s : State) :
    anyPeerPresent (refreshAge src s) = anyPeerPresent s := by
  have hpresent (a : Addr) : (entryAt (refreshAge src s) a).isPresent = (entryAt s a).isPresent := by
    rw [entryAt_refreshAge]
    by_cases ha : a = src
    · subst ha
      rw [if_pos rfl]
      cases entryAt s a <;> simp [Entry.isPresent, Entry.presence?, heardAt]
    · rw [if_neg ha]
  exact anyPeerPresent_congr (by simp [ownAddr]) hpresent

/-- The hold counter loaded by a HOLD whose length lies within 1 to 50 (R39). -/
theorem takeHold_hold {n : Nat} (h1 : 1 ≤ n) (h50 : n ≤ 50) :
    (takeHold n s).link.hold = some (s.now - 8 + ms n) := by
  have hload : holdLoad n = n := if_pos ⟨h1, h50⟩
  rw [(takeHold_link n s).2.2, hload, if_neg (by omega), endRun]

/-! ## An address clash (R12) -/

theorem raise_length (k : NoticeKind) (n : Nat) (d : List Byte) (s : State) :
    (raise k n d s).host.notices.length ≤ s.host.notices.length + 1 := by
  unfold raise
  split <;> simp

/-- A transition raises STATE-CHANGED and nothing else. -/
theorem changeState_notices (t : StationState) (c : Cause) (s : State) :
    (changeState t c s).host.notices.length ≤ s.host.notices.length + 1 := by
  unfold changeState
  dsimp only
  split
  · simp only [updateGoodRun_frame, updateForcing_frame]
    exact raise_length _ _ _ _
  · simp only [updateGoodRun_frame, updateForcing_frame, stopAsking, closeWindow_frame]
    exact raise_length _ _ _ _

theorem isolate_notices (c : Cause) (s : State) :
    (isolate c s).host.notices.length ≤ s.host.notices.length + 1 := by
  unfold isolate
  split
  · exact changeState_notices _ _ _
  · exact changeState_notices _ _ _
  all_goals exact Nat.le_succ _

theorem isolate_entries (c : Cause) (s : State) : (isolate c s).view.entries = s.view.entries := by
  unfold isolate
  split <;> simp

/-- A notice raised with room stands in the queue. -/
theorem raise_mem {k : NoticeKind} {n : Nat} {d : List Byte} (h : s.host.notices.length < noticeCap) :
    ∃ y ∈ (raise k n d s).host.notices, y.kind = k ∧ y.subject = n ∧ y.detail = d.take 24 :=
  ⟨_, by rw [raise_of_room h]; exact List.mem_append_right _ (List.mem_singleton.mpr rfl), rfl, rfl, rfl⟩

theorem raiseOwn_rest (k : NoticeKind) (d : List Byte) (s : State) : RestKept s (raiseOwn k d s) :=
  SameRest.rest (by simp [SameRest])

theorem addressClash_rest (s : State) : RestKept s (addressClash s) := by
  have hclash : RestKept s { s with st.clash := true } := SameRest.rest (by simp [SameRest])
  unfold addressClash
  split
  · exact SameRest.rest (by simp [SameRest])
  · have hisolated : RestKept s (isolate .addressClash { s with st.clash := true }) :=
      hclash.trans (isolate_aside _ _).rest
    exact hisolated.trans (raiseOwn_rest _ _ _)

theorem addressClash_frame (s : State) :
    (addressClash s).link = s.link ∧ (addressClash s).view.entries = s.view.entries ∧
    (addressClash s).st.straps = s.st.straps ∧ (addressClash s).st.silence = s.st.silence ∧
    (addressClash s).st.clash = true ∧ (addressClash s).st.state =
      if s.st.clash = false ∧ (s.st.state = .joining ∨ s.st.state = .active) then .isolated else s.st.state := by
  unfold addressClash
  split
  case isTrue h => simp [h]
  case isFalse h => simp [h, isolate_state, isolate_entries]

/-- A frame of a peer, received. -/
theorem received_of_peer {bits : List Bool} {lead : Nat} {dest code : Nat} {src : Addr} {payload : List Byte}
    {t : State} (ht : t = finish (lineEnded bits lead s) (deliver dest src code payload (heard src bits lead s))) :
    (dest ≠ (ownAddr s).val → dest ≠ 0x3F → t.link.rx = s.link.rx ∧ t.link.counters = s.link.counters) ∧
    (dest = (ownAddr s).val ∨ dest = 0x3F →
      ((∀ k, Kind.ofCode code = some k → lengthOk k payload = false) → t.link.rx = s.link.rx ∧
        t.link.counters = { s.link.counters with unknownKind := min 65535 (s.link.counters.unknownKind + 1) }) ∧
      (∀ k, Kind.ofCode code = some k → lengthOk k payload = true →
        (k ≠ .hold → s.link.rx.length < receiveCap →
          t.link.rx = s.link.rx ++ [{ src := src, kind := k, payload := payload }] ∧
          t.link.counters = { s.link.counters with received := min 65535 (s.link.counters.received + 1) }) ∧
        (k ≠ .hold → receiveCap ≤ s.link.rx.length → t.link.rx = s.link.rx ∧
          t.link.counters = { s.link.counters with overrun := min 65535 (s.link.counters.overrun + 1) }) ∧
        (k = .hold → t.link.rx = s.link.rx ∧ t.link.counters = { s.link.counters with
          received := min 65535 (s.link.counters.received + 1),
          holdsReceived := min 65535 (s.link.counters.holdsReceived + 1) }) ∧
        (k = .hold → 1 ≤ fieldAt payload 0 1 → fieldAt payload 0 1 ≤ 50 →
          t.link.hold = some (t.now - 8 + ms (fieldAt payload 0 1))))) := by
  subst ht
  obtain ⟨hother, hours⟩ := deliver_cases dest src code payload (heard src bits lead s)
  rw [(heard_frame src bits lead s).2.2.2] at hother hours
  refine ⟨fun hd hall => ?other, fun hd => ⟨fun hbad => ?bad, fun k hk hok => ?good⟩⟩
  case other => rw [hother hd hall]; simp
  case bad => rw [(hours hd).1 hbad]; simp [bump]
  case good =>
    rw [(hours hd).2 k hk hok]
    refine ⟨fun hne hroom => ?joins, fun hne hfull => ?overruns, fun he => ?hold, fun he h1 h50 => ?load⟩
    case joins => simp [hne, offerReceived, hroom, bump]
    case overruns => simp [hne, offerReceived, not_lt.mpr hfull, bump]
    case hold => simp [he, bump]
    case load =>
      rw [if_pos he]
      simp only [finish_always]
      rw [takeHold_hold h1 h50]
      simp

/-- Settles O33: the peer is heard, then the frame is delivered; a clash isolates the station. -/
theorem validFrameReceived : Obligations.ValidFrameReceived := by
  unfold Obligations.ValidFrameReceived
  intro bits lead s dest code src payload hrec hdis hvalid
  have hended := lineEnded_rest bits lead s
  refine ⟨fun hsrc => ?peer, fun hsrc => ?clash⟩
  case peer =>
    have hexec := execLineActivityEnd_of_peer hrec hdis hvalid hsrc
    have hfollows := finish_follows (lineEnded bits lead s) (deliver dest src code payload (heard src bits lead s))
    have hrest := ((hended.trans (peerHeard_rest src _)).trans (deliver_rest dest src code payload _)).trans
      (finish_rest (lineEnded bits lead s) _)
    have hentry (a : Addr) (ha : a ≠ ownAddr s) := heard_entries (src := src) (bits := bits) (lead := lead)
      (v := deliver dest src code payload (heard src bits lead s)) (s0 := lineEnded bits lead s) ha (by simp)
      (by simp [ownAddr, heard])
    obtain ⟨hother, hours⟩ := received_of_peer (s := s) (bits := bits) (lead := lead) (dest := dest) (code := code)
      (src := src) (payload := payload) rfl
    refine ⟨_, hexec, by simp, by rw [hfollows.silence.1]; simp [heard], ?armed, hrest.1, hrest.2.1, hrest.2.2,
      fun hiso hclash => ?joins, fun he => ?empty, fun p h f he => ?age, fun a ha hne => ?others, hother, hours⟩
    case armed =>
      rw [hfollows.silence.2.1]
      have harmed : (deliver dest src code payload (heard src bits lead s)).st.silenceArmed = anyPeerPresent s := by
        rw [(deliver_frame ..).2.1, heard, (peerHeard_frame src _).2.2.2.2, anyPeerPresent_refreshAge]
        exact anyPeerPresent_congr (by simp [ownAddr]) (by simp [entryAt])
      rw [harmed]
      exact anyPeerPresent_iff s
    case joins =>
      have hst : (deliver dest src code payload (heard src bits lead s)).st.state = .joining := by
        rw [(deliver_frame ..).2.1, heard, peerHeard_state, if_pos (by simpa using ⟨hiso, hclash⟩)]
      rw [(hfollows.still (by rw [hst]; decide)).1, hst]
    case empty => rw [hentry src hsrc, if_pos rfl, he, heardAt]
    case age => rw [hentry src hsrc, if_pos rfl, he]; simp [heardAt]
    case others => rw [hentry a ha, if_neg hne]
  case clash =>
    obtain ⟨hlink, hview, hstraps, hsilence, hclash, hstate⟩ := addressClash_frame (lineEnded bits lead s)
    have hfollows := finish_follows (lineEnded bits lead s) (addressClash (lineEnded bits lead s))
    have hrest := (hended.trans (addressClash_rest _)).trans (finish_rest (lineEnded bits lead s) _)
    have hexec : exec (.lineActivityEnd bits lead) s =
        .next (finish (lineEnded bits lead s) (addressClash (lineEnded bits lead s))) := by
      rw [execLineActivityEnd_of_taken hrec hdis, hvalid, receive, if_pos (by simpa [ownAddr] using hsrc)]
    refine ⟨_, hexec, by simp [hclash], by rw [hfollows.silence.1, hsilence]; simp, hrest.1, hrest.2.1, hrest.2.2,
      fun a ha => ?peers, by simp [hlink], by simp [hlink], fun hc => ⟨fun hs => ?isolates, fun hroom => ?notice⟩,
      fun hs hne => ?stays⟩
    case peers =>
      rw [hfollows.peers a (by simpa [ownAddr, hstraps] using ha), entryAt, hview]
      simp [entryAt]
    case isolates =>
      have hst : (addressClash (lineEnded bits lead s)).st.state = .isolated := by
        rw [hstate]
        exact if_pos (by simpa using ⟨hc, hs⟩)
      rw [(hfollows.still (by simp [hst])).1, hst]
    case notice =>
      have hlen := isolate_notices .addressClash { lineEnded bits lead s with st.clash := true }
      obtain ⟨y, hy, hkind, hsubject, -⟩ := raise_mem (k := .addressClash)
        (n := (ownAddr (isolate .addressClash { lineEnded bits lead s with st.clash := true })).val) (d := [])
        (s := isolate .addressClash { lineEnded bits lead s with st.clash := true })
        (hlen.trans_lt (by simpa using hroom))
      have hraised : addressClash (lineEnded bits lead s) =
          raiseOwn .addressClash [] (isolate .addressClash { lineEnded bits lead s with st.clash := true }) :=
        if_neg (by simp [hc])
      have hin : y ∈ (addressClash (lineEnded bits lead s)).host.notices := by rw [hraised]; exact hy
      exact ⟨y, (finish_keeps (Keeps.refl _)).notices.subset hin, hkind, by rw [hsubject]; simp [ownAddr]⟩
    case stays =>
      have hst : (addressClash (lineEnded bits lead s)).st.state = s.st.state := by
        rw [hstate]
        refine (if_neg ?_).trans (by simp)
        obtain h | h | h := hs <;> simp [h]
      rw [(hfollows.still (by rwa [hst])).1, hst]

end Sys2Proof.Machine
end

section
/-! PROOF. Settles O35, O36: the end of a jam, and a frame sent whole. -/

namespace Sys2Proof.Machine

open Sys2Proof.Config

variable {s t u w : State}

/-! ## Reports to a frame's owner -/

theorem decideSet_tx (h : TxKept s u) : TxKept s (decideSet u) := by
  have habandon (v : Vote) : TxKept s (abandonOn v u) := by
    unfold abandonOn
    split
    · exact abandon_tx _ _ h
    · exact abandon_tx _ _ h
    · exact h
    · exact h
  unfold decideSet
  split
  · exact h
  · split
    · split
      · exact habandon _
      · exact h
    · split
      · exact habandon _
      · split
        · exact h.same (by simp)
        · exact h
    all_goals exact h

theorem segReported_tx (g k : Nat) (h : TxKept s u) : TxKept s (segReported g k u) := by
  have hcollect : TxKept s { u with zone.lock := .collecting, zone.voteTimer := some (u.now + ms 2000) } := h.same rfl
  unfold segReported
  split
  · exact decideSet_tx hcollect
  · exact h

@[simp] theorem frameReported_frame (m : Msg) (s : State) :
    (frameReported m s).now = s.now ∧ (frameReported m s).draws = s.draws ∧ (frameReported m s).st = s.st ∧
    (frameReported m s).view = s.view ∧ (frameReported m s).cool = s.cool ∧ (frameReported m s).port = s.port ∧
    (frameReported m s).seat.receipts = s.seat.receipts ∧ (frameReported m s).seat.serial = s.seat.serial ∧
    (frameReported m s).seat.free = s.seat.free ∧ (frameReported m s).zone.active = s.zone.active ∧
    (frameReported m s).zone.gen = s.zone.gen ∧ (frameReported m s).zone.lastProposed = s.zone.lastProposed ∧
    (frameReported m s).zone.draft = s.zone.draft ∧ (frameReported m s).link.rx = s.link.rx ∧
    (frameReported m s).link.counters = s.link.counters ∧ (frameReported m s).link.idleFrom = s.link.idleFrom ∧
    (frameReported m s).host.slot = s.host.slot ∧ (frameReported m s).host.cursor = s.host.cursor ∧
    (frameReported m s).host.out = s.host.out := by
  unfold frameReported
  split <;> (try split) <;> simp [emptyQueues]

/-- A report moves no frame, but that the last segment's may offer an abandon, and that the DEPART of a DEPARTED
station empties the queues (R30, R146). -/
theorem frameReported_tx (m : Msg) (hm : m = .depart → u.st.state ≠ .departed) (h : TxKept s u) :
    TxKept s (frameReported m u) := by
  unfold frameReported
  split
  · split
    · exact h.trans ⟨rfl, rfl, rfl, fun _ _ => id, [], by simp⟩
    · exact h
  · exact h.same (by simp)
  · exact segReported_tx _ _ h
  · rw [if_neg (hm rfl)]
    exact h
  all_goals exact h

theorem frameReported_normal (m : Msg) (hm : m = .depart → u.st.state ≠ .departed)
    (hseg : ∀ g k es, m ≠ .zoneSeg g k es) : (frameReported m u).link.normal = u.link.normal := by
  unfold frameReported
  split
  · split <;> rfl
  · simp
  · exact absurd rfl (hseg _ _ _)
  · rw [if_neg (hm rfl)]
  all_goals rfl

theorem frameReported_depart (h : u.st.state = .departed) :
    (frameReported .depart u).link = emptyQueues u.link := by
  simp [frameReported, h]

theorem frameReported_guard {m : Msg} (hm : m.kind = .hold) (h : u.link.guard = .armed) :
    (frameReported m u).link.guard = .running (u.now + ms 5) := by
  cases m <;> simp [Msg.kind] at hm
  simp [frameReported, h]

@[simp] theorem isolate_free (c : Cause) (s : State) : (isolate c s).seat.free = s.seat.free := by
  unfold isolate
  split <;> simp

@[simp] theorem countDrop_frame (s : State) : (countDrop s).now = s.now ∧ (countDrop s).draws = s.draws ∧
    (countDrop s).link = s.link ∧
    (countDrop s).port = s.port ∧ (countDrop s).seat.free = s.seat.free := by
  unfold countDrop
  dsimp only
  split <;> simp

/-- Three drops isolate a JOINING or ACTIVE station (R11). -/
theorem countDrop_state (s : State) : (countDrop s).st.state =
    if 3 ≤ s.st.drops + 1 ∧ (s.st.state = .joining ∨ s.st.state = .active) then .isolated else s.st.state := by
  unfold countDrop
  dsimp only
  split
  case isTrue h => simp [isolate_state, h]
  case isFalse h => simp [h]

theorem countDrop_drops (h : s.st.state = .joining ∨ s.st.state = .active) :
    (countDrop s).st.drops = if 3 ≤ s.st.drops + 1 then 0 else s.st.drops + 1 := by
  unfold countDrop
  dsimp only
  split
  · obtain h | h := h <;> simp [isolate, h]
  · rfl

/-! ## The queues when a head leaves -/

/-- The head has left its queue; held ROLLCALL contents may have joined the tail (R24, R26, R29). -/
theorem endAttempt_queues {k : Link} {q : TxQueue} {m : Msg} {l : List Msg} (h : queueOf q k = m :: l) :
    (q = .urgent → (endAttempt q k).urgent = l ∧ (endAttempt q k).normal = k.normal) ∧
    (q = .normal → (endAttempt q k).urgent = k.urgent ∧
      withoutRollcall (endAttempt q k).normal = withoutRollcall l) := by
  refine ⟨?urgent, ?normal⟩
  case urgent =>
    rintro rfl
    have hk : k.urgent = m :: l := h
    simp [endAttempt, popHead, hk]
  case normal =>
    rintro rfl
    have hk : k.normal = m :: l := h
    unfold endAttempt releaseHeld
    dsimp only
    split <;> simp [popHead, hk]

/-- Where no frame is taken in and nothing is asked, a step's end leaves the link (R30). -/
theorem finish_link_of_closed {s0 : State} (hs : sending s = false) (hask : askEvent s0 s = false) :
    (finish s0 s).link = s.link := by
  have hne : s.st.state ≠ .departing := fun h => by simp [sending, h] at hs
  have hasked : asked s0 s = s := by simp [asked, hask]
  have hoffer (v : State) (hv : v.st = s.st) : (offerChanged v).link = v.link := by
    have hclosed : sending v = false := by simpa [sending, hv] using hs
    unfold offerChanged offerRollcall
    split
    · rw [if_pos (by simpa [sending] using hclosed)]
    · rfl
  have hhanded : (handed s0 s).st = s.st ∧ (handed s0 s).link = s.link := by
    unfold handed
    rw [hasked, departProgress_of_ne _ _ hne]
    simp
  obtain ⟨hst, hlink⟩ := hhanded
  rw [finish_eq]
  split
  · simp [hoffer _ (show (handOn (examineGates (handed s0 s))).st = s.st by simpa using hst), hlink]
  · simp [hoffer _ hst, hlink]

/-- No event of R115 without a change of free, of the ports or of the station state. -/
theorem askEvent_of_same {s0 : State} (hfree : s.seat.free = s0.seat.free) (hport : s.port = s0.port)
    (hact : s.st.state = .active → s0.st.state = .active) : askEvent s0 s = false := by
  simpa [askEvent, freshCount, hfree, hport] using hact

/-- A frame's attempt has ended with the frame gone: `t` stands after it left its queue, `u` after the report. -/
structure AttemptEnded (s w t u : State) (q : TxQueue) (m : Msg) (l : List Msg) : Prop where
  head : queueOf q s.link = m :: l
  urgent : t.link.urgent = (endAttempt q s.link).urgent
  normal : t.link.normal = (endAttempt q s.link).normal
  guard : t.link.guard = s.link.guard
  before : t.st.state = s.st.state
  now : u.now = t.now
  reportedUrgent : u.link.urgent = (frameReported m t).link.urgent
  reportedNormal : u.link.normal = (frameReported m t).link.normal
  reportedGuard : u.link.guard = (frameReported m t).link.guard
  stays : s.st.state ≠ .departing → u.st.state ≠ .departing
  departed : s.st.state = .departed → u.st.state = .departed
  quiet : askEvent w u = false

theorem AttemptEnded.headGone {q : TxQueue} {m : Msg} {l : List Msg} (h : AttemptEnded s w t u q m l) :
    HeadGone s (finish w u) q m l := by
  obtain ⟨hfromUrgent, hfromNormal⟩ := endAttempt_queues h.head
  have hfinish := (finish_follows w u).tx
  have hreport (hm : m = .depart → s.st.state ≠ .departed) : TxKept t (frameReported m t) :=
    frameReported_tx m (fun hd => h.before ▸ hm hd) (.refl t)
  have hkept (hm : m = .depart → s.st.state ≠ .departed) (hseg : ∀ g k es, m ≠ .zoneSeg g k es)
      (hne : s.st.state ≠ .departing) : withoutRollcall (finish w u).link.normal = withoutRollcall t.link.normal := by
    rw [finish_normal h.quiet (h.stays hne), h.reportedNormal,
      frameReported_normal m (fun hd => h.before ▸ hm hd) hseg]
  have hurgent (hm : m = .depart → s.st.state ≠ .departed) :
      (finish w u).link.urgent = (endAttempt q s.link).urgent := by
    rw [hfinish.urgent, h.reportedUrgent, (hreport hm).urgent, h.urgent]
  refine ⟨fun hq hm => ?urgent, fun hq hm => ?normal, fun hm => ⟨fun hq => ?otherUrgent,
    fun hq hseg hne => ?otherNormal⟩,
    fun hm hs => ?depart, fun hm hs => ?guard⟩
  case urgent => rw [hurgent hm, (hfromUrgent hq).1]
  case otherUrgent => rw [hurgent hm, (hfromNormal hq).1]
  case otherNormal => rw [hkept hm hseg hne, h.normal, (hfromUrgent hq).2]
  case normal =>
    obtain ⟨r, hr⟩ := (hreport hm).normal
    obtain ⟨k, hk⟩ := hfinish.normal
    have hnormal : withoutRollcall t.link.normal = withoutRollcall l := by rw [h.normal, (hfromNormal hq).2]
    have hall : withoutRollcall (finish w u).link.normal = withoutRollcall l ++ (r ++ k) := by
      rw [hk, h.reportedNormal, hr, hnormal, List.append_assoc]
    refine ⟨r ++ k, hall, fun hseg hne => ?_⟩
    have hnone := hkept hm hseg hne
    rw [hall, hnormal] at hnone
    exact List.append_right_eq_self.mp hnone
  case depart =>
    subst hm
    have hclosed : sending u = false := by simp [sending, h.departed hs]
    have hempty : (frameReported .depart t).link = emptyQueues t.link := frameReported_depart (h.before.trans hs)
    rw [finish_link_of_closed hclosed h.quiet, h.reportedUrgent, h.reportedNormal, hempty]
    exact ⟨rfl, rfl⟩
  case guard =>
    have hnow : (finish w u).now = t.now := by simp [h.now]
    have hg : (finish w u).link.guard = u.link.guard := by simp
    rw [hnow, hg, h.reportedGuard, frameReported_guard hm (h.guard.trans hs)]

/-! ## What the end of an attempt leaves aside -/

@[simp] theorem endAttempt_frame (q : TxQueue) (k : Link) :
    (endAttempt q k).counters = k.counters ∧ (endAttempt q k).guard = k.guard ∧ (endAttempt q k).rx = k.rx ∧
    (endAttempt q k).idleFrom = k.idleFrom ∧ attemptOf q (endAttempt q k) = Attempt.clear := by
  cases q
  · simp [endAttempt, popHead, attemptOf]
  · cases hk : k.held <;> simp [endAttempt, popHead, releaseHeld, hk, attemptOf]

/-- The moment noted of an attempt's end reaches no queue. -/
theorem endAttempt_noted (q : TxQueue) (k : Link) (a : Nat) (b : Option Nat) :
    (endAttempt q { k with idleFrom := a, ownUntil := b }).urgent = (endAttempt q k).urgent ∧
    (endAttempt q { k with idleFrom := a, ownUntil := b }).normal = (endAttempt q k).normal := by
  cases q
  · simp [endAttempt, popHead]
  · cases hk : k.held <;> simp [endAttempt, popHead, releaseHeld, hk]

theorem attempt_kept (h : TxKept s t) (q : TxQueue) : attemptOf q t.link = attemptOf q s.link := by
  cases q
  · exact h.urgentTry
  · exact h.normalTry

/-- An attempt that has ended is not taken up by its report. -/
theorem frameReported_attempt (m : Msg) (q : TxQueue) (h : attemptOf q u.link = Attempt.clear) :
    attemptOf q (frameReported m u).link = Attempt.clear := by
  by_cases hm : m = .depart ∧ u.st.state = .departed
  · rw [hm.1, frameReported_depart hm.2]
    cases q <;> rfl
  · rw [attempt_kept (frameReported_tx m (fun he hs => hm ⟨he, hs⟩) (.refl u)), h]

/-- A count reaches no attempt. -/
theorem endAttempt_counted (q : TxQueue) (k : Link) (c : Counters) :
    attemptOf q { k with counters := c } = attemptOf q k := by
  cases q <;> rfl

theorem frameReported_rest (m : Msg) (s : State) : RestKept s (frameReported m s) :=
  SameRest.rest (by simp [SameRest])

theorem countDrop_rest (s : State) : RestKept s (countDrop s) := by
  have hcount : RestKept s { s with st.drops := s.st.drops + 1 } := SameRest.rest (by simp [SameRest])
  unfold countDrop
  dsimp only
  split
  · exact hcount.trans (isolate_aside _ _).rest
  · exact hcount

theorem kick_rest (s : State) : RestKept s (kick s) := SameRest.rest (by simp [SameRest])

/-- A change of the link alone. -/
theorem link_rest (k : Link) (s : State) : RestKept s { s with link := k } := SameRest.rest (by simp [SameRest])

/-! ## The end of a jam (R24 to R26) -/

/-- The state on which the jam's end is judged: the line is released now. -/
def jamEnded (d : Nat) (s : State) : State :=
  { reach d s with link.idleFrom := (reach d s).now, link.ownUntil := some (reach d s).now }

@[simp] theorem jamEnded_frame (d : Nat) (s : State) :
    (jamEnded d s).now = max s.now d ∧ (jamEnded d s).draws = s.draws ∧ (jamEnded d s).st = s.st ∧
    (jamEnded d s).port = s.port ∧ (jamEnded d s).seat = s.seat ∧
    (jamEnded d s).link = { s.link with idleFrom := max s.now d, ownUntil := some (max s.now d) } := by
  simp [jamEnded]

theorem jamEnded_rest (d : Nat) (s : State) : RestKept s (jamEnded d s) :=
  (reach_aside d s).rest.trans (link_rest _ _)

theorem execJamEnd_of_jam {q : Option TxQueue} {d : Nat} (h : s.link.engine = .jam q d) :
    exec .jamEnd s = .next (finish (reach d s) (match q with
      | none => kick { jamEnded d s with link.engine := .idle }
      | some q => if (attemptOf q s.link).collisions < 16 then backOff q (jamEnded d s)
          else dropFrame q (jamEnded d s))) := by
  have hattempt (q : TxQueue) : attemptOf q (jamEnded d s).link = attemptOf q s.link := by
    rw [(jamEnded_frame d s).2.2.2.2.2]
    cases q <;> rfl
  have hexec : exec .jamEnd s = stepOf (endJam q) (reach d s) := by
    change execJamEnd s = _
    simp only [execJamEnd, h]
  rw [hexec, stepOf]
  cases q with
  | none => rfl
  | some q =>
    have hend : endJam (some q) (reach d s) = if (attemptOf q (jamEnded d s).link).collisions < attemptLimit then
        backOff q (jamEnded d s) else dropFrame q (jamEnded d s) := rfl
    rw [hend, hattempt]

/-- The frame waits at its queue's head (R25). -/
theorem backOff_facts (q : TxQueue) (s : State) : RestKept s (backOff q s) ∧ (backOff q s).now = s.now ∧
    (backOff q s).draws = s.draws + 1 ∧ (backOff q s).link.idleFrom = s.link.idleFrom ∧
    (backOff q s).link.counters = s.link.counters ∧
    (attemptOf q (backOff q s).link).collisions = (attemptOf q s.link).collisions ∧
    (attemptOf q (backOff q s).link).backoff =
      if backoffSlots (attemptOf q s.link).collisions (backoffDraw s.draws) = 0 then none
      else some (s.now + slotTime * backoffSlots (attemptOf q s.link).collisions (backoffDraw s.draws)) := by
  have hlink (k : Link) : RestKept s { s with draws := s.draws + 1, link := k } := SameRest.rest (by simp [SameRest])
  refine ⟨(hlink _).trans (kick_rest _), ?_⟩
  cases q
  · simp [backOff, setAttempt, attemptOf]
  · cases hk : s.link.held <;> simp [backOff, setAttempt, attemptOf, applyHeld, hk]

theorem dropFrame_eq {q : TxQueue} {m : Msg} {l : List Msg} (h : queueOf q s.link = m :: l) : dropFrame q s =
    kick (countDrop (frameReported m { s with link := { endAttempt q s.link with
      counters.drops := bump (endAttempt q s.link).counters.drops } })) := by
  unfold dropFrame
  simp only [h]

/-- A drop at the attempt limit (R26). -/
theorem dropFrame_ended {q : TxQueue} {m : Msg} {l : List Msg} {d : Nat} (hq : queueOf q s.link = m :: l) :
    AttemptEnded s (reach d s) { jamEnded d s with link := { endAttempt q (jamEnded d s).link with
      counters.drops := bump (endAttempt q (jamEnded d s).link).counters.drops } }
      (dropFrame q (jamEnded d s)) q m l := by
  have hqueue : queueOf q (jamEnded d s).link = m :: l := by
    rw [(jamEnded_frame d s).2.2.2.2.2, ← hq]
    cases q <;> rfl
  have hnoted := endAttempt_noted q s.link (max s.now d) (some (max s.now d))
  rw [dropFrame_eq hqueue]
  refine ⟨hq, ?leftUrgent, ?leftNormal, by simp, by simp, by simp, by simp, by simp, by simp,
    fun hne => ?stays, fun hd => ?departed,
    askEvent_of_same (by simp) (by simp) fun ha => ?quiet⟩
  case leftUrgent => simpa using hnoted.1
  case leftNormal => simpa using hnoted.2
  case stays =>
    simp only [kick_frame, countDrop_state, frameReported_frame, jamEnded_frame]
    split
    · simp
    · exact hne
  case departed => simp [countDrop_state, hd]
  case quiet =>
    simp only [kick_frame, countDrop_state, frameReported_frame, jamEnded_frame] at ha
    split at ha
    · simp at ha
    · simpa using ha

theorem dropFrame_facts {q : TxQueue} {m : Msg} {l : List Msg} {d : Nat} (hq : queueOf q s.link = m :: l) :
    RestKept s (dropFrame q (jamEnded d s)) ∧ (dropFrame q (jamEnded d s)).now = max s.now d ∧
    (dropFrame q (jamEnded d s)).draws = s.draws ∧
    (dropFrame q (jamEnded d s)).link.counters =
      { s.link.counters with drops := min 65535 (s.link.counters.drops + 1) } ∧
    (attemptOf q (dropFrame q (jamEnded d s)).link).collisions = 0 := by
  have hqueue : queueOf q (jamEnded d s).link = m :: l := by
    rw [(jamEnded_frame d s).2.2.2.2.2, ← hq]
    cases q <;> rfl
  rw [dropFrame_eq hqueue]
  refine ⟨(jamEnded_rest d s).trans (((link_rest _ _).trans (frameReported_rest _ _)).trans
    ((countDrop_rest _).trans (kick_rest _))), by simp, by simp, by simp [bump], ?cleared⟩
  case cleared =>
    have hgone := frameReported_attempt (u := { jamEnded d s with link := { endAttempt q (jamEnded d s).link with
      counters.drops := bump (endAttempt q (jamEnded d s).link).counters.drops } }) m q
      ((endAttempt_counted _ _ _).trans (endAttempt_frame q (jamEnded d s).link).2.2.2.2)
    rw [attempt_kept (kick_tx (.refl _)), (countDrop_frame _).2.2.1, hgone]
    rfl

/-- The station is told of a drop (R11). -/
theorem dropFrame_station {q : TxQueue} {m : Msg} {l : List Msg} {d : Nat} (hq : queueOf q s.link = m :: l)
    (hs : s.st.state = .joining ∨ s.st.state = .active) :
    (dropFrame q (jamEnded d s)).st.state = (if 3 ≤ s.st.drops + 1 then .isolated else s.st.state) ∧
    (dropFrame q (jamEnded d s)).st.drops = (if 3 ≤ s.st.drops + 1 then 0 else s.st.drops + 1) := by
  have hqueue : queueOf q (jamEnded d s).link = m :: l := by
    rw [(jamEnded_frame d s).2.2.2.2.2, ← hq]
    cases q <;> rfl
  rw [dropFrame_eq hqueue]
  constructor
  · simp only [kick_frame, countDrop_state, frameReported_frame, jamEnded_frame, hs, and_true]
  · simp only [kick_frame]
    rw [countDrop_drops (by simpa using hs)]
    simp

/-- Settles O35: below the limit the frame waits, at it the frame is gone; a jam without a frame frees the engine. -/
theorem jamEndBacksOffOrDrops : Obligations.JamEndBacksOffOrDrops := by
  unfold Obligations.JamEndBacksOffOrDrops
  intro s d
  refine ⟨fun q hq hlow => ?waits, fun q m l hq hhigh hhead => ?drops, fun hq => ?frees⟩
  case waits =>
    have hexec := execJamEnd_of_jam hq
    dsimp only at hexec
    rw [if_pos hlow] at hexec
    obtain ⟨hrest, hnow, hdraws, hidle, hcounters, hcol, hback⟩ := backOff_facts q (jamEnded d s)
    have hkept := ((jamEnded_rest d s).trans hrest).trans (finish_rest (reach d s) _)
    have hattempt := attempt_kept (finish_follows (reach d s) (backOff q (jamEnded d s))).tx q
    have hbefore : attemptOf q (jamEnded d s).link = attemptOf q s.link := by
      rw [(jamEnded_frame d s).2.2.2.2.2]
      cases q <;> rfl
    refine ⟨_, hexec, by simp [hnow], hkept.1, hkept.2.1, hkept.2.2, by simp [hdraws], by simp [hidle, hnow],
      by rw [hattempt, hcol, hbefore], 
      ⟨backoffSlots (attemptOf q s.link).collisions (backoffDraw s.draws), Nat.mod_lt _ (by positivity), ?_⟩,
      by simp [hcounters]⟩
    rw [hattempt, hback, hbefore]
    simp only [finish_always, hnow, jamEnded_frame]
  case drops =>
    have hexec := execJamEnd_of_jam hq
    dsimp only at hexec
    rw [if_neg (by omega)] at hexec
    obtain ⟨hrest, hnow, hdraws, hcounters, hcol⟩ := dropFrame_facts (d := d) hhead
    have hended := dropFrame_ended (d := d) hhead
    have hkept := hrest.trans (finish_rest (reach d s) _)
    have hfollows := finish_follows (reach d s) (dropFrame q (jamEnded d s))
    refine ⟨_, hexec, by simp [hnow], hkept.1, hkept.2.1, hkept.2.2, by simp [hdraws], by simp [hcounters],
      by rw [attempt_kept hfollows.tx, hcol], hended.headGone, fun hs => ?_⟩
    obtain ⟨hstate, hdrops⟩ := dropFrame_station (d := d) hhead hs
    have hne : (dropFrame q (jamEnded d s)).st.state ≠ .departing := by
      rw [hstate]
      split
      · simp
      · obtain h | h := hs <;> simp [h]
    rw [(hfollows.still hne).1, hstate, hdrops]
    split <;> simp
  case frees =>
    have hexec := execJamEnd_of_jam hq
    dsimp only at hexec
    have hkept : RestKept s (finish (reach d s) (kick { jamEnded d s with link.engine := .idle })) :=
      (((jamEnded_rest d s).trans (link_rest _ _)).trans (kick_rest _)).trans (finish_rest _ _)
    refine ⟨_, hexec, by simp, hkept.1, hkept.2.1, hkept.2.2, by simp, by simp, fun q e hj => ?_⟩
    have hidle := kick_engine ((finish_follows (reach d s) (kick { jamEnded d s with link.engine := .idle })).tx.engine
      q e hj)
    simp at hidle

/-! ## A frame sent whole (R24) -/

/-- The state after the frame has left its queue and before its owner is told. -/
def sentOff (q : TxQueue) (m : Msg) (s : State) : State :=
  { s with
    link := { endAttempt q s.link with
      counters := { s.link.counters with
        sent := bump s.link.counters.sent
        holdsSent := if m.kind = .hold then bump s.link.counters.holdsSent else s.link.counters.holdsSent }
      idleFrom := s.now
      ownUntil := some s.now }
    st.drops := 0 }

theorem frameSent_eq {q : TxQueue} {m : Msg} {l : List Msg} (h : queueOf q s.link = m :: l) :
    frameSent q s = kick (frameReported m (sentOff q m s)) := by
  unfold frameSent sentOff
  simp only [h, endAttempt_frame]
  split <;> rfl

@[simp] theorem sentOff_frame (q : TxQueue) (m : Msg) (s : State) :
    (sentOff q m s).now = s.now ∧ (sentOff q m s).st.state = s.st.state ∧ (sentOff q m s).st.straps = s.st.straps ∧
    (sentOff q m s).st.drops = 0 ∧ (sentOff q m s).view = s.view ∧ (sentOff q m s).port = s.port ∧
    (sentOff q m s).seat = s.seat ∧ (sentOff q m s).link.urgent = (endAttempt q s.link).urgent ∧
    (sentOff q m s).link.normal = (endAttempt q s.link).normal ∧ (sentOff q m s).link.guard = s.link.guard ∧
    (sentOff q m s).link.rx = s.link.rx ∧ (sentOff q m s).link.idleFrom = s.now := by
  simp [sentOff]

theorem sentOff_rest (q : TxQueue) (m : Msg) (s : State) : RestKept s (sentOff q m s) :=
  SameRest.rest (by simp [SameRest, sentOff])

theorem frameSent_ended {q : TxQueue} {m : Msg} {l : List Msg} {d : Nat} (hq : queueOf q s.link = m :: l) :
    AttemptEnded s (reach d s) (sentOff q m (reach d s)) (frameSent q (reach d s)) q m l := by
  have hqueue : queueOf q (reach d s).link = m :: l := by simpa using hq
  rw [frameSent_eq hqueue]
  exact ⟨hq, by simp, by simp, by simp, by simp, by simp, by simp, by simp, by simp, fun h => by simpa using h,
    fun h => by simpa using h, askEvent_of_same (by simp) (by simp) fun h => by simpa using h⟩

/-- A change of the entries with a number that keeps the number is seen at that number. -/
theorem escrowOf_mapEscrow {x : Nat} {f : Escrow → Escrow} (hf : ∀ e, (f e).xfer = e.xfer) {e : Escrow}
    (h : escrowOf s x = some e) : escrowOf (mapEscrow x f s) x = some (f e) := by
  have hfind (l : List Escrow) (hl : l.find? (·.xfer = x) = some e) :
      (l.map fun e => if e.xfer = x then f e else e).find? (·.xfer = x) = some (f e) := by
    induction l with
    | nil => simp at hl
    | cons a l ih =>
      by_cases ha : a.xfer = x
      · obtain rfl : a = e := by simpa [ha] using hl
        simp [ha, hf]
      · simp only [List.find?_cons, ha, decide_false, List.map_cons, if_false] at hl ⊢
        exact ih hl
  exact hfind _ h

/-- A SEAT-GIVE reported starts its entry's timer (R120). -/
theorem giveReported_escrow {x : Nat} {e : Escrow} (hs : sending s = true) (he : escrowOf s x = some e)
    (hn : e.stranded = false) : escrowOf (giveReported x s) x =
      some { e with timer := some (s.now + ms (if e.tries < 8 then 100 else 2000)) } := by
  unfold giveReported
  rw [if_pos hs, escrowOf_mapEscrow (fun e => by split <;> rfl) he]
  simp [hn]

end Sys2Proof.Machine

namespace Sys2Proof.Proofs

open Sys2Proof.Config Sys2Proof.Machine

/-- Settles O36: the frame has left its queue, and its owner is told. -/
theorem frameSent : Obligations.FrameSent := by
  unfold Obligations.FrameSent
  intro s q start bits m l he hq
  have hexec : exec .txFrameComplete s = .next (finish (reach (start + bits.length) s)
      (Machine.frameSent q (reach (start + bits.length) s))) := by
    change execTxFrameComplete s = _
    simp only [execTxFrameComplete, he, stepOf]
  have hended := frameSent_ended (d := start + bits.length) hq
  have hfollows := finish_follows (reach (start + bits.length) s)
    (Machine.frameSent q (reach (start + bits.length) s))
  have hqueue : queueOf q (reach (start + bits.length) s).link = m :: l := by simpa using hq
  rw [frameSent_eq hqueue] at hexec hended hfollows
  have hrest := ((((reach_aside (start + bits.length) s).rest.trans (sentOff_rest q m _)).trans
    (frameReported_rest m _)).trans (kick_rest _)).trans (finish_rest (reach (start + bits.length) s) _)
  refine ⟨_, hexec, by simp, by simp, by rw [hfollows.silence.2.2]; simp, by simp, fun a ha => ?peers,
    hrest.1, hrest.2.1,
    hrest.2.2, by simp [sentOff, bump], hended.headGone, fun x rcpt a n e hm hs hne hesc hstr => ?escrow⟩
  case peers =>
    rw [hfollows.peers a (by simpa [ownAddr] using ha)]
    simp [entryAt]
  case escrow =>
    subst hm
    have hsending : sending (sentOff q (.seatGive x rcpt a n) (reach (start + bits.length) s)) = true := by
      simpa [sending] using hs
    have hbefore : escrowOf (sentOff q (.seatGive x rcpt a n) (reach (start + bits.length) s)) x = some e := by
      simpa [escrowOf] using hesc
    have hseats := (finish_seats (s := kick (frameReported (.seatGive x rcpt a n)
      (sentOff q (.seatGive x rcpt a n) (reach (start + bits.length) s)))) (reach (start + bits.length) s)
      (by simpa using hne)).escrow
    have hreported := giveReported_escrow hsending hbefore hstr
    rw [escrowOf, hseats]
    simpa [frameReported, escrowOf] using hreported

end Sys2Proof.Proofs
end

section
/-! PROOF. What the fan target and a ROLLCALL that is due read of the view, through the end of a step; the own entry
as it stands then. -/

namespace Sys2Proof.Machine

open Sys2Proof.Config

variable {s t u : State}

/-! ## What the fan target reads -/

/-- The peers' entries and the own blocks that the fan target reads stand; a ROLLCALL that was due is due; the target
has moved only to that of the view (R41, R89, R90). -/
structure Sighted (s t : State) : Prop where
  straps : t.st.straps = s.st.straps
  peers : PeersKept s t
  own : (entryAt t (ownAddr s)).presence? = (entryAt s (ownAddr s)).presence?
  demand : t.cool.demand = s.cool.demand
  rotors : t.cool.rotors = s.cool.rotors
  announce : s.announce = true → t.announce = true
  target : t.cool.target = s.cool.target ∨ t.cool.target = fanTarget t

theorem sighted_ownAddr (h : Sighted s t) : ownAddr t = ownAddr s := by rw [ownAddr, h.straps, ownAddr]

theorem isSome_fields (e : Entry) : e.fields?.isSome = e.presence?.isSome := by cases e <;> rfl

/-- The fan target reads the peers' entries, the presence of the own one, and two of the station's own blocks (R89). -/
theorem fanTarget_congr (hown : ownAddr t = ownAddr s) (hpeers : PeersKept s t)
    (hp : (entryAt t (ownAddr s)).presence? = (entryAt s (ownAddr s)).presence?)
    (hdemand : t.cool.demand = s.cool.demand) (hrotors : t.cool.rotors = s.cool.rotors) :
    fanTarget t = fanTarget s := by
  have hrecorded : (ownRecorded t).isSome = (ownRecorded s).isSome := by
    rw [ownRecorded, isSome_fields, hown, hp, ← isSome_fields, ownRecorded]
  have haddrs : peers t = peers s := by rw [peers, hown, peers]
  have hentries : peerEntries t = peerEntries s := by
    rw [peerEntries, peerEntries, haddrs]
    refine List.map_congr_left fun a ha => hpeers a ?_
    simpa [peers] using ha
  have htargets : targetEntries t = targetEntries s := by rw [targetEntries, targetEntries, hrecorded, hentries]
  simp only [fanTarget, htargets, hdemand, failedRotors, hrotors]

theorem fanTarget_same (hstraps : t.st.straps = s.st.straps) (hentries : t.view.entries = s.view.entries)
    (hdemand : t.cool.demand = s.cool.demand) (hrotors : t.cool.rotors = s.cool.rotors) :
    fanTarget t = fanTarget s :=
  fanTarget_congr (by rw [ownAddr, hstraps, ownAddr]) (fun a _ => by rw [entryAt, hentries, entryAt])
    (by rw [entryAt, hentries, entryAt]) hdemand hrotors

theorem sighted_fanTarget (h : Sighted s t) : fanTarget t = fanTarget s :=
  fanTarget_congr (sighted_ownAddr h) h.peers h.own h.demand h.rotors

theorem Sighted.refl (s : State) : Sighted s s := ⟨rfl, fun _ _ => rfl, rfl, rfl, rfl, id, .inl rfl⟩

theorem Sighted.trans (h : Sighted s u) (k : Sighted u t) : Sighted s t where
  straps := k.straps.trans h.straps
  peers a ha := (k.peers a (by rwa [sighted_ownAddr h])).trans (h.peers a ha)
  own := by
    have hk := k.own
    rw [sighted_ownAddr h] at hk
    exact hk.trans h.own
  demand := k.demand.trans h.demand
  rotors := k.rotors.trans h.rotors
  announce := k.announce ∘ h.announce
  target := by
    obtain hk | hk := k.target
    · obtain hu | hu := h.target
      · exact .inl (hk.trans hu)
      · exact .inr (by rw [hk, hu, sighted_fanTarget k])
    · exact .inr hk

/-- A target that is that of the view stays so. -/
theorem Sighted.targeted (h : Sighted s t) (ht : s.cool.target = fanTarget s) : t.cool.target = fanTarget t := by
  obtain hk | hk := h.target
  · rw [hk, ht, sighted_fanTarget h]
  · exact hk

/-- `t` differs from `s` in nothing that `Sighted` reads. -/
def SameSight (s t : State) : Prop :=
  t.st.straps = s.st.straps ∧ t.view.entries = s.view.entries ∧ t.cool.demand = s.cool.demand ∧
  t.cool.rotors = s.cool.rotors ∧ t.cool.target = s.cool.target ∧ (s.announce = true → t.announce = true)

theorem Sighted.same (h : Sighted s u) (e : SameSight u t) : Sighted s t := by
  obtain ⟨hstraps, hentries, hdemand, hrotors, htarget, hannounce⟩ := e
  exact h.trans ⟨hstraps, fun a _ => by rw [entryAt, hentries, entryAt], by rw [entryAt, hentries, entryAt], hdemand,
    hrotors, hannounce, .inl htarget⟩

theorem Sighted.ite {c : Prop} [Decidable c] (ht : Sighted s t) (hu : Sighted s u) :
    Sighted s (if c then t else u) := by
  split
  · exact ht
  · exact hu

/-! ## The operations of a step's end -/

@[simp] theorem raise_announce (k : NoticeKind) (n : Nat) (d : List Byte) (s : State) :
    (raise k n d s).announce = s.announce := by
  unfold raise
  (repeat' split) <;> rfl

@[simp] theorem raiseOwn_announce (k : NoticeKind) (d : List Byte) (s : State) :
    (raiseOwn k d s).announce = s.announce := raise_announce ..

theorem closeWindow_announce (s : State) (h : s.announce = true) : (closeWindow s).announce = true := by
  simp [closeWindow, h]

theorem noteChange_announce (s : State) (h : s.announce = true) : (noteChange s).announce = true := by
  simp [noteChange, h]

@[simp] theorem compute_announce (s : State) : (compute s).announce = s.announce := rfl

@[simp] theorem reportRedundancy_announce (s : State) : (reportRedundancy s).announce = s.announce := by
  unfold reportRedundancy
  split <;> simp

@[simp] theorem reportCoverage_announce (s : State) : (reportCoverage s).announce = s.announce := by
  unfold reportCoverage
  split
  · rfl
  · split <;> simp

@[simp] theorem raiseExhausted_announce (s : State) : (raiseExhausted s).announce = s.announce := by
  unfold raiseExhausted
  split <;> simp

@[simp] theorem examineGates_announce (s : State) : (examineGates s).announce = s.announce := by
  unfold examineGates
  split
  · rfl
  · split <;> rfl

@[simp] theorem rampTo_kept (s : State) :
    (rampTo s).announce = s.announce ∧ (rampTo s).cool.target = s.cool.target := by
  unfold rampTo setDuty
  (repeat' split) <;> simp

@[simp] theorem retarget_announce (s : State) : (retarget s).announce = s.announce := by
  unfold retarget
  dsimp only
  (repeat' split) <;> simp

/-- A recomputation gives a FAN station the target of its view (R90). -/
theorem retarget_target (s : State) : role s = .fan → (retarget s).cool.target = fanTarget s := by
  intro h
  unfold retarget
  rw [if_pos h]
  dsimp only
  split <;> simp

theorem retarget_sighted (h : Sighted s u) : Sighted s (retarget u) := by
  have hsame : fanTarget (retarget u) = fanTarget u := fanTarget_same (by simp) (by simp) (by simp) (by simp)
  refine h.trans ⟨by simp, fun a _ => by simp [entryAt], by simp [entryAt], by simp, by simp, by simp, ?_⟩
  by_cases hr : role u = .fan
  · exact .inr (by rw [retarget_target u hr, hsame])
  · exact .inl (by rw [retarget, if_neg hr])

/-- The own entry's contents replaced. -/
theorem setEntry_own_sighted {e : Entry} (h : Sighted s u) (he : e.presence? = (entryAt u (ownAddr u)).presence?) :
    Sighted s (setEntry (ownAddr u) e u) :=
  h.trans ⟨rfl, ((setEntry_own_follows e (.refl u)).peers), by simpa [entryAt, setEntry] using he,
    rfl, rfl, id, .inl rfl⟩

theorem noteChange_sighted (h : Sighted s u) : Sighted s (noteChange u) :=
  h.same ⟨rfl, rfl, rfl, rfl, rfl, noteChange_announce u⟩

theorem refresh_sighted (h : Sighted s u) : Sighted s (refresh u) := by
  have hblocks : Sighted s { u with budget.claim := steadyClaim u, budget.tent := tentative u, view.pull := pulls u } :=
    h.same ⟨rfl, rfl, rfl, rfl, rfl, id⟩
  unfold refresh
  dsimp only
  split
  case h_1 => exact hblocks
  case h_2 p heard f he =>
    split
    · exact hblocks
    · exact noteChange_sighted (setEntry_own_sighted hblocks (by rw [he]; rfl))

@[simp] theorem shedPort_announce (n : Nat) (s : State) : (shedPort n s).announce = s.announce := by
  have hfilter (p : Port) (v : State) : (darkenFilter n p v).announce = v.announce := by
    unfold darkenFilter
    split <;> rfl
  unfold shedPort
  split
  · rfl
  · split <;> simp [leaveService, hfilter]

theorem shedPort_sighted {n : Nat} (h : Sighted s u) : Sighted s (shedPort n u) := h.same (by simp [SameSight])

theorem compute_sighted (h : Sighted s u) : Sighted s (compute u) := h.same (by simp [SameSight])

theorem examineGates_sighted (h : Sighted s u) : Sighted s (examineGates u) := h.same (by simp [SameSight])

theorem closeWindow_sighted (h : Sighted s u) : Sighted s (closeWindow u) :=
  h.same ⟨rfl, rfl, rfl, rfl, rfl, closeWindow_announce u⟩

theorem shedAll_sighted (fuel : Nat) (h : Sighted s u) : Sighted s (shedAll fuel u) := by
  induction fuel generalizing u with
  | zero => exact h
  | succ fuel ih =>
    unfold shedAll
    split
    · split
      · exact h
      · exact ih (compute_sighted (refresh_sighted (shedPort_sighted h)))
    · exact h

theorem actUncovered_sighted (h : Sighted s u) : Sighted s (actUncovered u) := by
  have hshed := shedAll_sighted (refresh (closeWindow u)).port.recs.length
    (refresh_sighted (closeWindow_sighted h))
  unfold actUncovered
  split
  · split
    · exact Sighted.ite (hshed.same (by simp [SameSight])) (hshed.same (by simp [SameSight]))
    · exact h
  all_goals exact h.same (by simp [SameSight])

theorem reevaluate_sighted (h : Sighted s u) : Sighted s (reevaluate u) := by
  have hcompute : Sighted s (compute (refresh u)) := (refresh_sighted h).same (by simp [SameSight])
  have hreport : Sighted s (if comparing (compute (refresh u)) then
      reportCoverage (reportRedundancy (compute (refresh u))) else compute (refresh u)) :=
    Sighted.ite (hcompute.same (by simp [SameSight])) hcompute
  unfold reevaluate
  split
  · exact examineGates_sighted (Sighted.ite (actUncovered_sighted hreport) hreport)
  · exact h

theorem propagate_sighted (fuel : Nat) (h : Sighted s u) : Sighted s (propagate fuel u) := by
  induction fuel generalizing u with
  | zero => exact refresh_sighted h
  | succ fuel ih =>
    unfold propagate
    dsimp only
    split
    · exact refresh_sighted h
    · exact ih (reevaluate_sighted (retarget_sighted (refresh_sighted h)))

theorem handOn_sighted (h : Sighted s u) : Sighted s (handOn u) :=
  propagate_sighted _ (Sighted.ite (retarget_sighted h) h)

@[simp] theorem judgeAsk_announce (s : State) : (judgeAsk s).announce = s.announce := by
  have hoffer (m : Msg) (v : State) : (sendNormal m v).announce = v.announce := by
    unfold sendNormal offerNormal
    (repeat' split) <;> rfl
  unfold judgeAsk offerAsk
  dsimp only
  (repeat' split) <;> simp [hoffer]

theorem asked_sighted (s0 : State) (h : Sighted s u) : Sighted s (asked s0 u) :=
  Sighted.ite (h.same (by simp [SameSight])) h

/-- The state that the one ROLLCALL of a step is offered in, outside DEPARTING. -/
theorem handed_sighted (s0 : State) (hd : s.st.state ≠ .departing) : Sighted s (handed s0 s) := by
  unfold handed
  rw [departProgress_of_ne _ _ (by simpa using hd)]
  exact handOn_sighted (asked_sighted s0 (.refl s))

/-- The step's end before its ROLLCALL is offered and its writes begin. -/
def settled (s0 s : State) : State :=
  if gateEvent s0 (handed s0 s) then handOn (examineGates (handed s0 s)) else handed s0 s

theorem finish_settled (s0 s : State) : finish s0 s = beginWrites (offerChanged (settled s0 s)) := rfl

theorem settled_after_handed (s0 s : State) : Sighted (handed s0 s) (settled s0 s) :=
  Sighted.ite (handOn_sighted (examineGates_sighted (.refl _))) (.refl _)

theorem settled_sighted (s0 : State) (hd : s.st.state ≠ .departing) : Sighted s (settled s0 s) :=
  (handed_sighted s0 hd).trans (settled_after_handed s0 s)

/-- What is offered and written at last reads the blocks and moves none of them. -/
theorem finish_fanTarget (s0 s : State) : (finish s0 s).cool.target = (settled s0 s).cool.target ∧
    fanTarget (finish s0 s) = fanTarget (settled s0 s) := by
  rw [finish_settled]
  exact ⟨by simp, fanTarget_same (by simp) (by simp) (by simp) (by simp)⟩

/-- A step that changed the own entry leaves a FAN station the target of its view (R53, R90). -/
theorem finish_target (s0 : State) (hd : s.st.state ≠ .departing) (ha : s.announce = true) (hr : role s = .fan) :
    (finish s0 s).cool.target = fanTarget (finish s0 s) := by
  have hasked := asked_sighted s0 (.refl s)
  have hnew : (retarget (asked s0 s)).cool.target = fanTarget (retarget (asked s0 s)) := by
    rw [retarget_target _ (by rw [role, hasked.straps]; exact hr)]
    exact (sighted_fanTarget (retarget_sighted (.refl (asked s0 s)))).symm
  have hhanded : (handed s0 s).cool.target = fanTarget (handed s0 s) := by
    unfold handed handOn
    rw [departProgress_of_ne _ _ (by simpa using hd), if_pos (hasked.announce ha)]
    exact (propagate_sighted _ (.refl _)).targeted hnew
  rw [(finish_fanTarget s0 s).1, (finish_fanTarget s0 s).2]
  exact (settled_after_handed s0 s).targeted hhanded

/-- A ROLLCALL that is due at the end of a step starts the period timer again (R41). -/
theorem finish_period (s0 : State) (hd : s.st.state ≠ .departing) (ha : s.announce = true) (hs : sending s = true) :
    (finish s0 s).view.period = some (s.now + ms 250) := by
  have hsend : sending (settled s0 s) = true := by
    have hst : (settled s0 s).st = s.st := by
      unfold settled handed
      rw [departProgress_of_ne _ _ (by simpa using hd)]
      split <;> simp
    rwa [sending, hst]
  have hnow : (settled s0 s).now = s.now := by
    unfold settled handed
    rw [departProgress_of_ne _ _ (by simpa using hd)]
    have hasked : (asked s0 s).now = s.now := by unfold asked; split <;> simp
    split <;> simp [hasked]
  rw [finish_settled]
  unfold offerChanged offerRollcall
  rw [if_pos ((settled_sighted s0 hd).announce ha)]
  have hopen : sending { settled s0 s with announce := false } = true := hsend
  rw [if_neg (by simp [hopen])]
  dsimp only
  (repeat' split) <;> simp [hnow]

/-! ## The own entry at a step's end -/

/-- The own entry, where there is one, carries the own blocks (R44). -/
def OwnCarried (s : State) : Prop := ∀ p h f, entryAt s (ownAddr s) = .known p h f → f = ownRoll s

theorem refresh_carries (s : State) : OwnCarried (refresh s) := by
  unfold refresh
  dsimp only
  split
  case h_1 he =>
    intro p h f hf
    exact absurd (he.symm.trans hf) (by simp)
  case h_2 p heard f he =>
    split
    case isTrue hf =>
      intro q h g hg
      obtain ⟨-, -, rfl⟩ : p = q ∧ heard = h ∧ f = g := by simpa [he] using hg
      exact hf.symm
    case isFalse =>
      intro q h g hg
      have hnew : Entry.known p heard (ownRoll
          { s with budget.claim := steadyClaim s, budget.tent := tentative s, view.pull := pulls s }) =
          .known q h g := by
        simpa [entryAt, setEntry, ownAddr] using hg
      obtain ⟨-, -, rfl⟩ := (by simpa using hnew : p = q ∧ heard = h ∧ _ = g)
      rfl

theorem propagate_carries (fuel : Nat) (s : State) : OwnCarried (propagate fuel s) := by
  induction fuel generalizing s with
  | zero => exact refresh_carries s
  | succ fuel ih =>
    unfold propagate
    dsimp only
    split
    · exact refresh_carries s
    · exact ih _

/-- The own entry carries the own blocks at the end of every step (R44). -/
theorem finish_carries (s0 s : State) : OwnCarried (finish s0 s) := by
  obtain ⟨v, hv⟩ := finish_handOn s0 s
  have hcarried : OwnCarried (handOn v) := propagate_carries _ _
  rw [hv]
  intro p h f hf
  have hroll : ownRoll (beginWrites (offerChanged (handOn v))) = ownRoll (handOn v) := by
    simp [ownRoll, role, giveable, freshCount, ownLock, zoning, failedRotors]
  rw [hroll]
  exact hcarried p h f (by simpa [entryAt, ownAddr] using hf)

/-- A PRESENT own entry is PRESENT at the end of the step, and carries the own blocks. -/
theorem finish_own (s0 : State) (hd : s.st.state ≠ .departing)
    (hp : (entryAt s (ownAddr s)).presence? = some .present) :
    ∃ h, entryAt (finish s0 s) (ownAddr s) = .known .present h (ownRoll (finish s0 s)) := by
  have hsame : entryAt (finish s0 s) (ownAddr s) = entryAt (settled s0 s) (ownAddr s) := by
    rw [finish_settled]
    simp [entryAt]
  have hpresence := (settled_sighted s0 hd).own.trans hp
  have hown : ownAddr (finish s0 s) = ownAddr s := by rw [ownAddr, (finish_durable s0 s).straps, ownAddr]
  cases he : entryAt (settled s0 s) (ownAddr s) with
  | empty => simp [he, Entry.presence?] at hpresence
  | known p h f =>
    obtain rfl : p = .present := by simpa [he, Entry.presence?] using hpresence
    refine ⟨h, ?_⟩
    rw [hsame, he, finish_carries s0 s .present h f (by rw [hown, hsame, he])]

end Sys2Proof.Machine
end

section
/-! PROOF. Settles O51: JOIN and DEPART. -/

namespace Sys2Proof.Machine

open Sys2Proof.Config

variable {s t u : State}

/-! ## What the fan target reads, through the entry into JOINING -/

@[simp] theorem updateForcing_kept (s : State) :
    (updateForcing s).announce = s.announce ∧ (updateForcing s).cool.target = s.cool.target := by
  have hduty (d : Nat) (v : State) : (setDuty d v).announce = v.announce ∧
      (setDuty d v).cool.target = v.cool.target := by
    unfold setDuty
    split <;> simp
  unfold updateForcing
  (repeat' split) <;> simp [hduty]

@[simp] theorem updateGoodRun_announce (s : State) : (updateGoodRun s).announce = s.announce := by
  unfold updateGoodRun
  split
  · split <;> rfl
  · rfl

@[simp] theorem enableOutput_announce (s : State) : (enableOutput s).announce = s.announce := by
  unfold enableOutput
  split <;> rfl

@[simp] theorem stopAsking_announce (s : State) : (stopAsking s).announce = s.announce := rfl

theorem changeState_sighted (st : StationState) (c : Cause) (h : Sighted s u) : Sighted s (changeState st c u) := by
  have hkept : (u.announce = true → (changeState st c u).announce = true) ∧
      (changeState st c u).cool.target = u.cool.target := by
    unfold changeState
    dsimp only
    split
    · simp
    · exact ⟨fun ha => by simp [closeWindow, ha], by simp⟩
  exact h.same ⟨by simp, by simp, by simp, by simp, hkept.2, hkept.1⟩

theorem enterJoining_sighted (c : Cause) (h : Sighted s u) : Sighted s (enterJoining c u) :=
  reevaluate_sighted ((changeState_sighted .joining c (u := { u with st.drops := 0 })
    (h.same ⟨rfl, rfl, rfl, rfl, rfl, id⟩)).same (by simp [SameSight]))

@[simp] theorem offerGive_announce (x : Nat) (s : State) : (offerGive x s).announce = s.announce := by
  have hreported (v : State) : (giveReported x v).announce = v.announce := by
    unfold giveReported
    split <;> rfl
  have hoffer (m : Msg) (v : State) : (offerNormal m v).1.announce = v.announce := by
    unfold offerNormal
    (repeat' split) <;> rfl
  unfold offerGive
  split
  · rfl
  · dsimp only
    split
    · rfl
    · split
      · rfl
      · split
        all_goals
          rename_i ho
          obtain rfl := offerNormal_of ho
          simp [hreported, hoffer, mapEscrow]

@[simp] theorem resend_announce (e : Escrow) (s : State) : (resend s e).announce = s.announce := by
  unfold resend offerStored
  split
  · rfl
  · split <;> simp [mapEscrow]

@[simp] theorem resendAll_announce (s : State) : (resendAll s).announce = s.announce :=
  foldl_same (g := (·.announce)) (by simp) _ s

theorem resendAll_sighted (h : Sighted s u) : Sighted s (resendAll u) := h.same (by simp [SameSight])

@[simp] theorem reportExhausted_frame (s : State) :
    (reportExhausted s).now = s.now ∧ (reportExhausted s).st = s.st ∧ (reportExhausted s).link = s.link ∧
    (reportExhausted s).view = s.view ∧ (reportExhausted s).cool = s.cool ∧ (reportExhausted s).sup = s.sup ∧
    (reportExhausted s).seat = s.seat ∧ (reportExhausted s).zone = s.zone ∧ (reportExhausted s).dep = s.dep ∧
    (reportExhausted s).host.slot = s.host.slot ∧ (reportExhausted s).host.cursor = s.host.cursor ∧
    (reportExhausted s).host.out = s.host.out := by
  unfold reportExhausted
  split <;> simp

@[simp] theorem reportExhausted_announce (s : State) : (reportExhausted s).announce = s.announce := by
  unfold reportExhausted
  split <;> simp

theorem reportExhausted_sighted (h : Sighted s u) : Sighted s (reportExhausted u) := h.same (by simp [SameSight])

/-! ## JOIN -/

/-- JOIN makes the own entry PRESENT, and its ROLLCALL due (R41, R44). -/
theorem buildOwn_own (s : State) : (entryAt (buildOwn s) (ownAddr s)).presence? = some .present ∧
    (buildOwn s).announce = true := by
  generalize hv : setEntry (ownAddr s) (.known .present s.now (ownRoll s)) s = v
  have hset : entryAt v (ownAddr s) = .known .present s.now (ownRoll s) := by simp [← hv, entryAt, setEntry]
  have hown : ownAddr v = ownAddr s := by simp [← hv, ownAddr]
  have hpresent : (entryAt (refresh v) (ownAddr s)).presence? = some .present := by
    rw [← hown, (refresh_sighted (.refl v)).own, hown, hset]
    rfl
  have hsome : (ownRecorded (refresh v)).isSome = true := by
    have haddr : ownAddr (refresh v) = ownAddr s := by simpa [ownAddr] using hown
    rw [ownRecorded, isSome_fields, haddr, hpresent]
    rfl
  unfold buildOwn
  rw [hv]
  exact ⟨by simpa [entryAt] using hpresent, by simp [noteChange, hsome]⟩

/-- The entry into JOINING drives a SUPPLY station's output enable (R105). -/
theorem enterJoining_enable (c : Cause) (s : State) (h : role s = .supply) : (enterJoining c s).sup.enable = true := by
  have hrun (v : State) : (updateGoodRun v).sup.enable = v.sup.enable := by
    unfold updateGoodRun
    split
    · split <;> rfl
    · rfl
  have hrole : role (changeState .joining c { s with st.drops := 0 }) = .supply := by simpa [role] using h
  simp [enterJoining, hrun, enableOutput, hrole]

theorem joinUp_st (s : State) : (joinUp s).st.state = .joining ∧ (joinUp s).st.joinTimer = some (s.now + ms 1000) ∧
    (joinUp s).st.silence = some (s.now + ms 2000) ∧ (joinUp s).st.silenceArmed = false ∧
    (joinUp s).link.listenFrom = s.now ∧ (joinUp s).link.idleFrom = s.now := by
  simp [joinUp, silenceUnarmed, startLink]

theorem joinUp_rest (s : State) : RestKept s (joinUp s) :=
  SameRest.rest (by simp [SameRest, joinUp, silenceUnarmed])

/-- From the own entry's building on, JOIN leaves what the fan target reads. -/
theorem joinUp_sighted (s : State) :
    Sighted (buildOwn { s with link := startLink s.now s.link }) (joinUp s) :=
  resendAll_sighted (enterJoining_sighted _ ((Sighted.refl _).same ⟨rfl, rfl, rfl, rfl, rfl, id⟩))

theorem joinUp_own (s : State) : (entryAt (joinUp s) (ownAddr s)).presence? = some .present ∧
    (joinUp s).announce = true := by
  obtain ⟨hpresent, hannounce⟩ := buildOwn_own { s with link := startLink s.now s.link }
  have hown := (joinUp_sighted s).own
  rw [ownAddr, (buildOwn_frame _).2.2.1] at hown
  exact ⟨hown.trans hpresent, (joinUp_sighted s).announce hannounce⟩

theorem joinUp_enable (s : State) (h : role s = .supply) : (joinUp s).sup.enable = true := by
  have hrole : role (silenceUnarmed (buildOwn { s with link := startLink s.now s.link })) = .supply := by
    simpa [role, silenceUnarmed] using h
  simpa [joinUp] using enterJoining_enable .join _ hrole

/-- A command taken and answered, before its effect. -/
def replied (st : Status) (tag : Byte) (s : State) : State := reply st [] (taken tag s)

@[simp] theorem replied_frame (st : Status) (tag : Byte) (s : State) :
    (replied st tag s).now = s.now ∧ (replied st tag s).draws = s.draws ∧ (replied st tag s).st = s.st ∧
    (replied st tag s).store = s.store ∧ (replied st tag s).link = s.link ∧ (replied st tag s).view = s.view ∧
    (replied st tag s).cool = s.cool ∧ (replied st tag s).sup = s.sup ∧ (replied st tag s).seat = s.seat ∧
    (replied st tag s).port = s.port ∧ (replied st tag s).zone = s.zone ∧ (replied st tag s).dep = s.dep ∧
    (replied st tag s).host.notices = s.host.notices ∧ (replied st tag s).host.out = [statusByte s] := by
  simp [replied, reply]

/-- An effect that leaves the port and the sensing, after the answer: the reply stands at the step's end. -/
theorem replied_finish {s0 : State} {st : Status} {tag : Byte} (h : RestKept (replied st tag s) u) :
    Replied s (finish s0 u) st tag [] ∧ SenseKept s (finish s0 u) ∧ DurableKept s (finish s0 u) := by
  obtain ⟨hsense, hport, hdurable⟩ := h.trans (finish_rest s0 u)
  have rsense : SenseKept s (replied st tag s) := by constructor <;> simp
  have rdurable : DurableKept s (replied st tag s) := by constructor <;> simp
  exact ⟨⟨by rw [hport.slot]; rfl, by rw [hport.out]; simp⟩, rsense.trans hsense, rdurable.trans hdurable⟩

theorem reportExhausted_rest (s : State) : RestKept s (reportExhausted s) := SameRest.rest (by simp [SameRest])

theorem judgeJoin_setup {tag : Byte} {p : List Byte} (he : s.st.ejectOpen = false) (hs : s.st.state = .setup) :
    judgeJoin p (taken tag s) = reportExhausted (joinUp (replied .accepted tag s)) := by
  unfold judgeJoin
  rw [if_neg (by simp [he])]
  simp only [taken_frame, hs]
  rfl

theorem judgeJoin_departed {tag : Byte} {p : List Byte} (he : s.st.ejectOpen = false) (hs : s.st.state = .departed)
    (ht : s.cool.thermal ≠ .shutdown) :
    judgeJoin p (taken tag s) = reportExhausted (rejoin .join (replied .accepted tag s)) := by
  unfold judgeJoin
  rw [if_neg (by simp [he])]
  simp only [taken_frame, hs]
  exact if_neg ht

theorem join_of_setup {tag : Byte} (hj : Judges s) (he : s.st.ejectOpen = false) (hs : s.st.state = .setup) :
    ∃ t, exec (.join [tag, 0#8]) s = .next t ∧
      Replied s t .accepted tag [] ∧ SenseKept s t ∧ DurableKept s t ∧ t.st.state = .joining ∧
      t.st.joinTimer = some (s.now + ms 1000) ∧
      t.st.silence = some (s.now + ms 2000) ∧ t.st.silenceArmed = false ∧
      (∃ h, entryAt t (ownAddr s) = .known .present h (ownRoll t)) ∧ (role s = .supply → t.sup.enable = true) ∧
      t.link.listenFrom = s.now ∧ t.link.idleFrom = s.now ∧ (role s = .fan → t.cool.target = fanTarget t) := by
  have htaken := transact_taken (len := 0) (judge := judgeJoin) (tag := tag) (l := 0#8) (p := []) hj rfl rfl
  rw [judgeJoin_setup he hs] at htaken
  have hown : ownAddr (replied .accepted tag s) = ownAddr s := by simp [ownAddr]
  obtain ⟨hreplied, hsense, hdurable⟩ := replied_finish (s0 := taken tag s)
    ((joinUp_rest (replied .accepted tag s)).trans (reportExhausted_rest _))
  obtain ⟨hstate, hjoin, hsilence, harmed, hlisten, hidle⟩ := joinUp_st (replied .accepted tag s)
  obtain ⟨hpresent, hannounce⟩ := joinUp_own (replied .accepted tag s)
  have henable := joinUp_enable (replied .accepted tag s)
  have hstraps := (joinUp_rest (replied .accepted tag s)).2.2.straps
  generalize joinUp (replied .accepted tag s) = v at *
  have hne : (reportExhausted v).st.state ≠ .departing := by simp [hstate]
  have hst := ((finish_follows (taken tag s) (reportExhausted v)).still hne).1
  have hlink := finish_link (taken tag s) (reportExhausted v)
  have haddr : ownAddr (reportExhausted v) = ownAddr s := by simp [ownAddr, hstraps]
  refine ⟨_, htaken, hreplied, hsense, hdurable, by simpa [hst] using hstate, by simpa [hst] using hjoin,
    by simpa [hst] using hsilence, by simpa [hst] using harmed, ?own, fun hr => ?enable,
    by simpa [hlink.listenFrom] using hlisten, by simpa [hlink.idleFrom] using hidle, fun hr => ?target⟩
  case own =>
    rw [← haddr]
    refine finish_own (taken tag s) hne ?_
    rw [haddr, ← hown]
    simpa [entryAt] using hpresent
  case enable =>
    rw [(finish_frame (taken tag s) _ hne).2.2.2.1]
    simpa using henable (by simpa [role] using hr)
  case target =>
    exact finish_target (taken tag s) hne (by simpa using hannounce) (by simpa [role, hstraps] using hr)

/-- A command refused: the slot holds the refusal, and the station moves only along a departure. -/
theorem refused_finish {tag : Byte} (s0 : State) (st : Status) :
    Replied s (finish s0 (refuse st (taken tag s))) st tag [] ∧
    (s.st.state ≠ .departing → (finish s0 (refuse st (taken tag s))).st = s.st) := by
  refine ⟨finish_replied rfl (by simp [refuse]), fun hd => ?_⟩
  rw [((finish_follows s0 (refuse st (taken tag s))).still (by simpa [refuse] using hd)).1]
  simp [refuse]

/-- Settles O51. -/
theorem joinAndDepart : Obligations.JoinAndDepart := by
  unfold Obligations.JoinAndDepart
  intro s tag hj
  have hjoin := transact_taken (len := 0) (judge := judgeJoin) (tag := tag) (l := 0#8) (p := []) hj rfl rfl
  have hdepart := transact_taken (len := 0) (judge := judgeDepart) (tag := tag) (l := 0#8) (p := []) hj rfl rfl
  refine ⟨join_of_setup hj, fun he hs ht => ?returns, fun he => ?latchOpen, fun hs => ?departs, fun hs => ?marks,
    fun hs => ?refused⟩
  case returns =>
    rw [judgeJoin_departed he hs ht] at hjoin
    obtain ⟨hreplied, hsense, hdurable⟩ := replied_finish (s0 := taken tag s)
      ((rejoin_aside .join (replied .accepted tag s)).rest.trans (reportExhausted_rest _))
    obtain ⟨hstate, hready, hkind, -, -, -⟩ := rejoin_st .join (replied .accepted tag s)
    generalize rejoin .join (replied .accepted tag s) = v at *
    have hne : (reportExhausted v).st.state ≠ .departing := by
      rw [(reportExhausted_frame v).2.1, hstate]
      split <;> simp
    obtain ⟨hst, hdep, -⟩ := (finish_follows (taken tag s) (reportExhausted v)).still hne
    exact ⟨_, hjoin, hreplied, hsense, hdurable, by simpa [hst] using hready, by simpa [hdep] using hkind,
      by simpa [hst] using hstate⟩
  case latchOpen =>
    have hjudge : judgeJoin [] (taken tag s) = refuse .wrongState (taken tag s) := if_pos (by simpa using he)
    rw [hjudge] at hjoin
    obtain ⟨hreplied, hst⟩ := refused_finish (taken tag s) (s := s) (tag := tag) .wrongState
    exact ⟨_, hjoin, hreplied, hst⟩
  case departs =>
    have hjudge : judgeDepart [] (taken tag s) = enterDeparting .departCommand false (replied .accepted tag s) := by
      obtain hs | hs := hs <;> simp [judgeDepart, hs, replied]
    rw [hjudge] at hdepart
    obtain ⟨hreplied, hsense, hdurable⟩ := replied_finish (s0 := taken tag s)
      (enterDeparting_aside .departCommand false (replied .accepted tag s)).rest
    obtain ⟨hstate, hkind⟩ := departing_finish (s0 := taken tag s)
      (enterDeparting_st .departCommand false (replied .accepted tag s)).1 (enterDeparting_kind _ _)
    exact ⟨_, hdepart, hreplied, hsense, hdurable, hstate, hkind⟩
  case marks =>
    have hjudge : judgeDepart [] (taken tag s) = { replied .accepted tag s with st.pend := .command } := by
      simp [judgeDepart, hs, replied, reply, answer]
    rw [hjudge] at hdepart
    obtain ⟨hreplied, hsense, hdurable⟩ := replied_finish (s := s) (tag := tag) (s0 := taken tag s)
      (st := .accepted) (u := { replied .accepted tag s with st.pend := .command }) (SameRest.rest (by simp [SameRest]))
    have hst := ((finish_follows (taken tag s) { replied .accepted tag s with st.pend := .command }).still
      (by simp [hs])).1
    exact ⟨_, hdepart, hreplied, hsense, hdurable, by simpa using hst⟩
  case refused =>
    have hjudge : judgeDepart [] (taken tag s) = refuse .wrongState (taken tag s) := by
      obtain hs | hs := hs <;> simp [judgeDepart, hs]
    rw [hjudge] at hdepart
    obtain ⟨hreplied, hst⟩ := refused_finish (taken tag s) (s := s) (tag := tag) .wrongState
    exact ⟨_, hdepart, hreplied, hst (by obtain hs | hs := hs <;> simp [hs])⟩

end Sys2Proof.Machine
end

section
/-! PROOF. Settles O52: LINK-RESTART. -/

namespace Sys2Proof.Machine

open Sys2Proof.Config

variable {s t u : State}

/-! ## What the end of a step leaves of an asking that is not due -/

/-- A station that is not short asks nothing: its episode closes (R115, R116). -/
theorem asked_of_calm (s0 : State) (h : isShort s = false) : (asked s0 s).link = s.link ∧
    (asked s0 s).seat.phase = s.seat.phase ∧ (asked s0 s).st = s.st := by
  have hjudge : judgeAsk s = { s with seat.episode := false } := if_neg (by simp [h])
  unfold asked
  split
  · simp [hjudge]
  · simp

/-- At a station that is not short a step's end moves no frame but the ROLLCALL outside DEPARTING. -/
theorem finish_normal_of_calm (s0 : State) (h : isShort s = false) (hd : s.st.state ≠ .departing) :
    withoutRollcall (finish s0 s).link.normal = withoutRollcall s.link.normal := by
  obtain ⟨hlink, -, -⟩ := asked_of_calm s0 h
  rw [finish_eq]
  simp only [handed, departProgress_of_ne _ _ (show (asked s0 s).st.state ≠ .departing by simpa using hd)]
  split <;> simp [hlink]

@[simp] theorem beginWrites_phase (s : State) : (beginWrites s).seat.phase = s.seat.phase := by
  unfold beginWrites
  dsimp only
  split <;> split <;> simp

theorem finish_phase_of_calm (s0 : State) (h : isShort s = false) (hd : s.st.state ≠ .departing) :
    (finish s0 s).seat.phase = s.seat.phase := by
  obtain ⟨-, hphase, -⟩ := asked_of_calm s0 h
  rw [finish_eq]
  simp only [handed, departProgress_of_ne _ _ (show (asked s0 s).st.state ≠ .departing by simpa using hd)]
  split <;> simp [hphase]

/-! ## A forced duty stands -/

/-- Forcing is on, with its duty and the time of its last change (R91, R94). -/
def Forced (duty last : Nat) (s : State) : Prop :=
  s.cool.forcing = true ∧ s.cool.duty = duty ∧ s.cool.lastDuty = last

theorem Forced.same {d l : Nat} (h : Forced d l s) (e : t.cool = s.cool) : Forced d l t := by
  rw [Forced, e]
  exact h

/-- With forcing on a target is recorded only (R91). -/
theorem retarget_forced {d l : Nat} (h : Forced d l s) : Forced d l (retarget s) := by
  unfold retarget
  split
  · dsimp only
    rw [if_pos h.1]
    exact h
  · exact h

theorem propagate_forced {d l : Nat} (fuel : Nat) (h : Forced d l s) : Forced d l (propagate fuel s) := by
  induction fuel generalizing s with
  | zero => exact h.same (by simp [propagate])
  | succ fuel ih =>
    unfold propagate
    dsimp only
    split
    · exact h.same (by simp)
    · exact ih ((retarget_forced (h.same (t := refresh s) (by simp))).same (by simp))

theorem handOn_forced {d l : Nat} (h : Forced d l s) : Forced d l (handOn s) := by
  unfold handOn
  split
  · exact propagate_forced _ (retarget_forced h)
  · exact propagate_forced _ h

theorem finish_forced {d l : Nat} (s0 : State) (hd : s.st.state ≠ .departing) (h : Forced d l s) :
    Forced d l (finish s0 s) := by
  have hhanded : Forced d l (handed s0 s) := by
    unfold handed
    rw [departProgress_of_ne _ _ (by simpa using hd)]
    refine handOn_forced (h.same ?_)
    unfold asked
    split <;> simp
  have hsettled : Forced d l (settled s0 s) := by
    unfold settled
    split
    · exact handOn_forced (hhanded.same (by simp))
    · exact hhanded
  exact hsettled.same (by rw [finish_settled]; simp)

/-- Outside ACTIVE a FAN station is forced to 100 (R91). -/
theorem changeState_forced (c : Cause) (hr : role s = .fan) (hf : s.cool.forcing = false) (hlow : s.cool.duty < 100) :
    Forced 100 s.now (changeState .joining c s) := by
  have hforced (v : State) (hv : v.st.straps = s.st.straps) (hst : v.st.state = .joining) (hcool : v.cool = s.cool)
      (hnow : v.now = s.now) : Forced 100 s.now (updateForcing v) := by
    have hrole : role v = .fan := by rw [role, hv]; exact hr
    unfold updateForcing
    rw [if_pos hrole, if_pos (by simp [forcingNow, hst]), if_neg (by simp [hcool, hf])]
    simp [Forced, setDuty, hcool, hnow, show 100 ≠ s.cool.duty by omega]
  have hrun {v : State} (h : Forced 100 s.now v) : Forced 100 s.now (updateGoodRun v) := h.same (by simp)
  unfold changeState
  dsimp only
  rw [if_neg (by simp)]
  exact hrun (hforced _ (by simp) (by simp) (by simp) (by simp))

/-! ## The frames that a restart offers -/

/-- Every frame is a SEAT-GIVE. -/
def OnlyGives (l : List Msg) : Prop := ∀ m ∈ l, ∃ x a n c, m = Msg.seatGive x a n c

/-- A SEAT-GIVE is offered, or the link stands (R120). -/
def GiveOffered (s t : State) : Prop :=
  t.st.state = s.st.state ∧ (t.link = s.link ∨ ∃ x a n c, t.link = (sendNormal (.seatGive x a n c) s).link)

/-- What an offer does to the link reads the link and the station state. -/
theorem offerNormal_link (m : Msg) (hlink : t.link = s.link) (hst : t.st.state = s.st.state) :
    (offerNormal m t).1.link = (offerNormal m s).1.link := by
  have hsend : sending t = sending s := by rw [sending, hst, sending]
  unfold offerNormal
  rw [hsend, hlink]
  split
  · exact hlink
  · split
    · simp [kick]
    · exact hlink

theorem offerGive_offered (x : Nat) (hlink : u.link = s.link) (hst : u.st.state = s.st.state) :
    GiveOffered s (offerGive x u) := by
  have hreported (v : State) : (giveReported x v).link = v.link := by
    unfold giveReported
    split <;> rfl
  refine ⟨by simpa using hst, ?_⟩
  unfold offerGive
  split
  · exact .inl hlink
  · rename_i e _
    dsimp only
    split
    · exact .inl hlink
    · split
      · exact .inl hlink
      · have hoffer := offerNormal_link (s := s) (.seatGive e.xfer e.rcpt e.ask e.count)
          (t := mapEscrow x (fun e => { e with tries := count8 e.tries, timer := none }) u) hlink hst
        split
        all_goals
          rename_i ho
          obtain rfl := offerNormal_of ho
        · exact .inr ⟨_, _, _, _, hoffer⟩
        · exact .inr ⟨_, _, _, _, (hreported _).trans hoffer⟩
        · exact .inr ⟨_, _, _, _, hoffer⟩

theorem resend_offered (e : Escrow) (s : State) : GiveOffered s (resend s e) := by
  unfold resend offerStored
  split
  · exact ⟨rfl, .inl rfl⟩
  · split
    · exact ⟨rfl, .inl rfl⟩
    · exact offerGive_offered _ rfl rfl

theorem resendAll_tx (h : TxKept s u) : TxKept s (resendAll u) := by
  unfold resendAll
  induction u.seat.escrow generalizing u with
  | nil => exact h
  | cons e l ih =>
    refine ih ?_
    obtain ⟨-, hlink | ⟨x, a, n, c, hlink⟩⟩ := resend_offered e u
    · exact h.same hlink
    · exact (sendNormal_tx _ h).same hlink

theorem sendNormal_normal (m : Msg) (s : State) : ∀ k ∈ (sendNormal m s).link.normal, k ∈ s.link.normal ∨ k = m := by
  intro k hk
  unfold sendNormal offerNormal at hk
  split at hk
  · exact .inl hk
  · split at hk
    · simpa using hk
    · exact .inl hk

/-- A restart's resends bring no other frame. -/
theorem resendAll_normal (h : OnlyGives s.link.normal) : OnlyGives (resendAll s).link.normal := by
  unfold resendAll
  induction s.seat.escrow generalizing s with
  | nil => exact h
  | cons e l ih =>
    refine ih ?_
    obtain ⟨-, hlink | ⟨x, a, n, c, hlink⟩⟩ := resend_offered e s
    · rw [hlink]
      exact h
    · rw [hlink]
      intro m hm
      obtain hm | rfl := sendNormal_normal _ _ m hm
      · exact h m hm
      · exact ⟨x, a, n, c, rfl⟩

/-- Resending leaves the asking and the answering. -/
@[simp] theorem offerGive_asking (x : Nat) (s : State) : (offerGive x s).seat.phase = s.seat.phase ∧
    (offerGive x s).seat.answers = s.seat.answers := by
  have hreported (v : State) : (giveReported x v).seat.phase = v.seat.phase ∧
      (giveReported x v).seat.answers = v.seat.answers := by
    unfold giveReported
    split <;> exact ⟨rfl, rfl⟩
  unfold offerGive
  split
  · simp
  · dsimp only
    split
    · simp
    · split
      · simp [mapEscrow]
      · split
        all_goals
          rename_i ho
          obtain rfl := offerNormal_of ho
          simp [mapEscrow, hreported]

@[simp] theorem resendAll_asking (s : State) : (resendAll s).seat.phase = s.seat.phase ∧
    (resendAll s).seat.answers = s.seat.answers := by
  have hresend (v : State) (e : Escrow) : (resend v e).seat.phase = v.seat.phase ∧
      (resend v e).seat.answers = v.seat.answers := by
    unfold resend offerStored
    split
    · exact ⟨rfl, rfl⟩
    · split <;> simp [mapEscrow]
  exact ⟨foldl_same (g := (·.seat.phase)) (by simp [hresend]) _ s,
    foldl_same (g := (·.seat.answers)) (by simp [hresend]) _ s⟩

/-- Outside ACTIVE no ask is outstanding and no answer pending (R116, R118). -/
@[simp] theorem enterJoining_asking (c : Cause) (s : State) : (enterJoining c s).seat.phase = .idle ∧
    (enterJoining c s).seat.answers = [] := by
  simp [enterJoining, changeState, stopAsking]

/-! ## The zoning unit at a restart -/

theorem restartZoning_quiet (h : s.zone.commitPending = true ∨ s.zone.lock = .free ∨ s.zone.lock = .applying) :
    restartZoning s = s := by
  unfold restartZoning
  obtain h | h | h := h
  · rw [if_pos h]
  · simp [h]
  · simp [h]

theorem restartZoning_receiver (hc : s.zone.commitPending = false)
    (h : s.zone.lock = .receiving ∨ s.zone.lock = .ready) :
    restartZoning s = restartReceiver s := by
  obtain h | h := h <;> simp [restartZoning, hc, h]

theorem restartZoning_origin (hc : s.zone.commitPending = false)
    (h : s.zone.lock = .publishing ∨ s.zone.lock = .collecting) : restartZoning s = restartOrigin s := by
  obtain h | h := h <;> simp [restartZoning, hc, h]

/-- An originator's set dropped is reported as abandoned by LINK-RESTART (R158). -/
theorem restartOrigin_notice (h : s.host.notices.length < noticeCap) :
    ∃ n ∈ (restartOrigin s).host.notices, n.kind = .zoneResult ∧ n.subject = s.zone.proposed.getD 0 ∧
      n.detail = bOpt (s.zone.origin.map (·.val)) ++ b1 abandonedCode ++ b1 Reason.linkRestart.code := by
  obtain ⟨n, hn, hkind, hsubject, hdetail⟩ := raise_mem (s := freeLock (dropUnoffered s)) (k := .zoneResult)
    (n := s.zone.proposed.getD 0) (d := bOpt (s.zone.origin.map (·.val)) ++ b1 abandonedCode ++
      b1 Reason.linkRestart.code ++ []) (by simpa [freeLock, dropUnoffered] using h)
  refine ⟨n, hn, hkind, hsubject, ?_⟩
  rw [hdetail, List.append_nil, List.take_of_length_le]
  cases s.zone.origin <;> simp [bOpt, b1]

/-! ## LINK-RESTART -/

/-- Every peer's entry becomes EMPTY (R50). -/
theorem emptyPeers_entry {a : Addr} (h : a ≠ ownAddr s) : entryAt (emptyPeers s) a = .empty := by
  have hfold (l : List Addr) (v : State) (hv : a ∈ l ∨ entryAt v a = .empty) :
      entryAt (l.foldl (fun v b => setEntry b .empty v) v) a = .empty := by
    induction l generalizing v with
    | nil => simpa using hv
    | cons b l ih =>
      refine ih _ ?_
      by_cases hb : a = b
      · exact .inr (by simp [entryAt, setEntry, hb])
      · refine hv.imp (fun hm => (List.mem_cons.mp hm).resolve_left hb) fun he => ?_
        rw [← he]
        simp only [entryAt, setEntry]
        exact Vector.getElem_set_ne _ _ (fun h => hb (Fin.ext h.symm))
  exact hfold _ _ (.inl (by simpa [peers] using h))

/-- The link restarted, the view of the peers emptied and the asking stopped (R31, R50, R116). -/
def restartCleared (s : State) : State := stopAsking (emptyPeers { s with link := restartLink s.now s.link })

/-- JOINING entered again (R18). -/
def restartJoined (s : State) : State :=
  enterJoining .linkRestart (silenceUnarmed (restartZoning (restartCleared s)))

/-- The ROLLCALL of the entry is due even from JOINING (R41). -/
def rollcallDue (s : State) : State := { s with announce := true }

@[simp] theorem rollcallDue_frame (s : State) :
    (rollcallDue s).now = s.now ∧ (rollcallDue s).st = s.st ∧ (rollcallDue s).store = s.store ∧
    (rollcallDue s).link = s.link ∧ (rollcallDue s).view = s.view ∧ (rollcallDue s).cool = s.cool ∧
    (rollcallDue s).seat = s.seat ∧ (rollcallDue s).zone = s.zone ∧ (rollcallDue s).host = s.host ∧
    (rollcallDue s).announce = true :=
  ⟨rfl, rfl, rfl, rfl, rfl, rfl, rfl, rfl, rfl, rfl⟩

theorem restart_eq (s : State) :
    restart s = rollcallDue (resendAll (restartGoodRun (retarget (restartJoined s)))) := by
  unfold restart rollcallDue restartJoined restartCleared
  rfl

@[simp] theorem restartCleared_frame (s : State) :
    (restartCleared s).now = s.now ∧ (restartCleared s).st = s.st ∧ (restartCleared s).zone = s.zone ∧
    (restartCleared s).cool = s.cool ∧ (restartCleared s).host = s.host ∧
    (restartCleared s).link = restartLink s.now s.link ∧ (restartCleared s).seat.free = s.seat.free ∧
    (restartCleared s).seat.receipts = s.seat.receipts ∧ (restartCleared s).seat.serial = s.seat.serial ∧
    (restartCleared s).view.faultLow = s.view.faultLow ∧ (restartCleared s).view.faultMeasure = s.view.faultMeasure ∧
    (restartCleared s).view.faultSet = s.view.faultSet := by
  simp [restartCleared, stopAsking]

@[simp] theorem restartJoined_zone (s : State) : (restartJoined s).zone = (restartZoning (restartCleared s)).zone := by
  simp [restartJoined, silenceUnarmed]

theorem restartJoined_rest (s : State) : RestKept s (restartJoined s) := by
  have hcleared : RestKept s (silenceUnarmed (restartZoning (restartCleared s))) :=
    SameRest.rest (by simp [SameRest, silenceUnarmed])
  exact hcleared.trans (SameRest.rest (by simp [SameRest, restartJoined]))

theorem restart_rest (s : State) : RestKept s (restart s) :=
  (restartJoined_rest s).trans (SameRest.rest (by simp [SameRest, restart_eq]))

theorem restart_st (s : State) : (restart s).st.state = .joining ∧ (restart s).st.joinTimer = some (s.now + ms 1000) ∧
    (restart s).st.silence = some (s.now + ms 2000) ∧ (restart s).st.silenceArmed = false ∧
    (restart s).st.drops = 0 ∧ (restart s).now = s.now := by
  simp [restart_eq, restartJoined, silenceUnarmed]

theorem restart_link (s : State) : (restart s).link.counters = Counters.zero ∧ (restart s).link.rx = [] ∧
    (restart s).link.hold = none ∧ (restart s).link.guard = .clear ∧ (restart s).link.listenFrom = s.now ∧
    (restart s).link.idleFrom = s.now := by
  simp [restart_eq, restartJoined, silenceUnarmed, restartLink, Link.clear]

theorem restart_queues (s : State) : (restart s).link.urgent = [] ∧ OnlyGives (restart s).link.normal := by
  have hcleared : (restartGoodRun (retarget (restartJoined s))).link = restartLink s.now s.link := by
    simp [restartJoined, silenceUnarmed]
  rw [restart_eq, (rollcallDue_frame _).2.2.2.1]
  generalize restartGoodRun (retarget (restartJoined s)) = v at hcleared
  have hempty : OnlyGives v.link.normal := by simp [hcleared, OnlyGives, restartLink, Link.clear]
  refine ⟨?_, resendAll_normal hempty⟩
  rw [(resendAll_tx (.refl v)).urgent, hcleared]
  rfl

theorem restart_seat (s : State) : (restart s).seat.free = s.seat.free ∧ (restart s).seat.answers = [] ∧
    (restart s).seat.phase = .idle := by
  have hfree (c : Cause) (v : State) : (enterJoining c v).seat.free = v.seat.free := by simp [enterJoining]
  have hjoined : (restartJoined s).seat.free = s.seat.free ∧ (restartJoined s).seat.answers = [] ∧
      (restartJoined s).seat.phase = .idle := by
    unfold restartJoined
    rw [hfree]
    simp [silenceUnarmed]
  simpa [restart_eq] using hjoined

theorem restart_entry {a : Addr} (h : a ≠ ownAddr s) : entryAt (restart s) a = .empty := by
  have hcleared : entryAt (restartCleared s) a = .empty :=
    emptyPeers_entry (s := { s with link := restartLink s.now s.link }) h
  have hjoined := enterJoining_peers .linkRestart (silenceUnarmed (restartZoning (restartCleared s))) a
    (by simpa [ownAddr, silenceUnarmed] using h)
  have hentry : entryAt (restart s) a = entryAt (restartJoined s) a := by simp [restart_eq, entryAt]
  rw [hentry]
  refine hjoined.trans (Eq.trans ?_ hcleared)
  simp [entryAt, silenceUnarmed]

theorem restart_zone (s : State) : (restart s).zone = (restartZoning (restartCleared s)).zone := by
  simp [restart_eq]

theorem restart_forced (hr : role s = .fan) (hf : s.cool.forcing = false) (hlow : s.cool.duty < 100) :
    Forced 100 s.now (restart s) := by
  have hjoined : Forced 100 s.now (restartJoined s) := by
    have hchanged := changeState_forced .linkRestart
      (s := { silenceUnarmed (restartZoning (restartCleared s)) with st.drops := 0 })
      (by simpa [role, silenceUnarmed] using hr) (by simpa [silenceUnarmed] using hf)
      (by simpa [silenceUnarmed] using hlow)
    have hnow : (silenceUnarmed (restartZoning (restartCleared s))).now = s.now := by simp [silenceUnarmed]
    rw [← hnow]
    exact hchanged.same (by simp [restartJoined, enterJoining])
  exact (retarget_forced hjoined).same (by simp [restart_eq])

/-- The originator's notice stands among those of the restart. -/
theorem restart_notices (h : s.st.state ≠ .departing ∧ s.st.state ≠ .departed) :
    (restartZoning (restartCleared s)).host.notices <+: (restart s).host.notices := by
  have hjoin := enterJoining_keeps (c := .linkRestart) (silenceUnarmed_keeps (Keeps.refl
    (restartZoning (restartCleared s)))) (fun _ => by simpa [silenceUnarmed] using h)
  have hkept := resendAll_keeps (restartGoodRun_keeps (retarget_keeps hjoin))
  rw [restart_eq, restartJoined]
  simpa using hkept.notices

theorem judgeRestart_taken {tag : Byte} {p : List Byte}
    (h : s.st.state = .joining ∨ s.st.state = .active ∨ (s.st.state = .isolated ∧ s.st.clash = false)) :
    judgeRestart p (taken tag s) = restart (replied .ok tag s) := by
  obtain h | h | ⟨h, hc⟩ := h <;> simp [judgeRestart, replied, *]

/-- Settles O52: the restart's own effect; the end of its step adds a ROLLCALL and moves nothing else named here. -/
theorem linkRestarts : Obligations.LinkRestarts := by
  unfold Obligations.LinkRestarts
  intro s tag hj hs
  have htaken := transact_taken (len := 0) (judge := judgeRestart) (tag := tag) (l := 0#8) (p := []) hj rfl rfl
  rw [judgeRestart_taken hs] at htaken
  obtain ⟨hreplied, hsense, hdurable⟩ := replied_finish (s0 := taken tag s) (restart_rest (replied .ok tag s))
  obtain ⟨hstate, hjoin, hsilence, harmed, hdrops, hnow⟩ := restart_st (replied .ok tag s)
  obtain ⟨hcounters, hrx, hhold, hguard, hlisten, hidle⟩ := restart_link (replied .ok tag s)
  obtain ⟨hurgent, hnormal⟩ := restart_queues (replied .ok tag s)
  obtain ⟨hfree, hanswers, hphase⟩ := restart_seat (replied .ok tag s)
  have hzone := restart_zone (replied .ok tag s)
  have hnotices := restart_notices (s := replied .ok tag s) (by obtain h | h | ⟨h, -⟩ := hs <;> simp [h])
  have hempty (a : Addr) (ha : a ≠ ownAddr s) : entryAt (restart (replied .ok tag s)) a = .empty :=
    restart_entry (by simpa [ownAddr] using ha)
  have hforced (hr : role s = .fan) (hf : s.cool.forcing = false) (hlow : s.cool.duty < 100) :
      Forced 100 s.now (restart (replied .ok tag s)) := by
    simpa using restart_forced (s := replied .ok tag s) (by simpa [role] using hr) (by simpa using hf)
      (by simpa using hlow)
  have hstraps : (restart (replied .ok tag s)).st.straps = s.st.straps := by
    simpa using (restart_rest (replied .ok tag s)).2.2.straps
  have hannounce : (restart (replied .ok tag s)).announce = true := by simp [restart_eq]
  have hcleared : (restartCleared (replied .ok tag s)).zone = s.zone := by simp
  have hraised : (restartCleared (replied .ok tag s)).host.notices = s.host.notices := by simp
  generalize restart (replied .ok tag s) = v at *
  generalize restartCleared (replied .ok tag s) = z at *
  have hne : v.st.state ≠ .departing := by simp [hstate]
  have hcalm : isShort v = false := by simp [isShort, hstate]
  have hsending : sending v = true := by simp [sending, hstate]
  have hfollows := finish_follows (taken tag s) v
  obtain ⟨hst, -, hzoneEnd⟩ := hfollows.still hne
  have hlink := finish_link (taken tag s) v
  have hseats := finish_seats (taken tag s) hne
  have hown : ownAddr v = ownAddr s := by rw [ownAddr, hstraps, ownAddr]
  rw [hzone] at hzoneEnd
  refine ⟨_, htaken, hreplied, by rw [hst, hstate], by simp [hst, hjoin], by simp [hst, hsilence], by rw [hst, harmed],
    by rw [hst, hdrops], fun a ha => ?entry, by rw [hlink.counters, hcounters], by rw [hlink.rx, hrx],
    by rw [hlink.hold, hhold], by rw [hlink.guard, hguard], by rw [hfollows.tx.urgent, hurgent],
    by rw [hseats.answers, hanswers], by rw [finish_phase_of_calm _ hcalm hne, hphase],
    by rw [finish_period _ hne hannounce hsending, hnow]; simp, by simp [hlink.listenFrom, hlisten],
    by simp [hlink.idleFrom, hidle], fun hr => ⟨?target, fun hf hlow => ?duty⟩, fun hq => ?quiet,
    fun hc hl => ?receiver,
    fun hc hl => ?origin, ?active, ?gen, by rw [hseats.free, hfree]; simp, by rw [hdurable.receipts], hsense⟩
  case entry => rw [hfollows.peers a (by rwa [hown]), hempty a ha]
  case target => exact finish_target _ hne hannounce (by rw [role, hstraps]; exact hr)
  case duty =>
    obtain ⟨-, hduty, hlast⟩ := finish_forced (taken tag s) hne (hforced hr hf hlow)
    exact ⟨hduty, hlast⟩
  case quiet => rw [hzoneEnd, restartZoning_quiet (by rwa [hcleared]), hcleared]
  case receiver =>
    rw [hzoneEnd, restartZoning_receiver (by rwa [hcleared]) (by rwa [hcleared])]
    simp [restartReceiver, freeLock]
  case origin =>
    rw [restartZoning_origin (by rwa [hcleared]) (by rwa [hcleared])] at hzoneEnd hnotices
    refine ⟨by simp [hzoneEnd, restartOrigin, zoneResult, freeLock],
      by simp [hzoneEnd, restartOrigin, zoneResult, freeLock],
      by simp [hzoneEnd, restartOrigin, zoneResult, freeLock], fun g r hm => ?abandon,
      by simp [hzoneEnd, restartOrigin, zoneResult, freeLock, dropUnoffered, hcleared], fun hroom => ?notice⟩
    case abandon =>
      have hin : Msg.zoneAbandon g r ∈ withoutRollcall v.link.normal := by
        rw [← finish_normal_of_calm (taken tag s) hcalm hne]
        simpa [withoutRollcall, isRollcall] using hm
      obtain ⟨x, a, n, c, hgive⟩ := hnormal _ (List.mem_of_mem_filter hin)
      exact absurd hgive (by simp)
    case notice =>
      obtain ⟨n, hn, hkind, hsubject, hdetail⟩ := restartOrigin_notice (s := z) (by rwa [hraised])
      exact ⟨n, (finish_keeps (Keeps.refl _)).notices.subset (hnotices.subset hn), hkind, by rw [hsubject, hcleared],
        by rw [hdetail, hcleared]⟩
  case active => simp [hzoneEnd, hcleared]
  case gen => simp [hzoneEnd, hcleared]

end Sys2Proof.Machine
end

section
/-! PROOF. A retained-store write completes, and what waited for a write of the seat record takes place (O31). -/

namespace Sys2Proof.Machine

open Sys2Proof.Config

variable {s t u : State}

/-! ## The record (R15) -/

/-- A completed write is the record's current copy: its write count is above the other's (R15). -/
theorem finish_current {α : Type} {r : Record α} {c : α} (h : r.writing = some c) :
    r.finish.current.map (·.contents) = some c := by
  unfold Record.finish
  rw [h]
  dsimp only
  rcases ha : r.a with _ | x <;> rcases hb : r.b with _ | y
  case none.none => simp [Record.current, hb]
  case none.some => simp [Record.current, ha, hb]
  case some.none => simp [Record.current, ha, hb]
  case some.some =>
    by_cases hxy : y.writes < x.writes
    · simp [Record.current, ha, hb, hxy]
    · simp [Record.current, ha, hb, hxy, show ¬ y.writes + 1 < x.writes by omega]

/-! ## What waited, one action at a time -/

@[simp] theorem runWait_frame (s : State) (w : Wait) :
    (runWait s w).now = s.now ∧ (runWait s w).draws = s.draws ∧ (runWait s w).st = s.st ∧
    (runWait s w).store = s.store ∧ (runWait s w).view = s.view ∧ (runWait s w).budget = s.budget ∧
    (runWait s w).cool = s.cool ∧ (runWait s w).sup = s.sup ∧ (runWait s w).link.rx = s.link.rx ∧
    (runWait s w).link.counters = s.link.counters ∧ (runWait s w).link.hold = s.link.hold ∧
    (runWait s w).link.guard = s.link.guard ∧ (runWait s w).link.idleFrom = s.link.idleFrom ∧
    (runWait s w).link.listenFrom = s.link.listenFrom ∧ (runWait s w).link.ownUntil = s.link.ownUntil := by
  unfold runWait
  cases w with
  | give x => simp
  | ack g x n fresh => cases fresh <;> simp
  | reply => simp
  | zoneOpen gen => dsimp only; split <;> simp
  | commit => simp

/-- All that waited, in order. -/
def runWaits (l : List Wait) (s : State) : State := l.foldl runWait s

@[simp] theorem runWaits_frame (l : List Wait) (s : State) :
    (runWaits l s).now = s.now ∧ (runWaits l s).draws = s.draws ∧ (runWaits l s).st = s.st ∧
    (runWaits l s).store = s.store ∧ (runWaits l s).view = s.view ∧ (runWaits l s).budget = s.budget ∧
    (runWaits l s).cool = s.cool ∧ (runWaits l s).sup = s.sup ∧ (runWaits l s).link.rx = s.link.rx ∧
    (runWaits l s).link.counters = s.link.counters ∧ (runWaits l s).link.hold = s.link.hold ∧
    (runWaits l s).link.guard = s.link.guard ∧ (runWaits l s).link.idleFrom = s.link.idleFrom ∧
    (runWaits l s).link.listenFrom = s.link.listenFrom ∧ (runWaits l s).link.ownUntil = s.link.ownUntil := by
  unfold runWaits
  induction l generalizing s with
  | nil => simp
  | cons w l ih => simpa using ih (runWait s w)

/-! ## The reply (R112 to R114) -/

theorem runWait_slot (w : Wait) (s : State) (h : w ≠ .reply) : (runWait s w).host.slot = s.host.slot := by
  unfold runWait
  cases w with
  | give x => simp
  | ack g x n fresh => cases fresh <;> simp
  | reply => exact absurd rfl h
  | zoneOpen gen => dsimp only; split <;> simp
  | commit => simp

theorem answer_slot {st : Status} {d : List Byte} {r : Reply} (h : s.host.slot = .reply r) :
    (answer st d s).host.slot = .reply r := by simp [answer, h]

theorem runWaits_replied (l : List Wait) {r : Reply} (h : s.host.slot = .reply r) :
    (runWaits l s).host.slot = .reply r := by
  unfold runWaits
  induction l generalizing s with
  | nil => exact h
  | cons w l ih =>
    refine ih ?_
    by_cases hw : w = .reply
    · rw [hw]
      exact answer_slot h
    · rw [runWait_slot w s hw, h]

/-- The host's command that waited is answered, once. -/
theorem runWaits_slot {l : List Wait} {g : Byte} (hl : Wait.reply ∈ l) (h : s.host.slot = .busy g) :
    (runWaits l s).host.slot = .reply { status := .ok, tag := g, data := [] } := by
  induction l generalizing s with
  | nil => simp at hl
  | cons w l ih =>
    by_cases hw : w = .reply
    · rw [hw]
      exact runWaits_replied l (s := runWait s .reply) (by simp [runWait, answer, h])
    · refine ih ((List.mem_cons.mp hl).resolve_left (Ne.symm hw)) ?_
      rw [runWait_slot w s hw, h]

/-! ## Seat frames (R119 to R121) -/

/-- The terms of an escrow entry, which its frame carries. -/
def Escrow.terms (e : Escrow) : Nat × Addr × Option Nat × Nat × Bool := (e.xfer, e.rcpt, e.ask, e.count, e.stranded)

/-- The SEAT-GIVE of an escrow entry (R120). -/
def giveFrame (e : Escrow) : Msg := .seatGive e.xfer e.rcpt e.ask e.count

theorem giveFrame_congr {e f : Escrow} (h : e.terms = f.terms) : giveFrame e = giveFrame f := by
  obtain ⟨hx, hr, ha, hc, -⟩ : e.xfer = f.xfer ∧ e.rcpt = f.rcpt ∧ e.ask = f.ask ∧ e.count = f.count ∧
    e.stranded = f.stranded := by simpa [Escrow.terms] using h
  rw [giveFrame, hx, hr, ha, hc, giveFrame]

theorem escrowOf_xfer {x : Nat} {e : Escrow} (h : escrowOf s x = some e) : e.xfer = x := by
  simpa using List.find?_some h

/-- A change of entries that keeps their terms. -/
theorem mapEscrow_terms (y x : Nat) {f : Escrow → Escrow} (hf : ∀ e, (f e).terms = e.terms) (s : State) :
    (escrowOf (mapEscrow y f s) x).map Escrow.terms = (escrowOf s x).map Escrow.terms := by
  have hterms (e : Escrow) : (if e.xfer = y then f e else e).terms = e.terms := by split <;> simp [hf]
  have hxfer (e : Escrow) : (if e.xfer = y then f e else e).xfer = e.xfer := congrArg Prod.fst (hterms e)
  simp only [escrowOf, mapEscrow, List.find?_map, Option.map_map]
  have hpred : ((fun e : Escrow => decide (e.xfer = x)) ∘ fun e => if e.xfer = y then f e else e) =
      fun e => decide (e.xfer = x) := funext fun e => by simp [hxfer e]
  rw [hpred]
  exact congrArg (Option.map · _) (funext hterms)

/-- A SEAT-GIVE's offer, where the entry is SENDING and the queue has room (R120). -/
theorem offerGive_room {x : Nat} {e : Escrow} (he : escrowOf s x = some e) (hn : e.stranded = false)
    (hs : sending s = true) (hroom : s.link.normal.length < normalCap) : (offerGive x s).link.normal =
      if s.link.normal.any (isGiveOf x) then s.link.normal else s.link.normal ++ [giveFrame e] := by
  have hopen (m : Msg) (f : Escrow → Escrow) : offerNormal m (mapEscrow x f s) =
      (kick { mapEscrow x f s with link.normal := s.link.normal ++ [m] }, .taken) := by
    have hsend : sending (mapEscrow x f s) = true := hs
    unfold offerNormal
    rw [if_neg (by simp [hsend])]
    exact if_pos hroom
  unfold offerGive
  rw [he]
  dsimp only
  rw [if_neg (by simp [hn, hs])]
  split
  · rfl
  · rw [hopen]
    simp [giveFrame]

theorem giveReported_terms (y x : Nat) (s : State) :
    (escrowOf (giveReported y s) x).map Escrow.terms = (escrowOf s x).map Escrow.terms := by
  unfold giveReported
  split
  · exact mapEscrow_terms y x (fun e => by split <;> rfl) s
  · rfl

theorem offerGive_terms (y x : Nat) (s : State) :
    (escrowOf (offerGive y s) x).map Escrow.terms = (escrowOf s x).map Escrow.terms := by
  have hoffer (m : Msg) (v : State) : escrowOf (offerNormal m v).1 x = escrowOf v x := by simp [escrowOf]
  have htried := mapEscrow_terms y x (f := fun e => { e with tries := count8 e.tries, timer := none })
    (fun _ => rfl) s
  unfold offerGive
  split
  · rfl
  · dsimp only
    split
    · rfl
    · split
      · exact htried
      · split
        all_goals
          rename_i ho
          obtain rfl := offerNormal_of ho
        · rwa [hoffer]
        · rwa [giveReported_terms, hoffer]
        · rwa [hoffer]

/-- A frame is offered to a queue with room. -/
theorem sendNormal_room {m : Msg} (hs : sending s = true) (hroom : s.link.normal.length < normalCap) :
    (sendNormal m s).link.normal = s.link.normal ++ [m] := by
  unfold sendNormal offerNormal
  rw [if_neg (by simp [hs]), if_pos hroom]
  simp

theorem runWait_sending (s : State) (w : Wait) : sending (runWait s w) = sending s := by
  rw [sending, (runWait_frame s w).2.2.1, sending]

/-- The entry `x` is SENDING on the terms of `e`, and a SEAT-GIVE queued for it is on those terms. -/
structure GiveDue (x : Nat) (e : Escrow) (s : State) : Prop where
  terms : (escrowOf s x).map Escrow.terms = some e.terms
  frames : ∀ m ∈ s.link.normal, isGiveOf x m = true → m = giveFrame e

/-- What one action that waited for the seat record does to the normal queue, with room there: at most one frame
joins it, the ack's own or the SEAT-GIVE of an entry that is due (R120, R121). -/
theorem runWait_frames {w : Wait} (hw : w.ofSeats = true) (hs : sending s = true)
    (hroom : s.link.normal.length < normalCap) :
    (runWait s w).link.normal = s.link.normal ∨ (∃ x e, w = .give x ∧ escrowOf s x = some e ∧
      (runWait s w).link.normal = s.link.normal ++ [giveFrame e]) ∨
    ∃ g x n fresh, w = .ack g x n fresh ∧ (runWait s w).link.normal = s.link.normal ++ [.seatAck g x n] := by
  cases w with
  | give x =>
    cases he : escrowOf s x with
    | none => exact .inl (by simp [runWait, offerGive, he])
    | some e =>
      by_cases hn : e.stranded = true
      · exact .inl (by simp [runWait, offerGive, he, hn])
      · have hoffer := offerGive_room he (by simpa using hn) hs hroom
        by_cases hq : s.link.normal.any (isGiveOf x) = true
        · exact .inl (hoffer.trans (if_pos hq))
        · exact .inr (.inl ⟨x, e, rfl, he, hoffer.trans (if_neg hq)⟩)
  | ack g x n fresh =>
    refine .inr (.inr ⟨g, x, n, fresh, rfl, ?_⟩)
    have hsent := sendNormal_room (m := .seatAck g x n) hs hroom
    cases fresh <;> simp [runWait, hsent]
  | reply => exact .inl (by simp [runWait])
  | zoneOpen gen => simp [Wait.ofSeats] at hw
  | commit => simp [Wait.ofSeats] at hw

theorem runWait_room {w : Wait} {k : Nat} (hw : w.ofSeats = true) (hs : sending s = true)
    (hroom : s.link.normal.length + (k + 1) ≤ normalCap) :
    (runWait s w).link.normal.length + k ≤ normalCap ∧ ∀ m ∈ s.link.normal, m ∈ (runWait s w).link.normal := by
  obtain h | ⟨x, e, -, -, h⟩ | ⟨g, x, n, fresh, -, h⟩ := runWait_frames hw hs (show _ < normalCap by omega)
  · rw [h]
    exact ⟨by omega, fun _ hm => hm⟩
  · rw [h]
    exact ⟨by simpa using by omega, fun _ hm => List.mem_append_left _ hm⟩
  · rw [h]
    exact ⟨by simpa using by omega, fun _ hm => List.mem_append_left _ hm⟩

theorem runWait_terms {w : Wait} (hw : w.ofSeats = true) (x : Nat) :
    (escrowOf (runWait s w) x).map Escrow.terms = (escrowOf s x).map Escrow.terms := by
  cases w with
  | give y => exact offerGive_terms y x s
  | ack g y n fresh => cases fresh <;> simp [runWait, escrowOf]
  | reply => simp [runWait, escrowOf]
  | zoneOpen gen => simp [Wait.ofSeats] at hw
  | commit => simp [Wait.ofSeats] at hw

theorem runWait_giveDue {w : Wait} {x : Nat} {e : Escrow} (hw : w.ofSeats = true) (hs : sending s = true)
    (hroom : s.link.normal.length < normalCap) (h : GiveDue x e s) : GiveDue x e (runWait s w) := by
  refine ⟨(runWait_terms hw x).trans h.terms, fun m hm hgive => ?_⟩
  obtain hq | ⟨y, f, -, hf, hq⟩ | ⟨g, y, n, fresh, -, hq⟩ := runWait_frames hw hs hroom
  · exact h.frames m (by rwa [hq] at hm) hgive
  · rw [hq] at hm
    obtain hm | rfl : m ∈ s.link.normal ∨ m = giveFrame f := by simpa using hm
    · exact h.frames m hm hgive
    · have hxy : f.xfer = x := by simpa [giveFrame, isGiveOf] using hgive
      have hterms := h.terms
      rw [← hxy, escrowOf_xfer hf, hf] at hterms
      exact giveFrame_congr (by simpa using hterms)
  · rw [hq] at hm
    obtain hm | rfl : m ∈ s.link.normal ∨ m = .seatAck g y n := by simpa using hm
    · exact h.frames m hm hgive
    · simp [isGiveOf] at hgive

/-- A give that waited and is due stands in the queue after its turn (R120). -/
theorem runWait_give {x : Nat} {e : Escrow} (hs : sending s = true) (hroom : s.link.normal.length < normalCap)
    (hn : e.stranded = false) (h : GiveDue x e s) : giveFrame e ∈ (runWait s (.give x)).link.normal := by
  obtain ⟨f, hf, hterms⟩ := Option.map_eq_some_iff.mp h.terms
  have hstranded : f.stranded = false := by
    rw [← hn]
    exact congrArg (fun v => v.2.2.2.2) hterms
  have hoffer : (runWait s (.give x)).link.normal = _ := offerGive_room hf hstranded hs hroom
  rw [hoffer]
  split
  case isTrue hq =>
    obtain ⟨m, hm, hgive⟩ := List.any_eq_true.mp hq
    rwa [← h.frames m hm hgive]
  case isFalse => simp [giveFrame_congr hterms]

theorem runWaits_give {l : List Wait} {x : Nat} {e : Escrow} (hl : ∀ w ∈ l, w.ofSeats = true)
    (hs : sending s = true) (hroom : s.link.normal.length + l.length ≤ normalCap) (hn : e.stranded = false)
    (h : GiveDue x e s) (hx : Wait.give x ∈ l ∨ giveFrame e ∈ s.link.normal) :
    giveFrame e ∈ (runWaits l s).link.normal := by
  induction l generalizing s with
  | nil => simpa [runWaits] using hx
  | cons w l ih =>
    have hw := hl w (by simp)
    have hlt : s.link.normal.length < normalCap := by simp only [List.length_cons] at hroom; omega
    obtain ⟨hroom', hkept⟩ := runWait_room hw hs hroom
    refine ih (s := runWait s w) (fun v hv => hl v (by simp [hv])) (by rwa [runWait_sending]) hroom'
      (runWait_giveDue hw hs hlt h) ?_
    obtain hx | hx := hx
    · obtain rfl | hx := List.mem_cons.mp hx
      · exact .inr (runWait_give hs hlt hn h)
      · exact .inl hx
    · exact .inr (hkept _ hx)

theorem runWaits_ack {l : List Wait} {g : Addr} {x n : Nat} {fresh : Bool} (hl : ∀ w ∈ l, w.ofSeats = true)
    (hs : sending s = true) (hroom : s.link.normal.length + l.length ≤ normalCap)
    (hx : Wait.ack g x n fresh ∈ l ∨ Msg.seatAck g x n ∈ s.link.normal) :
    Msg.seatAck g x n ∈ (runWaits l s).link.normal := by
  induction l generalizing s with
  | nil => simpa [runWaits] using hx
  | cons w l ih =>
    have hw := hl w (by simp)
    have hlt : s.link.normal.length < normalCap := by simp only [List.length_cons] at hroom; omega
    obtain ⟨hroom', hkept⟩ := runWait_room hw hs hroom
    refine ih (s := runWait s w) (fun v hv => hl v (by simp [hv])) (by rwa [runWait_sending]) hroom' ?_
    obtain hx | hx := hx
    · obtain rfl | hx := List.mem_cons.mp hx
      · have hsent := sendNormal_room (m := .seatAck g x n) hs hlt
        exact .inr (by cases fresh <;> simp [runWait, hsent])
      · exact .inl hx
    · exact .inr (hkept _ hx)

/-! ## SEATS-RECEIVED (R121) -/

/-- The SEATS-RECEIVED of a give accepted. -/
def SeatsReceived (g : Addr) (x n : Nat) (y : Notice) : Prop :=
  y.kind = .seatsReceived ∧ y.subject = g.val ∧ y.detail = b4 x ++ b2 n

theorem runWait_notices {w : Wait} (hw : w.ofSeats = true) :
    s.host.notices <+: (runWait s w).host.notices ∧
    (runWait s w).host.notices.length ≤ s.host.notices.length + 1 := by
  cases w with
  | give x => simp [runWait]
  | ack g x n fresh =>
    cases fresh
    · simp [runWait]
    · have hraise := raise_notices .seatsReceived g.val (xferDetail x n) (sendNormal (.seatAck g x n) s)
      have hlen := raise_length .seatsReceived g.val (xferDetail x n) (sendNormal (.seatAck g x n) s)
      exact ⟨by simpa [runWait] using hraise, by simpa [runWait] using hlen⟩
  | reply => simp [runWait]
  | zoneOpen gen => simp [Wait.ofSeats] at hw
  | commit => simp [Wait.ofSeats] at hw

theorem runWait_ack_notice {g : Addr} {x n : Nat} (hroom : s.host.notices.length < noticeCap) :
    ∃ y ∈ (runWait s (.ack g x n true)).host.notices, SeatsReceived g x n y := by
  obtain ⟨y, hy, hkind, hsubject, hdetail⟩ := raise_mem (k := .seatsReceived) (n := g.val) (d := xferDetail x n)
    (s := sendNormal (.seatAck g x n) s) (by simpa using hroom)
  refine ⟨y, hy, hkind, hsubject, ?_⟩
  rw [hdetail, List.take_of_length_le (by simp [xferDetail, b4, b2]), xferDetail]

theorem runWaits_received {l : List Wait} {g : Addr} {x n : Nat} (hl : ∀ w ∈ l, w.ofSeats = true)
    (hroom : s.host.notices.length + l.length ≤ noticeCap)
    (hx : Wait.ack g x n true ∈ l ∨ ∃ y ∈ s.host.notices, SeatsReceived g x n y) :
    ∃ y ∈ (runWaits l s).host.notices, SeatsReceived g x n y := by
  induction l generalizing s with
  | nil => simpa [runWaits] using hx
  | cons w l ih =>
    have hw := hl w (by simp)
    simp only [List.length_cons] at hroom
    obtain ⟨hkept, hlen⟩ := runWait_notices (s := s) hw
    refine ih (s := runWait s w) (fun v hv => hl v (by simp [hv])) (by omega) ?_
    obtain hx | ⟨y, hy, hr⟩ := hx
    · obtain rfl | hx := List.mem_cons.mp hx
      · exact .inr (runWait_ack_notice (by omega))
      · exact .inl hx
    · exact .inr ⟨y, hkept.subset hy, hr⟩

end Sys2Proof.Machine
end

section
/-! PROOF. What waited for a write of the zoning record takes place; settles O31. -/

namespace Sys2Proof.Machine

open Sys2Proof.Config

variable {s t u : State}

/-! ## A commit that waited (R152, R153) -/

/-- What the offering of zoning frames leaves of the zoning unit. -/
@[simp] theorem pumpZone_set (l : List Msg) (s : State) :
    (pumpZone l s).zone.lock = s.zone.lock ∧ (pumpZone l s).zone.staged = s.zone.staged ∧
    (pumpZone l s).zone.proposed = s.zone.proposed := by
  induction l generalizing s with
  | nil => simp [pumpZone]
  | cons m l ih =>
    unfold pumpZone
    split <;> (rename_i h; obtain rfl := offerNormal_of h; simp [ih])

@[simp] theorem sendZone_set (l : List Msg) (s : State) :
    (sendZone l s).zone.lock = s.zone.lock ∧ (sendZone l s).zone.staged = s.zone.staged ∧
    (sendZone l s).zone.proposed = s.zone.proposed := by
  unfold sendZone
  split <;> simp

/-- The filters served leave the staged set, and an APPLYING lock at most FREE (R155, R167). -/
theorem serveFilters_set (s : State) : (serveFilters s).zone.staged = s.zone.staged ∧
    (s.zone.lock = .applying → (serveFilters s).zone.lock = .applying ∨ (serveFilters s).zone.lock = .free) := by
  unfold serveFilters reportSweep
  dsimp only
  split
  · split
    · simp
    · simp +contextual
  · simp +contextual

/-- The set `z` is committed as generation `g`. -/
structure Committed (z : ZoneSet) (g : Nat) (s : State) : Prop where
  active : s.zone.active = z
  gen : s.zone.gen = g
  pending : s.zone.commitPending = false
  staged : s.zone.staged = []
  lock : s.zone.lock = .applying ∨ s.zone.lock = .free

/-- The set `z` is to be committed as generation `g`. -/
structure Committing (z : ZoneSet) (g : Nat) (s : State) : Prop where
  pending : s.zone.commitPending = true
  proposed : s.zone.proposed = some g
  staged : s.zone.staged = z

theorem commitEffect_committed {z : ZoneSet} {g : Nat} (h : Committing z g s) : Committed z g (commitEffect s) := by
  have hsend (c : Prop) [Decidable c] (l : List Msg) (v : State) (hv : Committed z g v) :
      Committed z g (if c then sendZone l v else v) := by
    split
    · exact ⟨by simp [hv.active], by simp [hv.gen], by simp [hv.pending], by simp [hv.staged], by simp [hv.lock]⟩
    · exact hv
  have hserve (v : State) (hv : Committed z g v) (hl : v.zone.lock = .applying) : Committed z g (serveFilters v) := by
    obtain ⟨hstaged, hlock⟩ := serveFilters_set v
    exact ⟨by simp [hv.active], by simp [hv.gen], by simp [hv.pending], hstaged.trans hv.staged, hlock hl⟩
  unfold commitEffect
  rw [if_pos h.pending]
  dsimp only
  refine hsend _ _ _ (hserve _ ⟨?_, ?_, ?_, ?_, .inl ?_⟩ ?_)
  all_goals simp [zoneResult, h.proposed, h.staged]

theorem runWait_zone {w : Wait} (hw : ∀ g, w ≠ .zoneOpen g) (hc : w ≠ .commit) : (runWait s w).zone = s.zone := by
  cases w with
  | give x => simp [runWait]
  | ack g x n fresh => cases fresh <;> simp [runWait]
  | reply => simp [runWait]
  | zoneOpen g => exact absurd rfl (hw g)
  | commit => exact absurd rfl hc

theorem runWait_committed {z : ZoneSet} {g : Nat} (w : Wait) (h : Committed z g s) : Committed z g (runWait s w) := by
  have hsame : (runWait s w).zone = s.zone := by
    by_cases hc : w = .commit
    · rw [hc]
      simp [runWait, commitEffect, h.pending]
    · by_cases hw : ∀ g, w ≠ .zoneOpen g
      · exact runWait_zone hw hc
      · obtain ⟨k, rfl⟩ := not_forall_not.mp hw
        have hlock : s.zone.lock ≠ .publishing := by
          obtain h | h := h.lock <;> simp [h]
        simp [runWait, hlock]
  exact ⟨by rw [hsame, h.active], by rw [hsame, h.gen], by rw [hsame, h.pending], by rw [hsame, h.staged],
    by rw [hsame]; exact h.lock⟩

theorem runWait_committing {z : ZoneSet} {g : Nat} {w : Wait} (hc : w ≠ .commit) (h : Committing z g s) :
    Committing z g (runWait s w) := by
  by_cases hw : ∀ g, w ≠ .zoneOpen g
  · have hsame := runWait_zone (s := s) hw hc
    exact ⟨by rw [hsame, h.pending], by rw [hsame, h.proposed], by rw [hsame, h.staged]⟩
  · obtain ⟨k, rfl⟩ := not_forall_not.mp hw
    unfold runWait
    dsimp only
    split
    · exact ⟨by simp [h.pending], by simp [h.proposed], by simp [h.staged]⟩
    · exact h

theorem runWaits_committed {l : List Wait} {z : ZoneSet} {g : Nat}
    (h : Committed z g s ∨ (Wait.commit ∈ l ∧ Committing z g s)) : Committed z g (runWaits l s) := by
  induction l generalizing s with
  | nil => simpa [runWaits] using h
  | cons w l ih =>
    refine ih (s := runWait s w) ?_
    obtain h | ⟨hl, h⟩ := h
    · exact .inl (runWait_committed w h)
    · by_cases hc : w = .commit
      · subst hc
        exact .inl (commitEffect_committed h)
      · exact .inr ⟨(List.mem_cons.mp hl).resolve_left (Ne.symm hc), runWait_committing hc h⟩

/-! ## A publish that waited (R146) -/

/-- The segments of a set, by number (R146). -/
theorem segments_eq (gen fuel k : Nat) (z : ZoneSet) (h : z.length ≤ fuel) : segments gen fuel k z =
    (List.range (ceilDiv z.length 5)).map fun i => Msg.zoneSeg gen (k + i) ((z.drop (5 * i)).take 5) := by
  induction fuel generalizing k z with
  | zero =>
    obtain rfl : z = [] := List.length_eq_zero_iff.mp (by omega)
    simp [segments, ceilDiv]
  | succ fuel ih =>
    unfold segments
    split
    case isTrue hz => simp [hz, ceilDiv]
    case isFalse hz =>
      have hpos : 0 < z.length := List.length_pos_iff.mpr hz
      have hcount : ceilDiv z.length 5 = ceilDiv (z.drop 5).length 5 + 1 := by
        simp only [ceilDiv, List.length_drop]
        omega
      rw [ih (k + 1) (z.drop 5) (by simp only [List.length_drop]; omega), hcount, List.range_succ_eq_map]
      simp only [List.map_cons, List.map_map, Nat.add_zero, Nat.mul_zero, List.drop_zero, List.cons.injEq, true_and]
      refine List.map_congr_left fun i _ => ?_
      simp only [Function.comp_apply, List.drop_drop, Nat.succ_eq_add_one]
      rw [show k + 1 + i = k + (i + 1) by omega, show 5 + 5 * i = 5 * (i + 1) by omega]

/-- Zoning frames go into the places the normal queue has; the first it has no place for starts the resend timer. -/
theorem pumpZone_fills (l : List Msg) (hs : sending s = true) :
    (pumpZone l s).zone.outbox = l.drop (normalCap - s.link.normal.length) ∧
    (pumpZone l s).link.normal = s.link.normal ++ l.take (normalCap - s.link.normal.length) ∧
    (pumpZone l s).zone.resend =
      if l.length ≤ normalCap - s.link.normal.length then none else some (s.now + ms 10) := by
  induction l generalizing s with
  | nil => simp [pumpZone]
  | cons m l ih =>
    unfold pumpZone offerNormal
    rw [if_neg (by simp [hs])]
    by_cases hroom : s.link.normal.length < normalCap
    · rw [if_pos hroom]
      dsimp only
      generalize hv : ({ kick { s with link.normal := s.link.normal ++ [m] } with
        dep.ahead := (kick { s with link.normal := s.link.normal ++ [m] }).dep.ahead - 1 } : State) = v
      have hnormal : v.link.normal = s.link.normal ++ [m] := by simp [← hv]
      have hnow : v.now = s.now := by simp [← hv]
      have hsend : sending v = true := by
        rw [← hs]
        simp [sending, ← hv]
      obtain ⟨houtbox, hqueue, hresend⟩ := ih hsend
      obtain ⟨k, hk⟩ : ∃ k, normalCap - s.link.normal.length = k + 1 := ⟨normalCap - s.link.normal.length - 1, by omega⟩
      have hk' : normalCap - v.link.normal.length = k := by
        rw [hnormal, List.length_append, List.length_singleton]
        omega
      rw [hk'] at houtbox hqueue hresend
      rw [hk, houtbox, hqueue, hresend, hnormal, hnow]
      simp
    · rw [if_neg hroom]
      have hfull : normalCap - s.link.normal.length = 0 := by omega
      simp [hfull]

/-- The frames of a publish (R146). -/
theorem publishFrames_eq (gen : Nat) (z : ZoneSet) : publishFrames gen z =
    Msg.zoneOpen gen (ceilDiv z.length 5) (setCheck z) ::
      (List.range (ceilDiv z.length 5)).map fun k => Msg.zoneSeg gen (k + 1) ((z.drop (5 * k)).take 5) := by
  rw [publishFrames, segments_eq gen z.length 1 z le_rfl]
  simp only [Nat.add_comm 1]

theorem publishFrames_rollcall (gen : Nat) (z : ZoneSet) (n : Nat) :
    withoutRollcall ((publishFrames gen z).take n) = (publishFrames gen z).take n := by
  refine List.filter_eq_self.mpr fun m hm => ?_
  have hm := List.mem_of_mem_take hm
  rw [publishFrames_eq] at hm
  obtain rfl | hm := List.mem_cons.mp hm
  · rfl
  · obtain ⟨k, -, rfl⟩ := List.mem_map.mp hm
    rfl

/-! ## The write's completion -/

/-- The write of the seat record has completed; nothing that waited has taken place yet. -/
def seatStored (s : State) : State := { s with store.seat := s.store.seat.finish }

/-- The same for the zoning record. -/
def zoningStored (s : State) : State := { s with store.zoning := s.store.zoning.finish }

@[simp] theorem zoningStored_frame (s : State) :
    (zoningStored s).now = s.now ∧ (zoningStored s).st = s.st ∧ (zoningStored s).link = s.link ∧
    (zoningStored s).zone = s.zone ∧ (zoningStored s).seat = s.seat ∧ (zoningStored s).port = s.port :=
  ⟨rfl, rfl, rfl, rfl, rfl, rfl⟩

theorem seatWritten_eq (s : State) : seatWritten s = runWaits s.store.seat.waiting (seatStored s) := rfl

theorem zoningWritten_eq (s : State) : zoningWritten s = runWaits s.store.zoning.waiting (zoningStored s) := rfl

/-- A frame queued, but for a ROLLCALL, stands at the end of the step. -/
theorem finish_queued {s0 : State} {m : Msg} (hm : m ∈ s.link.normal) (hr : isRollcall m = false) :
    m ∈ (finish s0 s).link.normal := by
  obtain ⟨new, hnew⟩ := (finish_follows s0 s).tx.normal
  have hin : m ∈ withoutRollcall s.link.normal := by simpa [withoutRollcall, hr] using hm
  have hend : m ∈ withoutRollcall (finish s0 s).link.normal := by
    rw [hnew]
    exact List.mem_append_left _ hin
  exact List.mem_of_mem_filter hend

theorem runWaits_finish_kept (l : List Wait) (s0 s : State) :
    LinkKept s (finish s0 (runWaits l s)) ∧ SenseKept s (finish s0 (runWaits l s)) := by
  have hlink : LinkKept s (runWaits l s) := by constructor <;> simp
  have hsense : SenseKept s (runWaits l s) := by constructor <;> simp
  exact ⟨hlink.trans (finish_link s0 _), hsense.trans (finish_sense s0 _)⟩

theorem seatWrite_completes {r : SeatRecord} (hw : s.store.seat.writing = some r) :
    ∃ t, exec (.storeWriteComplete .seat) s = .next t ∧
      t.store.seat.current.map (·.contents) = some r ∧ LinkKept s t ∧ SenseKept s t ∧
      (∀ g, Wait.reply ∈ s.store.seat.waiting → s.host.slot = .busy g →
        t.host.slot = .reply { status := .ok, tag := g, data := [] }) ∧
      (sending s = true → (∀ w ∈ s.store.seat.waiting, w.ofSeats = true) →
        s.link.normal.length + s.store.seat.waiting.length ≤ normalCap →
        (∀ x e, Wait.give x ∈ s.store.seat.waiting → escrowOf s x = some e → e.stranded = false →
          (∀ m ∈ s.link.normal, isGiveOf x m = false) → Msg.seatGive x e.rcpt e.ask e.count ∈ t.link.normal) ∧
        (∀ g x n fresh, Wait.ack g x n fresh ∈ s.store.seat.waiting → Msg.seatAck g x n ∈ t.link.normal)) ∧
      (∀ g x n, Wait.ack g x n true ∈ s.store.seat.waiting → (∀ w ∈ s.store.seat.waiting, w.ofSeats = true) →
        s.host.notices.length + s.store.seat.waiting.length ≤ noticeCap →
        ∃ y ∈ t.host.notices, y.kind = .seatsReceived ∧ y.subject = g.val ∧ y.detail = b4 x ++ b2 n) := by
  obtain ⟨hlink, hsense⟩ := runWaits_finish_kept s.store.seat.waiting s (seatStored s)
  have hfollows := finish_follows s (runWaits s.store.seat.waiting (seatStored s))
  refine ⟨finish s (runWaits s.store.seat.waiting (seatStored s)),
    by simp [exec, execStoreWriteComplete, hw, stepOf, seatWritten_eq], ?current,
    LinkKept.trans (by constructor <;> rfl) hlink, SenseKept.trans (by constructor <;> simp [seatStored]) hsense,
    fun g hl hs => ?reply, fun hs hl hroom => ⟨fun x e hx he hn hq => ?give, fun g x n fresh hx => ?ack⟩,
    fun g x n hx hl hroom => ?notice⟩
  case current =>
    rw [hfollows.copies.1, (runWaits_frame _ _).2.2.2.1]
    exact finish_current hw
  case reply => simpa using runWaits_slot (s := seatStored s) hl hs
  case give =>
    obtain rfl := escrowOf_xfer he
    have hdue : GiveDue e.xfer e (seatStored s) :=
      ⟨congrArg (Option.map _) he, fun m hm hg => absurd hg (by simp [hq m hm])⟩
    exact finish_queued (runWaits_give hl hs hroom hn hdue (.inl hx)) rfl
  case ack => exact finish_queued (runWaits_ack hl hs hroom (.inl hx)) rfl
  case notice =>
    obtain ⟨y, hy, hreceived⟩ := runWaits_received (s := seatStored s) hl hroom (.inl hx)
    exact ⟨y, (finish_keeps (Keeps.refl _)).notices.subset hy, hreceived⟩

/-- A publish still under way sends what the normal queue has room for. -/
theorem zoneOpen_runs {g : Nat} (hs : sending s = true) (hl : s.zone.lock = .publishing)
    (hp : s.zone.proposed = some g) (hr : s.zone.resend = none) (ho : s.zone.outbox = []) :
    runWait s (.zoneOpen g) = pumpZone (publishFrames g s.zone.staged) s := by
  simp [runWait, hl, hp, sendZone, hr, ho]

/-- What waited for the zoning record begins no ask. -/
theorem zoneOpen_calm (g : Nat) (s : State) : askEvent s (runWait (zoningStored s) (.zoneOpen g)) = false := by
  have hkept : (runWait (zoningStored s) (.zoneOpen g)).seat = s.seat ∧
      (runWait (zoningStored s) (.zoneOpen g)).port = s.port ∧ (runWait (zoningStored s) (.zoneOpen g)).st = s.st := by
    unfold runWait
    dsimp only
    split <;> simp
  obtain ⟨hseat, hport, hst⟩ := hkept
  simp [askEvent, freshCount, hseat, hport, hst]

/-- A publish that waited, at the end of its step: what the queue has no place for waits for the resend timer. -/
theorem zoneOpen_sent {s0 : State} {g : Nat} (hask : askEvent s0 (runWait s (.zoneOpen g)) = false)
    (hs : sending s = true) (hd : s.st.state ≠ .departing) (hl : s.zone.lock = .publishing)
    (hp : s.zone.proposed = some g) (hr : s.zone.resend = none) (ho : s.zone.outbox = []) :
    (finish s0 (runWait s (.zoneOpen g))).zone.outbox =
      (publishFrames g s.zone.staged).drop (normalCap - s.link.normal.length) ∧
    withoutRollcall (finish s0 (runWait s (.zoneOpen g))).link.normal = withoutRollcall s.link.normal ++
      (publishFrames g s.zone.staged).take (normalCap - s.link.normal.length) ∧
    (finish s0 (runWait s (.zoneOpen g))).zone.resend =
      if (publishFrames g s.zone.staged).length ≤ normalCap - s.link.normal.length then none
      else some (s.now + ms 10) := by
  have hd' : (runWait s (.zoneOpen g)).st.state ≠ .departing := by simpa using hd
  obtain ⟨-, -, hzone⟩ := (finish_follows s0 (runWait s (.zoneOpen g))).still hd'
  have hnormal := finish_normal hask hd'
  obtain ⟨houtbox, hqueue, hresend⟩ := pumpZone_fills (publishFrames g s.zone.staged) hs
  rw [hzone, hnormal, zoneOpen_runs hs hl hp hr ho, houtbox, hresend, hqueue, withoutRollcall_append,
    publishFrames_rollcall]
  exact ⟨rfl, rfl, rfl⟩

theorem zoningWrite_completes {r : ZoneRecord} (hw : s.store.zoning.writing = some r) :
    ∃ t, exec (.storeWriteComplete .zoning) s = .next t ∧
      t.store.zoning.current.map (·.contents) = some r ∧ LinkKept s t ∧ SenseKept s t ∧
      (∀ g, Wait.commit ∈ s.store.zoning.waiting → s.zone.commitPending = true → s.zone.proposed = some g →
        t.zone.active = s.zone.staged ∧ t.zone.gen = g ∧ t.zone.commitPending = false ∧ t.zone.staged = [] ∧
        (t.zone.lock = .applying ∨ t.zone.lock = .free)) ∧
      (∀ g, s.store.zoning.waiting = [.zoneOpen g] → sending s = true → s.st.state ≠ .departing →
        (s.zone.lock = .publishing → s.zone.proposed = some g → s.zone.resend = none → s.zone.outbox = [] →
          ∀ l, l = Msg.zoneOpen g (ceilDiv s.zone.staged.length 5) (setCheck s.zone.staged) ::
              (List.range (ceilDiv s.zone.staged.length 5)).map
                (fun k => Msg.zoneSeg g (k + 1) ((s.zone.staged.drop (5 * k)).take 5)) →
            t.zone.outbox = l.drop (normalCap - s.link.normal.length) ∧
            withoutRollcall t.link.normal =
              withoutRollcall s.link.normal ++ l.take (normalCap - s.link.normal.length) ∧
            t.zone.resend = if l.length ≤ normalCap - s.link.normal.length then none else some (t.now + ms 10)) ∧
        (¬ (s.zone.lock = .publishing ∧ s.zone.proposed = some g) →
          t.zone = s.zone ∧ withoutRollcall t.link.normal = withoutRollcall s.link.normal)) := by
  obtain ⟨hlink, hsense⟩ := runWaits_finish_kept s.store.zoning.waiting s (zoningStored s)
  have hfollows := finish_follows s (runWaits s.store.zoning.waiting (zoningStored s))
  refine ⟨finish s (runWaits s.store.zoning.waiting (zoningStored s)),
    by simp [exec, execStoreWriteComplete, hw, stepOf, zoningWritten_eq], ?current,
    LinkKept.trans (by constructor <;> rfl) hlink, SenseKept.trans (by constructor <;> simp [zoningStored]) hsense,
    fun g hl hc hp => ?commit, fun g hl hs hd => ?opens⟩
  case current =>
    rw [hfollows.copies.2, (runWaits_frame _ _).2.2.2.1]
    exact finish_current hw
  case commit =>
    have hdone := runWaits_committed (s := zoningStored s) (.inr ⟨hl, ⟨hc, hp, rfl⟩⟩)
    rw [hfollows.zone hdone.lock.symm]
    exact ⟨hdone.active, hdone.gen, hdone.pending, hdone.staged, hdone.lock⟩
  case opens =>
    have hask := zoneOpen_calm g s
    have hrun : runWaits [.zoneOpen g] (zoningStored s) = runWait (zoningStored s) (.zoneOpen g) := rfl
    have hd' : (runWait (zoningStored s) (.zoneOpen g)).st.state ≠ .departing := by simpa using hd
    rw [hl, hrun] at hfollows ⊢
    refine ⟨fun hlock hp hr ho l heq => ?sent, fun hn => ?kept⟩
    case sent =>
      rw [← publishFrames_eq] at heq
      subst heq
      have hsent := zoneOpen_sent (s := zoningStored s) hask hs (by simpa using hd) (by simpa using hlock)
        (by simpa using hp) (by simpa using hr) (by simpa using ho)
      simpa using hsent
    case kept =>
      have hnothing : runWait (zoningStored s) (.zoneOpen g) = zoningStored s := if_neg hn
      rw [(hfollows.still hd').2.2, finish_normal hask hd', hnothing]
      simp

/-- Settles O31. -/
theorem storeWriteCompletes : Obligations.StoreWriteCompletes :=
  fun _ => ⟨fun _ hw => seatWrite_completes hw, fun _ hw => zoningWrite_completes hw⟩

end Sys2Proof.Machine
end

section
/-! PROOF. The sizes of O3 as one predicate `Bounded`, in groups that each speak of one block, and what the shared
moves do to each group: a frame offered, a notice raised, a port or a filter record changed, a seat record written. -/

namespace Sys2Proof.Machine

open Sys2Proof.Config

/-! ## The groups -/

/-- The transmit queues within their sizes, one ROLLCALL at most, contents held only while one is on the line (R27 to
R29). -/
structure QueuesFit (l : Link) : Prop where
  urgent : l.urgent.length ≤ urgentCap
  normal : l.normal.length ≤ normalCap
  one : l.normal.countP isRollcall ≤ 1
  held : l.held ≠ none → rollcallOnLine l = true

/-- Every link counter within 16 bits (R40). -/
structure CountersFit (c : Counters) : Prop where
  sent : c.sent ≤ 65535
  received : c.received ≤ 65535
  collisions : c.collisions ≤ 65535
  drops : c.drops ≤ 65535
  badCheck : c.badCheck ≤ 65535
  runt : c.runt ≤ 65535
  giant : c.giant ≤ 65535
  overrun : c.overrun ≤ 65535
  unknownKind : c.unknownKind ≤ 65535
  holdsSent : c.holdsSent ≤ 65535
  holdsReceived : c.holdsReceived ≤ 65535

/-- The state of a port's filter record. -/
def filterAt (s : State) (n : Nat) : Option FilterState := (portAt s n).map (·.filter.state)

/-- The load queue holds each QUEUED port once; a load whose result counts is a LOADING port's (R161, R163). -/
structure LoadsFit (s : State) : Prop where
  once : s.filt.queue.Nodup
  queued : ∀ n, n ∈ s.filt.queue ↔ filterAt s n = some .queued
  loading : ∀ l, s.filt.flight = some l → l.ignored = false → filterAt s l.port = some .loading

/-- The state a port of an activation-queue entry has (R132). -/
def QEntry.portState (e : QEntry) : PortState := if e.fresh then .queued else .shed

/-- The part of `PortsAgree` that bounds the activation queue: one entry a fitted port at most (R132). -/
structure EntriesFit (s : State) : Prop where
  fitted : s.port.recs.length = fittedPorts s.st.straps
  once : (s.port.queue.map (·.port)).Nodup
  entry : ∀ e ∈ s.port.queue, (portAt s e.port).map (·.state) = some e.portState

/-- The recipients of an escrow list: four at most, each once (R119). -/
def slotsFit (l : List Addr) : Prop := l.length ≤ escrowCap ∧ l.Nodup

/-- The escrow list, by its own entries and by every stored or half-written record (R119). -/
structure EscrowFit (s : State) : Prop where
  slots : slotsFit (s.seat.escrow.map (·.rcpt))
  copyA : ∀ c, s.store.seat.a = some c → c.contents.slotsHold
  copyB : ∀ c, s.store.seat.b = some c → c.contents.slotsHold
  writing : ∀ r, s.store.seat.writing = some r → r.slotsHold

/-- What `Capacity` says, with the agreement of the activation queue and the ports that bounds the queue. -/
structure Bounded (s : State) : Prop where
  queues : QueuesFit s.link
  outbox : ∀ m ∈ s.zone.outbox, isRollcall m = false
  counters : CountersFit s.link.counters
  receive : s.link.rx.length ≤ receiveCap
  entries : EntriesFit s
  loads : LoadsFit s
  escrow : EscrowFit s
  notices : s.host.notices.length ≤ noticeCap ∧ s.host.overflow ≤ 255

theorem slotsHold_iff (r : SeatRecord) : r.slotsHold ↔ slotsFit (r.escrow.map (·.rcpt)) :=
  ⟨fun h => ⟨by simpa using h.four, h.once⟩, fun h => ⟨by simpa using h.1, h.2⟩⟩

theorem seatRecord_slots (s : State) : (seatRecord s).slotsHold ↔ slotsFit (s.seat.escrow.map (·.rcpt)) := by
  simp [slotsHold_iff, seatRecord, Function.comp_def]

/-- One entry a fitted port: the queue is no longer than the port table. -/
theorem EntriesFit.length {s : State} (h : EntriesFit s) : s.port.queue.length ≤ fittedPorts s.st.straps := by
  have hsub : s.port.queue.map (·.port) ⊆ List.range (fittedPorts s.st.straps) := fun n hn => by
    obtain ⟨e, he, rfl⟩ := List.mem_map.mp hn
    obtain ⟨p, hp, -⟩ := Option.map_eq_some_iff.mp (h.entry e he)
    have := (List.getElem?_eq_some_iff.mp hp).1
    rw [h.fitted] at this
    exact List.mem_range.mpr this
  simpa using (List.subperm_of_subset h.once hsub).length_le

theorem bounded_of_capacity {s : State} (hp : PortsAgree s) (h : Capacity s) : Bounded s where
  queues := ⟨h.urgent, h.normal, h.oneRollcall, h.heldOnLine⟩
  outbox := h.outbox
  counters := ⟨h.sent, h.received, h.collisions, h.drops, h.badCheck, h.runt, h.giant, h.overrun, h.unknownKind,
    h.holdsSent, h.holdsReceived⟩
  receive := h.receive
  entries := ⟨hp.fitted, hp.once, fun e he => Option.map_eq_some_iff.mpr (hp.entry e he)⟩
  loads := ⟨h.loadQueue, fun n => (h.queued n).trans Option.map_eq_some_iff.symm,
    fun l hl hi => Option.map_eq_some_iff.mpr (h.loading l hl hi)⟩
  escrow := ⟨(seatRecord_slots s).mp h.escrow, h.escrowA, h.escrowB, h.escrowWriting⟩
  notices := ⟨h.notices, h.overflow⟩

theorem Bounded.capacity {s : State} (h : Bounded s) : Capacity s where
  urgent := h.queues.urgent
  normal := h.queues.normal
  oneRollcall := h.queues.one
  heldOnLine := h.queues.held
  outbox := h.outbox
  portQueue := h.entries.length
  loadQueue := h.loads.once
  queued n := (h.loads.queued n).trans Option.map_eq_some_iff
  loading l hl hi := Option.map_eq_some_iff.mp (h.loads.loading l hl hi)
  escrow := (seatRecord_slots s).mpr h.escrow.slots
  escrowA := h.escrow.copyA
  escrowB := h.escrow.copyB
  escrowWriting := h.escrow.writing
  receive := h.receive
  notices := h.notices.1
  overflow := h.notices.2
  sent := h.counters.sent
  received := h.counters.received
  collisions := h.counters.collisions
  drops := h.counters.drops
  badCheck := h.counters.badCheck
  runt := h.counters.runt
  giant := h.counters.giant
  overrun := h.counters.overrun
  unknownKind := h.counters.unknownKind
  holdsSent := h.counters.holdsSent
  holdsReceived := h.counters.holdsReceived

/-! ## Operations that move nothing of it -/

/-- The link's part of what `Bounded` reads is the same. -/
@[simp] def SameLink (l k : Link) : Prop :=
  k.engine = l.engine ∧ k.urgent = l.urgent ∧ k.normal = l.normal ∧ k.held = l.held ∧ k.rx = l.rx ∧
  k.counters = l.counters

/-- The ports' part of what `Bounded` reads is the same. -/
@[simp] def SamePorts (s t : State) : Prop :=
  t.st.straps = s.st.straps ∧ t.port.recs = s.port.recs ∧ t.port.queue = s.port.queue ∧
  t.filt.queue = s.filt.queue ∧ t.filt.flight = s.filt.flight

/-- `t` differs from `s` in nothing that `Bounded` reads. -/
@[simp] def SameSizes (s t : State) : Prop :=
  SameLink s.link t.link ∧ SamePorts s t ∧ t.zone.outbox = s.zone.outbox ∧
  t.seat.escrow.map (·.rcpt) = s.seat.escrow.map (·.rcpt) ∧ t.store.seat.a = s.store.seat.a ∧
  t.store.seat.b = s.store.seat.b ∧ t.store.seat.writing = s.store.seat.writing ∧
  t.host.notices = s.host.notices ∧ t.host.overflow = s.host.overflow

variable {s t u : State}

theorem QueuesFit.same {l k : Link} (h : QueuesFit l) (e : SameLink l k) : QueuesFit k := by
  obtain ⟨heng, hu, hn, hh, -, -⟩ := e
  exact ⟨by rw [hu]; exact h.urgent, by rw [hn]; exact h.normal, by rw [hn]; exact h.one,
    by rw [hh, rollcallOnLine, heng, hn]; exact h.held⟩

theorem LoadsFit.same (h : LoadsFit s) (e : SamePorts s t) : LoadsFit t := by
  obtain ⟨-, hr, -, hq, hf⟩ := e
  have hfilter (n : Nat) : filterAt t n = filterAt s n := by simp [filterAt, portAt, hr]
  exact ⟨by rw [hq]; exact h.once, fun n => by rw [hq, hfilter]; exact h.queued n,
    fun l => by rw [hf, hfilter]; exact h.loading l⟩

theorem EntriesFit.same (h : EntriesFit s) (e : SamePorts s t) : EntriesFit t := by
  obtain ⟨hs, hr, hq, -, -⟩ := e
  exact ⟨by rw [hs, hr]; exact h.fitted, by rw [hq]; exact h.once, by rw [hq]; simpa [portAt, hr] using h.entry⟩

theorem EscrowFit.same (h : EscrowFit s) (hr : t.seat.escrow.map (·.rcpt) = s.seat.escrow.map (·.rcpt))
    (ha : t.store.seat.a = s.store.seat.a) (hb : t.store.seat.b = s.store.seat.b)
    (hw : t.store.seat.writing = s.store.seat.writing) : EscrowFit t :=
  ⟨by rw [hr]; exact h.slots, by rw [ha]; exact h.copyA, by rw [hb]; exact h.copyB, by rw [hw]; exact h.writing⟩

/-- An operation that moves nothing `Bounded` reads. -/
theorem Bounded.same (h : Bounded u) (e : SameSizes u t) : Bounded t := by
  obtain ⟨hlink, hports, ho, hesc, ha, hb, hw, hn, hov⟩ := e
  exact ⟨h.queues.same hlink, by rw [ho]; exact h.outbox, by rw [hlink.2.2.2.2.2]; exact h.counters,
    by rw [hlink.2.2.2.2.1]; exact h.receive, h.entries.same hports, h.loads.same hports,
    h.escrow.same hesc ha hb hw, by rw [hn, hov]; exact h.notices⟩

theorem Bounded.ite {c : Prop} [Decidable c] (ht : Bounded t) (hu : Bounded u) : Bounded (if c then t else u) := by
  split
  · exact ht
  · exact hu

theorem Bounded.foldl {α : Type} {f : State → α → State} (hf : ∀ u x, Bounded u → Bounded (f u x)) (l : List α)
    (h : Bounded u) : Bounded (l.foldl f u) := by
  induction l generalizing u with
  | nil => exact h
  | cons x l ih => exact ih (hf u x h)

/-! ## Changes of one group alone -/

/-- A change of the link alone. -/
theorem Bounded.link {l : Link} (h : Bounded u) (hq : QueuesFit l) (hc : CountersFit l.counters)
    (hr : l.rx.length ≤ receiveCap) : Bounded { u with link := l } :=
  { h with queues := hq, counters := hc, receive := hr, entries := ⟨h.entries.fitted, h.entries.once, h.entries.entry⟩,
           loads := ⟨h.loads.once, h.loads.queued, h.loads.loading⟩,
           escrow := ⟨h.escrow.slots, h.escrow.copyA, h.escrow.copyB, h.escrow.writing⟩ }

/-- A change of the link's queues alone. -/
theorem Bounded.linkQueues {l : Link} (h : Bounded u) (hq : QueuesFit l) (hc : l.counters = u.link.counters)
    (hr : l.rx = u.link.rx) : Bounded { u with link := l } :=
  h.link hq (by rw [hc]; exact h.counters) (by rw [hr]; exact h.receive)

/-- A change of the ports, the activation queue and the loads alone. -/
theorem Bounded.ports (h : Bounded u) (hlink : t.link = u.link) (hzone : t.zone = u.zone)
    (hseat : t.seat.escrow = u.seat.escrow) (hstore : t.store = u.store) (hhost : t.host = u.host)
    (he : EntriesFit t) (hl : LoadsFit t) : Bounded t :=
  ⟨by rw [hlink]; exact h.queues, by rw [hzone]; exact h.outbox, by rw [hlink]; exact h.counters,
    by rw [hlink]; exact h.receive, he, hl,
    h.escrow.same (by rw [hseat]) (by rw [hstore]) (by rw [hstore]) (by rw [hstore]), by rw [hhost]; exact h.notices⟩

/-- A change of the escrow list's entries or of the seat record's copies alone. -/
theorem Bounded.escrowed (h : Bounded u) (hlink : t.link = u.link) (hzone : t.zone = u.zone) (hport : t.port = u.port)
    (hst : t.st = u.st) (hfilt : t.filt = u.filt) (hhost : t.host = u.host) (he : EscrowFit t) : Bounded t :=
  ⟨by rw [hlink]; exact h.queues, by rw [hzone]; exact h.outbox, by rw [hlink]; exact h.counters,
    by rw [hlink]; exact h.receive, h.entries.same (by simp [hst, hport, hfilt]),
    h.loads.same (by simp [hst, hport, hfilt]), he, by rw [hhost]; exact h.notices⟩

/-- A change of the frames that wait for the normal queue (R146). -/
theorem Bounded.waiting {l : List Msg} {r : Option Nat} (h : Bounded u) (hl : ∀ m ∈ l, isRollcall m = false) :
    Bounded { u with zone.outbox := l, zone.resend := r } :=
  { h with outbox := hl, entries := ⟨h.entries.fitted, h.entries.once, h.entries.entry⟩,
           loads := ⟨h.loads.once, h.loads.queued, h.loads.loading⟩,
           escrow := ⟨h.escrow.slots, h.escrow.copyA, h.escrow.copyB, h.escrow.writing⟩ }

/-! ## Notices -/

/-- A notice joins the queue where it holds fewer than 32, and else is counted up to 255 (R179). -/
theorem raise_bounded {k : NoticeKind} {n : Nat} {d : List Byte} (h : Bounded u) : Bounded (raise k n d u) := by
  have hfit : (raise k n d u).host.notices.length ≤ noticeCap ∧ (raise k n d u).host.overflow ≤ 255 := by
    unfold raise
    split
    case isTrue hroom => exact ⟨by simpa using hroom, h.notices.2⟩
    case isFalse => exact ⟨h.notices.1, min_le_left _ _⟩
  have hports : SamePorts u (raise k n d u) := by simp
  exact ⟨by simpa using h.queues, by simpa using h.outbox, by simpa using h.counters, by simpa using h.receive,
    h.entries.same hports, h.loads.same hports, h.escrow.same (by simp) (by simp) (by simp) (by simp), hfit⟩

theorem raiseOwn_bounded {k : NoticeKind} {d : List Byte} (h : Bounded u) : Bounded (raiseOwn k d u) :=
  raise_bounded h

theorem zoneResult_bounded {g : Nat} {o : Option Addr} {a b : Nat} {l : List Byte} (h : Bounded u) :
    Bounded (zoneResult g o a b l u) := raise_bounded h

/-! ## The transmit queues -/

/-- Contents are held only while the engine is on a ROLLCALL (R29). -/
theorem QueuesFit.held_none {l : Link} (h : QueuesFit l) (hl : rollcallOnLine l = false) : l.held = none := by
  by_contra hne
  exact absurd (h.held hne) (by simp [hl])

/-- Off the line nothing is held, so that the engine may move to any phase but a ROLLCALL's. -/
theorem QueuesFit.engine {l : Link} (h : QueuesFit l) (hl : rollcallOnLine l = false) (e : Engine) :
    QueuesFit { l with engine := e } :=
  ⟨h.urgent, h.normal, h.one, fun hne => absurd (h.held_none hl) hne⟩

theorem rollcallOnLine_idle {l : Link} (h : l.engine = .idle) : rollcallOnLine l = false := by
  simp [rollcallOnLine, h]

theorem rollcallOnLine_defer {l : Link} {q : TxQueue} (h : l.engine = .defer q) : rollcallOnLine l = false := by
  simp [rollcallOnLine, h]

theorem kickLink_fit {l : Link} (h : QueuesFit l) : QueuesFit (kickLink l) := by
  unfold kickLink
  split
  case h_1 hidle =>
    have hoff := rollcallOnLine_idle hidle
    split
    · split
      · exact h.engine hoff _
      · exact h
    · split
      · exact h.engine hoff _
      · exact h
  all_goals exact h

theorem kick_bounded (h : Bounded u) : Bounded (kick u) :=
  h.linkQueues (kickLink_fit h.queues) (kick_link u).2.2.2.2.2.2.2.1 (kick_link u).2.2.2.2.2.2.2.2.1

theorem preempt_bounded (h : Bounded u) : Bounded (preempt u) := by
  unfold preempt
  split
  case h_1 hd => exact kick_bounded (h.linkQueues (h.queues.engine (rollcallOnLine_defer hd) .idle) rfl rfl)
  case h_2 => exact kick_bounded h

/-- A frame behind the queue leaves its head, and so what is on the line. -/
theorem QueuesFit.append {l : Link} {m : Msg} (h : QueuesFit l) (hroom : l.normal.length < normalCap)
    (hone : isRollcall m = true → l.normal.countP isRollcall = 0) :
    QueuesFit { l with normal := l.normal ++ [m] } where
  urgent := h.urgent
  normal := by simpa using hroom
  one := by
    have := h.one
    cases hr : isRollcall m
    · simpa [hr] using this
    · simp [hr, hone hr]
  held hne := by
    have hline := h.held hne
    cases hl : l.normal with
    | nil => simp [rollcallOnLine, hl] at hline
    | cons x r => simpa [rollcallOnLine, hl] using hline

theorem offerNormal_bounded {m : Msg} (hm : isRollcall m = false) (h : Bounded u) : Bounded (offerNormal m u).1 := by
  unfold offerNormal
  split
  · exact h
  · split
    case isTrue hroom =>
      exact kick_bounded (h.linkQueues (h.queues.append hroom (by simp [hm])) rfl rfl)
    case isFalse => exact h

theorem sendNormal_bounded {m : Msg} (hm : isRollcall m = false) (h : Bounded u) : Bounded (sendNormal m u) :=
  offerNormal_bounded hm h

theorem offerUrgent_bounded {m : Msg} (h : Bounded u) : Bounded (offerUrgent m u).1 := by
  unfold offerUrgent
  split
  case isTrue hroom =>
    exact preempt_bounded (h.linkQueues ⟨by simpa using hroom.2, h.queues.normal, h.queues.one, h.queues.held⟩ rfl rfl)
  case isFalse => exact h

theorem sendDrop_bounded (h : Bounded u) : Bounded (sendDrop u) := offerUrgent_bounded h

theorem isRollcall_replaced (f : Roll) (m : Msg) :
    isRollcall (if isRollcall m then .rollcall f else m) = isRollcall m := by
  split
  case isTrue hm => rw [hm]; rfl
  case isFalse => rfl

/-- New contents stand where the ROLLCALL stood (R29). -/
theorem QueuesFit.replace {l : Link} (h : QueuesFit l) (f : Roll) :
    QueuesFit { l with normal := replaceRollcall f l.normal } where
  urgent := h.urgent
  normal := by simpa [replaceRollcall] using h.normal
  one := by
    have hsame : (fun m => isRollcall (if isRollcall m then .rollcall f else m)) = isRollcall :=
      funext (isRollcall_replaced f)
    simpa [replaceRollcall, List.countP_map, Function.comp_def, hsame] using h.one
  held hne := by
    have hline := h.held hne
    cases hl : l.normal with
    | nil => simp [rollcallOnLine, hl] at hline
    | cons x r => simpa [rollcallOnLine, hl, replaceRollcall, isRollcall_replaced] using hline

/-- Contents are held while a ROLLCALL is on the line, replaced where one waits, and queued else (R29). -/
theorem offerRollcall_bounded {f : Roll} (h : Bounded u) : Bounded (offerRollcall f u) := by
  have hperiod : Bounded { u with view.period := some (u.now + ms 250) } := h.same (by simp)
  unfold offerRollcall
  dsimp only
  split
  · exact h
  · split
    case isTrue hline =>
      exact hperiod.linkQueues ⟨h.queues.urgent, h.queues.normal, h.queues.one, fun _ => hline⟩ rfl rfl
    case isFalse =>
      split
      · exact hperiod.linkQueues (h.queues.replace f) rfl rfl
      · split
        case isTrue hnone hroom =>
          have hzero : u.link.normal.countP isRollcall = 0 := by
            simpa [List.countP_eq_zero, List.any_eq_true] using hnone
          exact kick_bounded (hperiod.linkQueues (h.queues.append hroom fun _ => hzero) rfl rfl)
        case isFalse => exact hperiod

theorem offerChanged_bounded (h : Bounded u) : Bounded (offerChanged u) := by
  unfold offerChanged
  split
  · exact offerRollcall_bounded (h.same (by simp))
  · exact h

/-- Frames that are no ROLLCALL are offered, or wait on (R146). -/
theorem pumpZone_bounded (l : List Msg) (hl : ∀ m ∈ l, isRollcall m = false) (h : Bounded u) :
    Bounded (pumpZone l u) := by
  induction l generalizing u with
  | nil => exact h.waiting (by simp)
  | cons m l ih =>
    have hrest : ∀ x ∈ l, isRollcall x = false := fun x hx => hl x (by simp [hx])
    unfold pumpZone
    split
    all_goals
      rename_i ho
      obtain rfl := offerNormal_of ho
      have hm := offerNormal_bounded (hl m (by simp)) h
    · exact ih hrest (hm.same (by simp))
    · exact ih hrest (hm.same (by simp))
    · exact hm.waiting hl

theorem sendZone_bounded {l : List Msg} (hl : ∀ m ∈ l, isRollcall m = false) (h : Bounded u) :
    Bounded (sendZone l u) := by
  have hall : ∀ m ∈ u.zone.outbox ++ l, isRollcall m = false := fun m hm =>
    (List.mem_append.mp hm).elim (h.outbox m) (hl m)
  unfold sendZone
  split
  · exact h.waiting (r := u.zone.resend) hall
  · exact pumpZone_bounded _ hall h

/-- An urgent head has left: nothing is held, for no ROLLCALL was on the line. -/
theorem popHead_urgent_fit {l : Link} (h : QueuesFit l) (hoff : rollcallOnLine l = false) :
    QueuesFit (popHead .urgent l) :=
  ⟨by simpa [popHead] using h.urgent.trans' (Nat.sub_le _ 1), h.normal, h.one,
    fun hne => absurd (h.held_none hoff) hne⟩

/-- A normal head has left: contents held for a ROLLCALL on the line take the place it left (R29). -/
theorem endAttempt_normal_fit {l : Link} (h : QueuesFit l) : QueuesFit (endAttempt .normal l) := by
  have htail : (l.normal.drop 1).countP isRollcall ≤ 1 := ((List.drop_sublist 1 _).countP_le).trans h.one
  have hlen : (l.normal.drop 1).length ≤ normalCap := ((List.drop_sublist 1 _).length_le).trans h.normal
  have hurgent := h.urgent
  cases hheld : l.held with
  | none =>
    have heq : endAttempt .normal l = popHead .normal l := by simp [endAttempt, releaseHeld, popHead, hheld]
    rw [heq]
    exact ⟨hurgent, hlen, htail, by simp [popHead, hheld]⟩
  | some f =>
    have hline := h.held (by simp [hheld])
    obtain ⟨m, r, hn⟩ : ∃ m r, l.normal = m :: r := by
      cases hn : l.normal with
      | nil => simp [rollcallOnLine, hn] at hline
      | cons m r => exact ⟨m, r, rfl⟩
    have hm : isRollcall m = true := by
      simp only [rollcallOnLine, hn, Bool.and_eq_true] at hline
      exact hline.1
    have hcap := h.normal
    rw [hn] at hcap
    have hzero : r.countP isRollcall = 0 := by
      have hone := h.one
      rw [hn, List.countP_cons_of_pos hm] at hone
      omega
    refine ⟨by simpa [endAttempt, releaseHeld, popHead, hheld] using hurgent, ?_, ?_, ?_⟩
    · simpa [endAttempt, releaseHeld, popHead, hheld, hn] using hcap
    · have hf : isRollcall (.rollcall f) = true := rfl
      simp only [endAttempt, releaseHeld, popHead, hheld, hn, List.drop_one, List.tail_cons, List.countP_append, hzero]
      simp [hf]
    · simp [endAttempt, releaseHeld, popHead, hheld]

/-- The head's attempt is over, its frame gone (R24, R26, R29). -/
theorem endAttempt_fit {l : Link} {q : TxQueue} (h : QueuesFit l) (hq : rollcallOnLine l = true → q = .normal) :
    QueuesFit (endAttempt q l) := by
  cases q with
  | urgent => exact popHead_urgent_fit h (Bool.eq_false_iff.mpr fun hline => nomatch hq hline)
  | normal => exact endAttempt_normal_fit h

/-- Held contents replace the collided ROLLCALL's (R29). -/
theorem applyHeld_fit {l : Link} (h : QueuesFit { l with held := none }) : QueuesFit (applyHeld l) := by
  unfold applyHeld
  split
  case h_1 hn => exact ⟨h.urgent, h.normal, h.one, fun hne => absurd hn hne⟩
  case h_2 f hf => exact h.replace f

/-! ## Ports, activation queue and loads -/

theorem portAt_setPort (n m : Nat) (q : Port) (s : State) :
    portAt (setPort n q s) m = if n = m ∧ (portAt s n).isSome then some q else portAt s m := by
  simp only [portAt, setPort, List.getElem?_set]
  by_cases hnm : n = m
  · subst hnm
    by_cases hn : n < s.port.recs.length <;> simp [hn]
  · simp [hnm]

/-- Away from a port in service no entry stands for it: its entry's state is QUEUED or SHED (R132). -/
theorem EntriesFit.free {n : Nat} {p : Port} (h : EntriesFit s) (hp : portAt s n = some p)
    (hs : p.state ≠ .queued ∧ p.state ≠ .shed) : ∀ e ∈ s.port.queue, e.port ≠ n := by
  rintro e he rfl
  have hentry := h.entry e he
  rw [hp, Option.map_some, Option.some.injEq, QEntry.portState] at hentry
  split at hentry
  · exact hs.1 hentry
  · exact hs.2 hentry

/-- A port's record changed that no entry stands for, or whose state stands. -/
theorem setPort_entries {n : Nat} {p q : Port} (h : EntriesFit s) (hp : portAt s n = some p)
    (hq : q.state = p.state ∨ ∀ e ∈ s.port.queue, e.port ≠ n) : EntriesFit (setPort n q s) where
  fitted := by simpa [setPort] using h.fitted
  once := h.once
  entry e he := by
    have hentry := h.entry e he
    rw [portAt_setPort]
    split
    case isTrue hn =>
      obtain ⟨rfl, -⟩ := hn
      rcases hq with hq | hq
      · rw [Option.map_some, hq]; simpa [hp] using hentry
      · exact absurd rfl (hq e he)
    case isFalse => exact hentry

theorem filterAt_setPort {n m : Nat} {p q : Port} (hp : portAt s n = some p) :
    filterAt (setPort n q s) m = if n = m then some q.filter.state else filterAt s m := by
  rw [filterAt, portAt_setPort, hp]
  by_cases hnm : n = m <;> simp [hnm, filterAt]

/-- A port's record changed, its filter record's state as it was. -/
theorem setPort_loads {n : Nat} {p q : Port} (h : LoadsFit s) (hp : portAt s n = some p)
    (hf : q.filter.state = p.filter.state) : LoadsFit (setPort n q s) := by
  have hsame (m : Nat) : filterAt (setPort n q s) m = filterAt s m := by
    rw [filterAt_setPort hp]
    split
    case isTrue hnm => subst hnm; simp [filterAt, hp, hf]
    case isFalse => rfl
  exact ⟨h.once, fun m => (h.queued m).trans (by rw [hsame]), fun l hl hi => (hsame l.port).trans (h.loading l hl hi)⟩

/-- A change of one port's record with its filter's state as it was. -/
theorem setPort_bounded {n : Nat} {p q : Port} (h : Bounded u) (hp : portAt u n = some p)
    (hf : q.filter.state = p.filter.state) (hq : q.state = p.state ∨ ∀ e ∈ u.port.queue, e.port ≠ n) :
    Bounded (setPort n q u) :=
  h.ports rfl rfl rfl rfl rfl (setPort_entries h.entries hp hq) (setPort_loads h.loads hp hf)

end Sys2Proof.Machine
end

section
/-! PROOF. `Bounded` through the port table, the activation queue, the load queue and the loads on the channel. -/

namespace Sys2Proof.Machine

open Sys2Proof.Config

variable {s t u : State}

/-! ## Filter records and loads -/

/-- A filter record's state changed with the loader: the port is in the queue exactly as its record says, the queue
holds every other port as before, and a load that counts is a LOADING port's (R161, R163). -/
theorem LoadsFit.move {n : Nat} {p q : Port} {x : Filters} (h : LoadsFit s) (hp : portAt s n = some p)
    (honce : x.queue.Nodup) (hn : n ∈ x.queue ↔ q.filter.state = .queued)
    (hother : ∀ m, n ≠ m → (m ∈ x.queue ↔ m ∈ s.filt.queue))
    (hload : ∀ l, x.flight = some l → l.ignored = false →
      (n = l.port → q.filter.state = .loading) ∧ (n ≠ l.port → filterAt s l.port = some .loading)) :
    LoadsFit (setPort n q { s with filt := x }) := by
  have hfilter (m : Nat) : filterAt (setPort n q { s with filt := x }) m =
      if n = m then some q.filter.state else filterAt s m := filterAt_setPort (s := { s with filt := x }) hp
  refine ⟨honce, fun m => ?_, fun l hl hi => ?_⟩
  · rw [hfilter]
    split
    case isTrue hnm => subst hnm; exact hn.trans (by simp)
    case isFalse hnm => exact (hother m hnm).trans (h.queued m)
  · rw [hfilter]
    split
    case isTrue hnl => rw [(hload l hl hi).1 hnl]
    case isFalse hnl => exact (hload l hl hi).2 hnl

/-- A port that is not QUEUED is not in the load queue. -/
theorem LoadsFit.absent {n : Nat} {p : Port} (h : LoadsFit s) (hp : portAt s n = some p)
    (hs : p.filter.state ≠ .queued) : n ∉ s.filt.queue := fun hn => by
  have hq := (h.queued n).mp hn
  rw [filterAt, hp, Option.map_some, Option.some.injEq] at hq
  exact hs hq

/-- A port that is not LOADING has no load that counts. -/
theorem LoadsFit.unloaded {n : Nat} {p : Port} (h : LoadsFit s) (hp : portAt s n = some p)
    (hs : p.filter.state ≠ .loading) {l : Flight} (hl : s.filt.flight = some l) (hi : l.ignored = false) :
    n ≠ l.port := by
  rintro rfl
  have hload := h.loading l hl hi
  rw [filterAt, hp, Option.map_some, Option.some.injEq] at hload
  exact hs hload

theorem darkenFilter_loads {n : Nat} {p q : Port} (h : LoadsFit s) (hp : portAt s n = some p)
    (hf : q.filter.state = p.filter.state) : LoadsFit (darkenFilter n q s) := by
  unfold darkenFilter
  split
  case h_1 hq =>
    have hload {l : Flight} (hl : s.filt.flight = some l) (hi : l.ignored = false) : n ≠ l.port :=
      h.unloaded hp (by rw [← hf, hq]; decide) hl hi
    exact h.move hp (h.once.filter _) (by simp) (fun m hm => by simp [Ne.symm hm])
      fun l hl hi => ⟨fun hn => absurd hn (hload hl hi), fun _ => h.loading l hl hi⟩
  case h_2 hq =>
    refine h.move hp h.once ?_ (fun m _ => Iff.rfl) fun l hl hi => ?_
    · exact iff_of_false (h.absent hp (by rw [← hf, hq]; decide)) (by simp)
    · obtain ⟨k, hk, rfl⟩ := Option.map_eq_some_iff.mp hl
      by_cases hn : k.port = n
      · simp [hn] at hi
      · simp only [hn, if_false] at hi ⊢
        exact ⟨fun h => absurd h.symm hn, fun _ => h.loading k hk hi⟩
  all_goals exact setPort_loads h hp hf

theorem darkenFilter_entries {n : Nat} {p q : Port} (h : EntriesFit s) (hp : portAt s n = some p)
    (hq : q.state = p.state ∨ ∀ e ∈ s.port.queue, e.port ≠ n) : EntriesFit (darkenFilter n q s) := by
  have hset (x : Filters) (r : Port) (hr : r.state = q.state) : EntriesFit (setPort n r { s with filt := x }) :=
    setPort_entries (s := { s with filt := x }) ⟨h.fitted, h.once, h.entry⟩ hp (hq.imp_left (hr.trans ·))
  unfold darkenFilter
  split
  · exact hset _ _ rfl
  · exact hset _ _ rfl
  · exact setPort_entries h hp hq
  · exact setPort_entries h hp hq

/-- A port leaves service, its filter record and the loader following (R163). -/
theorem leaveService_bounded {n : Nat} {p q : Port} (h : Bounded u) (hp : portAt u n = some p)
    (hf : q.filter.state = p.filter.state) (hq : q.state = p.state ∨ ∀ e ∈ u.port.queue, e.port ≠ n) :
    Bounded (leaveService n q u) := by
  refine h.ports (by simp) (by simp) (by simp) (by simp) (by simp) ?_ ?_
  · exact darkenFilter_entries h.entries hp hq
  · exact darkenFilter_loads h.loads hp hf

/-- A filter record's state changed with the loader, as `LoadsFit.move` says. -/
theorem setFilter_bounded {n : Nat} {p : Port} {f : Filter → Filter} {x : Filters} (h : Bounded u)
    (hp : portAt u n = some p) (honce : x.queue.Nodup) (hn : n ∈ x.queue ↔ (f p.filter).state = .queued)
    (hother : ∀ m, n ≠ m → (m ∈ x.queue ↔ m ∈ u.filt.queue))
    (hload : ∀ l, x.flight = some l → l.ignored = false →
      (n = l.port → (f p.filter).state = .loading) ∧ (n ≠ l.port → filterAt u l.port = some .loading)) :
    Bounded (setFilter n f { u with filt := x }) := by
  have heq : setFilter n f { u with filt := x } =
      setPort n { p with filter := f p.filter } { u with filt := x } := by
    have hp' : portAt { u with filt := x } n = some p := hp
    simp [setFilter, mapPort, hp']
  rw [heq]
  refine h.ports rfl rfl rfl rfl rfl ?_ (h.loads.move hp honce hn hother hload)
  exact setPort_entries (s := { u with filt := x }) ⟨h.entries.fitted, h.entries.once, h.entries.entry⟩ hp (.inl rfl)

/-! ## Ports -/

theorem freeSeat_bounded (h : Bounded u) : Bounded (freeSeat u) := by
  unfold freeSeat
  split
  · exact h
  · exact h.same (by simp)

theorem bindSeat_bounded (h : Bounded u) : Bounded (bindSeat u) := by
  unfold bindSeat
  split
  · exact h
  · exact h.same (by simp)

/-- A port that no entry stands for becomes DARK (R127). -/
theorem darkenPort_bounded {n : Nat} (h : Bounded u) (hfree : ∀ e ∈ u.port.queue, e.port ≠ n) :
    Bounded (darkenPort n u) := by
  unfold darkenPort
  split
  · exact h
  case h_2 p hp =>
    have hfreed : Bounded (if p.seat then freeSeat u else u) := Bounded.ite (freeSeat_bounded h) h
    have hport : (if p.seat then freeSeat u else u).port = u.port := by split <;> simp
    exact leaveService_bounded (p := p) hfreed (by rwa [portAt, hport]) rfl (.inr (by rwa [hport]))

/-- A port in service has no entry, and becomes DIMMING (R131, R139). -/
theorem dimPort_bounded {c : DimCause} {n : Nat} (h : Bounded u) : Bounded (dimPort c n u) := by
  unfold dimPort
  split
  · exact h
  case h_2 p hp =>
    split
    case isTrue hin =>
      refine leaveService_bounded (p := p) h hp rfl (.inr (h.entries.free hp ?_))
      simp only [Port.inService, Bool.or_eq_true, decide_eq_true_eq] at hin
      rcases hin with hin | hin <;> simp [hin]
    case isFalse => exact h

theorem dimAll_bounded (h : Bounded u) : Bounded (dimAll u) :=
  Bounded.foldl (fun _ _ hv => dimPort_bounded hv) _ h

/-- Entries that leave the queue leave the others' agreement as it was. -/
theorem EntriesFit.sublist {l : List QEntry} (h : EntriesFit s) (hl : l.Sublist s.port.queue) :
    EntriesFit { s with port.queue := l } :=
  ⟨h.fitted, h.once.sublist (hl.map _), fun e he => h.entry e (hl.subset he)⟩

/-- An entry joins for a port of its state that has none. -/
theorem EntriesFit.join {e : QEntry} {l : List QEntry} (h : EntriesFit s)
    (he : (portAt s e.port).map (·.state) = some e.portState) (hfree : ∀ x ∈ s.port.queue, x.port ≠ e.port)
    (hl : l.Perm (e :: s.port.queue)) : EntriesFit { s with port.queue := l } where
  fitted := h.fitted
  once := by
    refine (hl.map _).nodup_iff.mpr (List.nodup_cons.mpr ⟨fun hm => ?_, h.once⟩)
    obtain ⟨x, hx, hxe⟩ := List.mem_map.mp hm
    exact hfree x hx hxe
  entry x hx := by
    rcases List.mem_cons.mp (hl.mem_iff.mp hx) with rfl | hx
    · exact he
    · exact h.entry x hx

/-- A change of the activation queue alone. -/
theorem Bounded.queue {l : List QEntry} (h : Bounded u) (he : EntriesFit { u with port.queue := l }) :
    Bounded { u with port.queue := l } :=
  h.ports rfl rfl rfl rfl rfl he ⟨h.loads.once, h.loads.queued, h.loads.loading⟩

theorem portAt_darkenFilter {n : Nat} {p q : Port} (hp : portAt s n = some p) :
    (portAt (darkenFilter n q s) n).map (·.state) = some q.state := by
  have hset (x : Filters) (r : Port) (hr : r.state = q.state) :
      (portAt (setPort n r { s with filt := x }) n).map (·.state) = some q.state := by
    have hp' : portAt { s with filt := x } n = some p := hp
    rw [portAt_setPort, hp']
    simp [hr]
  unfold darkenFilter
  split
  · exact hset _ _ rfl
  · exact hset _ _ rfl
  · exact hset s.filt _ rfl
  · exact hset s.filt _ rfl

theorem darkenFilter_queue (n : Nat) (q : Port) (s : State) : (darkenFilter n q s).port.queue = s.port.queue := by
  unfold darkenFilter
  split <;> rfl

/-- A port in service is shed: its restore entry goes ahead of the queue (R138). -/
theorem shedPort_bounded {n : Nat} (h : Bounded u) : Bounded (shedPort n u) := by
  unfold shedPort
  split
  · exact h
  case h_2 p hp =>
    split
    case isTrue hin =>
      have hfree := h.entries.free hp (by
        simp only [Port.inService, Bool.or_eq_true, decide_eq_true_eq] at hin
        rcases hin with hin | hin <;> simp [hin])
      have hleft := leaveService_bounded (q := { p with state := .shed, timer := none }) h hp rfl (.inr hfree)
      have hqueue : (leaveService n { p with state := .shed, timer := none } u).port.queue = u.port.queue :=
        darkenFilter_queue _ _ _
      refine raise_bounded (hleft.queue (hleft.entries.join (e := { port := n, fresh := false }) ?_ ?_ (.refl _)))
      · exact portAt_darkenFilter hp
      · rw [hqueue]; exact hfree
    case isFalse => exact h

theorem mapPort_of_some {n : Nat} {f : Port → Port} {p : Port} (hp : portAt s n = some p) :
    mapPort n f s = setPort n (f p) s := by
  simp [mapPort, hp]

/-- The head leaves the queue and its port, which had that entry alone, is LIGHTING (R135). -/
theorem startHead_bounded (h : Bounded u) : Bounded (startHead u) := by
  unfold startHead
  split
  · exact h
  case h_2 e rest hq =>
    have hbound : Bounded (if e.fresh then bindSeat u else u) := Bounded.ite (bindSeat_bounded h) h
    have hport : (if e.fresh then bindSeat u else u).port = u.port := by split <;> simp
    generalize hv : (if e.fresh then bindSeat u else u) = v at hbound hport
    have hrest : Bounded { v with port.queue := rest } :=
      hbound.queue (hbound.entries.sublist (by rw [hport, hq]; exact List.sublist_cons_self _ _))
    have honce := h.entries.once
    rw [hq, List.map_cons, List.nodup_cons] at honce
    obtain ⟨p, hp, -⟩ := Option.map_eq_some_iff.mp (h.entries.entry e (by simp [hq]))
    have hp' : portAt { v with port.queue := rest } e.port = some p := by rwa [portAt, hport]
    dsimp only
    rw [mapPort_of_some hp']
    have hlit := setPort_bounded (q := { p with
        state := .lighting, seat := true, startAt := some v.now, timer := some (v.now + ms 100),
        restored := !e.fresh }) hrest hp' rfl
      (.inr fun x hx hxe => honce.1 (hxe ▸ List.mem_map_of_mem hx))
    exact hlit.same (by simp [recordStart])

theorem darkenPort_loads {n : Nat} (h : LoadsFit s) : LoadsFit (darkenPort n s) := by
  unfold darkenPort
  split
  · exact h
  case h_2 p hp =>
    have hsame : (if p.seat then freeSeat s else s).port = s.port ∧ (if p.seat then freeSeat s else s).filt = s.filt ∧
        (if p.seat then freeSeat s else s).st = s.st := by split <;> simp
    obtain ⟨hport, hfilt, hst⟩ := hsame
    exact darkenFilter_loads (p := p) (h.same (by simp [hport, hfilt, hst])) (by rwa [portAt, hport]) rfl

theorem darkenPort_length (n : Nat) (s : State) : (darkenPort n s).port.recs.length = s.port.recs.length := by
  unfold darkenPort
  split
  · rfl
  · have hlen (q : Port) (v : State) : (leaveService n q v).port.recs.length = v.port.recs.length := by
      unfold leaveService darkenFilter
      split <;> simp [setPort]
    dsimp only
    split <;> simp [hlen]

/-- Ports darkened one after another, and the queue emptied (R139). -/
theorem darkened_bounded {α : Type} (f : α → Nat) (l : List α) (h : Bounded u)
    (hlink : t.link = u.link) (hzone : t.zone = u.zone) (hseat : t.seat.escrow = u.seat.escrow)
    (hstore : t.store = u.store) (hhost : t.host = u.host) (hst : t.st = u.st)
    (hrecs : t.port.recs = (l.foldl (fun s x => darkenPort (f x) s) u).port.recs)
    (hfilt : t.filt = (l.foldl (fun s x => darkenPort (f x) s) u).filt) (hqueue : t.port.queue = []) : Bounded t := by
  have hloads : ∀ (l : List α) (v : State), LoadsFit v → LoadsFit (l.foldl (fun s x => darkenPort (f x) s) v) := by
    intro l
    induction l with
    | nil => exact fun v hv => hv
    | cons x l ih => exact fun v hv => ih _ (darkenPort_loads hv)
  have hlen := foldl_same (g := (·.port.recs.length)) (f := fun s x => darkenPort (f x) s)
    (fun v x => darkenPort_length (f x) v) l u
  refine h.ports hlink hzone hseat hstore hhost ⟨?_, by simp [hqueue], by simp [hqueue]⟩ ?_
  · rw [hrecs, hst]; exact hlen.trans h.entries.fitted
  · have hl := hloads l u h.loads
    have hfilter (n : Nat) : filterAt t n = filterAt (l.foldl (fun s x => darkenPort (f x) s) u) n := by
      simp [filterAt, portAt, hrecs]
    exact ⟨by rw [hfilt]; exact hl.once, fun n => by rw [hfilt, hfilter]; exact hl.queued n,
      fun k => by rw [hfilt, hfilter]; exact hl.loading k⟩

theorem emptyQueue_bounded (h : Bounded u) : Bounded (emptyQueue u) :=
  darkened_bounded (fun e : QEntry => e.port) u.port.queue h (by simp) (by simp) (by simp) (by simp) (by simp)
    (by simp) rfl rfl rfl

theorem darkenAll_bounded (h : Bounded u) : Bounded (darkenAll u) :=
  darkened_bounded (fun n : Nat => n) (List.range u.port.recs.length) h (by simp) (by simp) (by simp) (by simp)
    (by simp) (by simp) rfl rfl rfl

/-- A port's entry leaves the queue, and none of it stays. -/
theorem dropEntry_bounded {n : Nat} (h : Bounded u) : Bounded (dropEntry n u) :=
  h.queue (h.entries.sublist List.filter_sublist)

theorem removeEntry_bounded {n : Nat} (h : Bounded u) : Bounded (removeEntry n u) := by
  unfold removeEntry
  split
  · exact (dropEntry_bounded (n := n) (h.same (t := closeWindow u) (by simp))).same
      (by simp)
  · exact dropEntry_bounded h

theorem removeEntry_free (n : Nat) (s : State) : ∀ e ∈ (removeEntry n s).port.queue, e.port ≠ n := by
  unfold removeEntry
  split <;> simp [dropEntry]

/-! ## Loads -/

/-- A load owed queues a port that is neither QUEUED nor LOADING (R163). -/
theorem oweLoad_bounded {n : Nat} (h : Bounded u) : Bounded (oweLoad n u) := by
  unfold oweLoad
  split
  · exact h
  case h_2 p hp =>
    have hqueued (hs : p.filter.state ≠ .queued) (hl : p.filter.state ≠ .loading) :
        Bounded (setFilter n (fun f => { f with state := .queued }) { u with filt.queue := u.filt.queue ++ [n] }) := by
      have habsent := h.loads.absent hp hs
      refine setFilter_bounded (x := { u.filt with queue := u.filt.queue ++ [n] }) h hp ?_ (by simp) ?_ ?_
      · exact List.nodup_append.mpr ⟨h.loads.once, List.nodup_singleton n, by
          rintro a ha b hb rfl
          exact habsent (List.mem_singleton.mp hb ▸ ha)⟩
      · exact fun m hm => by simp [Ne.symm hm]
      · exact fun l hf hi => ⟨fun hn => absurd hn (h.loads.unloaded hp hl hf hi), fun _ => h.loads.loading l hf hi⟩
    split
    case h_1 hs => exact hqueued (by simp [hs]) (by simp [hs])
    case h_2 hs => exact hqueued (by simp [hs]) (by simp [hs])
    case h_3 => exact h
    case h_4 hs =>
      refine setFilter_bounded (x := u.filt) h hp h.loads.once ?_ (fun m _ => Iff.rfl) fun l hf hi => ?_
      · exact iff_of_false (h.loads.absent hp (by simp [hs])) (by simp [hs])
      · exact ⟨fun _ => hs, fun _ => h.loads.loading l hf hi⟩

theorem sweepPorts_bounded (h : Bounded u) : Bounded (sweepPorts u) := by
  refine Bounded.foldl (fun v n hv => ?_) _ h
  dsimp only
  split
  · exact hv
  · exact Bounded.ite (oweLoad_bounded hv) hv

/-- A load that ends with a fault: the port, out of the queue with no load of its own, is FAULT (R166). -/
theorem loadFault_bounded {n r k g : Nat} {m : Mode} {p : Port} {x : Filters} (h : Bounded u)
    (hp : portAt u n = some p) (honce : x.queue.Nodup) (hn : n ∉ x.queue)
    (hother : ∀ m, n ≠ m → (m ∈ x.queue ↔ m ∈ u.filt.queue)) (hload : x.flight = none) :
    Bounded (loadFault n r m k g { u with filt := x }) :=
  raise_bounded (dimPort_bounded (setFilter_bounded h hp honce (iff_of_false hn (by simp)) hother
    fun l hl => by simp [hload] at hl))

/-- With no load in flight the head's load starts, or faults and the next head follows (R164). -/
theorem startLoads_bounded (fuel : Nat) (h : Bounded u) : Bounded (startLoads fuel u) := by
  induction fuel generalizing u with
  | zero => exact h
  | succ fuel ih =>
    unfold startLoads
    dsimp only
    split
    case h_1 n rest hf hq =>
      have honce := h.loads.once
      rw [hq, List.nodup_cons] at honce
      obtain ⟨p, hp, -⟩ := Option.map_eq_some_iff.mp ((h.loads.queued n).mp (by simp [hq]))
      have hp' : portAt { u with filt.queue := rest } n = some p := hp
      have hother (m : Nat) (hm : n ≠ m) : m ∈ rest ↔ m ∈ u.filt.queue := by simp [hq, Ne.symm hm]
      rw [hp']
      dsimp only
      split
      · exact ih (loadFault_bounded (x := { u.filt with queue := rest }) h hp honce.2 honce.1 hother hf)
      · refine setFilter_bounded (x := { u.filt with queue := rest, flight := _ }) h hp honce.2
          (iff_of_false honce.1 (by simp)) hother fun l hl _ => ?_
        obtain rfl := Option.some.inj hl
        exact ⟨fun _ => rfl, fun hne => absurd rfl hne⟩
    case h_2 => exact h

theorem reportSweep_bounded (h : Bounded u) : Bounded (reportSweep u) := by
  unfold reportSweep
  dsimp only
  split
  · split
    · exact raise_bounded (h.same (by simp))
    · exact h.same (by simp)
  · exact h

theorem serveFilters_bounded (h : Bounded u) : Bounded (serveFilters u) :=
  reportSweep_bounded (startLoads_bounded _ h)

theorem endIgnored_bounded (h : Bounded u) : Bounded (endIgnored u) :=
  h.ports rfl rfl rfl rfl rfl ⟨h.entries.fitted, h.entries.once, h.entries.entry⟩
    ⟨h.loads.once, h.loads.queued, fun _ hl => nomatch hl⟩

/-- A load acknowledged: the record is CURRENT, and a dirty port joins the queue's tail (R165). -/
theorem endTaken_bounded {l : Flight} (h : Bounded u) (hf : u.filt.flight = some l) (hi : l.ignored = false) :
    Bounded (endTaken l u) := by
  obtain ⟨p, hp, hs⟩ := Option.map_eq_some_iff.mp (h.loads.loading l hf hi)
  have hp' : portAt { u with filt.flight := none } l.port = some p := hp
  unfold endTaken
  dsimp only
  rw [hp']
  have hloaded : Bounded (setFilter l.port (fun f => { f with
      mode := some l.mode, entries := l.list.length, gen := l.gen, state := .current, dirty := false })
      { u with filt.flight := none }) :=
    setFilter_bounded (x := { u.filt with flight := none }) h hp h.loads.once
      (iff_of_false (h.loads.absent hp (by simp [hs])) (by simp)) (fun m _ => Iff.rfl) fun _ hl => nomatch hl
  exact Bounded.ite (oweLoad_bounded hloaded) hloaded

theorem endTimedOut_bounded {l : Flight} (h : Bounded u) (hf : u.filt.flight = some l) (hi : l.ignored = false) :
    Bounded (endTimedOut l u) := by
  obtain ⟨p, hp, hs⟩ := Option.map_eq_some_iff.mp (h.loads.loading l hf hi)
  exact loadFault_bounded (x := { u.filt with flight := none }) h hp h.loads.once
    (h.loads.absent hp (by simp [hs])) (fun m _ => Iff.rfl) rfl

/-- A try's end: an ignored load is over, a second try is a TIMEOUT, a first one is tried again (R165, R166). -/
theorem tryOver_bounded {l : Flight} (h : Bounded u) (hf : u.filt.flight = some l) : Bounded (tryOver l u) := by
  unfold tryOver
  split
  case isTrue => exact serveFilters_bounded (endIgnored_bounded h)
  case isFalse hi =>
    have hi : l.ignored = false := by simpa using hi
    refine Bounded.ite (serveFilters_bounded (endTimedOut_bounded h hf hi)) ?_
    refine h.ports rfl rfl rfl rfl rfl ⟨h.entries.fitted, h.entries.once, h.entries.entry⟩
      ⟨h.loads.once, h.loads.queued, fun k hk _ => ?_⟩
    obtain rfl := Option.some.inj hk
    exact h.loads.loading l hf hi

end Sys2Proof.Machine
end

section
/-! PROOF. `Bounded` through the operations of the blocks: power budget, cooling, the supply monitor, seats, zoning. -/

namespace Sys2Proof.Machine

open Sys2Proof.Config

variable {s t u : State}

/-! ## Power budget and cooling -/

theorem reportRedundancy_bounded (h : Bounded u) : Bounded (reportRedundancy u) :=
  Bounded.ite h (raiseOwn_bounded (h.same (by simp)))

theorem reportCoverage_bounded (h : Bounded u) : Bounded (reportCoverage u) := by
  refine Bounded.ite h ?_
  split
  · exact h
  · exact raiseOwn_bounded (h.same (by simp))
  · exact raiseOwn_bounded (h.same (by simp))

theorem raiseExhausted_bounded (h : Bounded u) : Bounded (raiseExhausted u) :=
  Bounded.ite h (raiseOwn_bounded (h.same (by simp)))

theorem judgeThermal_bounded (h : Bounded u) : Bounded (judgeThermal u) := by
  have hmoved {v : State} {k : NoticeKind} {d : List Byte} {x : Thermal} (hv : Bounded v) :
      Bounded (raiseOwn k d { v with cool.thermal := x }) := raiseOwn_bounded (hv.same (by simp))
  unfold judgeThermal
  dsimp only
  split
  · exact h
  · exact Bounded.ite (Bounded.ite (hmoved (hmoved h)) (hmoved h)) h
  · exact Bounded.ite (hmoved h) (Bounded.ite (hmoved h) h)

theorem takeReadings_bounded {r : Sensors} (h : Bounded u) : Bounded (takeReadings r u) := by
  have hread : Bounded (updateDemand { u with
      cool.readings := readSensors r, cool.hottest := hottestReading (readSensors r), cool.sampled := true }) :=
    h.same (by simp [updateDemand])
  unfold takeReadings
  dsimp only
  split
  · exact Bounded.ite (raiseOwn_bounded hread) hread
  · exact Bounded.ite (raiseOwn_bounded hread) hread

theorem judgePresence_bounded {i x : Nat} {b : Bool} (h : Bounded u) : Bounded (judgePresence i b x u) := by
  have hset (r : Rotor) : Bounded (setRotor i r u) := h.same (by simp)
  unfold judgePresence
  split
  · exact h
  · split
    · exact raiseOwn_bounded (hset _)
    · exact h
    · exact raiseOwn_bounded (hset _)
    · exact raiseOwn_bounded (hset _)
    · exact h
    · exact h

theorem measureRotor_bounded {i p x : Nat} (h : Bounded u) : Bounded (measureRotor i p x u) := by
  have hset (r : Rotor) : Bounded (setRotor i r u) := h.same (by simp)
  unfold measureRotor
  split
  · exact h
  · dsimp only
    split
    · exact h
    · exact Bounded.ite (Bounded.ite (raiseOwn_bounded (hset _)) (hset _)) (hset _)
    · exact Bounded.ite (hset _) (Bounded.ite (raiseOwn_bounded (hset _)) (hset _))

/-! ## The supply monitor -/

theorem setSupply_bounded {x : SupplyState} {c : SupplyCause} (h : Bounded u) : Bounded (setSupply x c u) := by
  have hoffer : Bounded (updateOffer { u with sup.state := x }) := h.same (by simp)
  exact Bounded.ite h (raiseOwn_bounded (Bounded.ite hoffer (hoffer.same (by simp))))

theorem inputRose_bounded (h : Bounded u) : Bounded (inputRose u) := by
  refine Bounded.ite (setSupply_bounded h) (Bounded.ite ?_ h)
  split
  · exact setSupply_bounded h
  all_goals exact h

theorem inputFell_bounded (h : Bounded u) : Bounded (inputFell u) := by
  refine Bounded.ite (setSupply_bounded h) (Bounded.ite ?_ h)
  split
  · exact sendDrop_bounded (setSupply_bounded h)
  · exact Bounded.ite (setSupply_bounded h) h
  · exact Bounded.ite (setSupply_bounded h) h
  · exact Bounded.ite (setSupply_bounded h) h
  · exact h

theorem warned_bounded (h : Bounded u) : Bounded (warned u) := by
  refine Bounded.ite ?_ h
  split
  · exact sendDrop_bounded (setSupply_bounded h)
  · exact sendDrop_bounded (setSupply_bounded h)
  all_goals exact h

theorem outputWentLost_bounded (h : Bounded u) : Bounded (outputWentLost u) := by
  refine Bounded.ite ?_ h
  split
  · exact sendDrop_bounded (setSupply_bounded h)
  · exact Bounded.ite h (setSupply_bounded h)
  · exact Bounded.ite (setSupply_bounded h) (setSupply_bounded h)
  · exact Bounded.ite h (setSupply_bounded h)
  · exact h

theorem goodRunDone_bounded (h : Bounded u) : Bounded (goodRunDone u) := by
  refine Bounded.ite ?_ h
  split
  · exact setSupply_bounded h
  · exact setSupply_bounded h
  · exact setSupply_bounded h
  all_goals exact h

theorem disableOutput_bounded (h : Bounded u) : Bounded (disableOutput u) := by
  have hlow : Bounded { u with sup.enable := false } := h.same (by simp)
  exact Bounded.ite (Bounded.ite hlow (setSupply_bounded hlow)) h

theorem supplyShutdown_bounded (h : Bounded u) : Bounded (supplyShutdown u) :=
  sendDrop_bounded (setSupply_bounded (h.same (by simp)))

theorem supplyDeparting_bounded (h : Bounded u) : Bounded (supplyDeparting u) := by
  refine Bounded.ite (sendDrop_bounded ?_) h
  split
  · exact setSupply_bounded h
  all_goals exact h

theorem judgeOverload_bounded (h : Bounded u) : Bounded (judgeOverload u) := by
  refine Bounded.ite h (Bounded.ite ?_ (h.same (by simp)))
  split
  · exact h.same (by simp)
  · exact Bounded.ite (raiseOwn_bounded (h.same (by simp))) h

theorem supplySample_bounded {c : Nat} (h : Bounded u) : Bounded (supplySample c u) :=
  Bounded.ite (judgeOverload_bounded (h.same (by simp))) h

/-! ## Seats -/

/-- A change of escrow entries that leaves every recipient. -/
theorem mapEscrow_bounded {x : Nat} {f : Escrow → Escrow} (hf : ∀ e, (f e).rcpt = e.rcpt) (h : Bounded u) :
    Bounded (mapEscrow x f u) := by
  have hrcpt : (mapEscrow x f u).seat.escrow.map (·.rcpt) = u.seat.escrow.map (·.rcpt) := by
    simp only [mapEscrow, List.map_map]
    refine List.map_congr_left fun e _ => ?_
    simp only [Function.comp_apply]
    split
    · exact hf e
    · rfl
  exact h.same (by simp [hrcpt])

theorem stopEscrow_bounded (h : Bounded u) : Bounded (stopEscrow u) :=
  h.same (by simp; simp [stopEscrow])

theorem touchSeat_bounded {w : List Wait} (h : Bounded u) : Bounded (touchSeat w u) :=
  h.same (by simp; simp [touchSeat])

theorem touchZone_bounded {w : List Wait} (h : Bounded u) : Bounded (touchZone w u) :=
  h.same (by simp; simp [touchZone])

/-- Entries that leave the escrow list leave the others' recipients as they were. -/
theorem slotsFit.sublist {l k : List Addr} (h : slotsFit l) (hk : k.Sublist l) : slotsFit k :=
  ⟨hk.length_le.trans h.1, h.2.sublist hk⟩

theorem dropEscrow_bounded {x : Nat} (h : Bounded u) : Bounded (dropEscrow x u) :=
  h.escrowed rfl rfl rfl rfl rfl rfl ⟨h.escrow.slots.sublist (List.filter_sublist.map _), h.escrow.copyA,
    h.escrow.copyB, h.escrow.writing⟩

theorem giveReported_bounded {x : Nat} (h : Bounded u) : Bounded (giveReported x u) :=
  Bounded.ite (mapEscrow_bounded (fun e => by split <;> rfl) h) h

theorem offerGive_bounded {x : Nat} (h : Bounded u) : Bounded (offerGive x u) := by
  unfold offerGive
  split
  · exact h
  · refine Bounded.ite h ?_
    have hm := mapEscrow_bounded (x := x) (f := fun e => { e with tries := count8 e.tries, timer := none })
      (fun _ => rfl) h
    refine Bounded.ite hm ?_
    split <;> (rename_i heq; obtain rfl := offerNormal_of heq)
    · exact offerNormal_bounded rfl hm
    · exact giveReported_bounded (offerNormal_bounded rfl hm)
    · exact offerNormal_bounded rfl hm

theorem offerStored_bounded {x : Nat} (h : Bounded u) : Bounded (offerStored x u) := Bounded.ite h (offerGive_bounded h)

theorem resend_bounded {e : Escrow} (h : Bounded u) : Bounded (resend u e) :=
  Bounded.ite h (offerStored_bounded (mapEscrow_bounded (fun _ => rfl) h))

theorem resendAll_bounded (h : Bounded u) : Bounded (resendAll u) :=
  Bounded.foldl (fun _ _ hv => resend_bounded hv) _ h

theorem judgeEscrow_bounded {e : Escrow} (h : Bounded u) : Bounded (judgeEscrow u e) :=
  Bounded.ite (Bounded.ite (offerStored_bounded (raise_bounded (mapEscrow_bounded (fun _ => rfl) h))) h)
    (Bounded.ite (raise_bounded (mapEscrow_bounded (fun _ => rfl) h)) h)

theorem judgeRecipient_bounded {p : Addr} (h : Bounded u) : Bounded (judgeRecipient p u) :=
  Bounded.foldl (fun _ _ hv => judgeEscrow_bounded hv) _ h

theorem judgeAllEscrow_bounded (h : Bounded u) : Bounded (judgeAllEscrow u) :=
  Bounded.foldl (fun _ _ hv => judgeEscrow_bounded hv) _ h

/-- A give is made where a slot is free and no entry is held for its recipient (R119). -/
theorem makeGive_bounded {r : Addr} {n : Nat} {a : Option Nat} (h : Bounded u) (hg : canGive u r = true) :
    Bounded (makeGive r n a u) := by
  simp only [canGive, Bool.and_eq_true, decide_eq_true_eq, Bool.not_eq_true', List.any_eq_false] at hg
  obtain ⟨⟨hfour, hnone⟩, -⟩ := hg
  have hslots : slotsFit ((u.seat.escrow.map (·.rcpt)) ++ [r]) := by
    refine ⟨by simpa using hfour, List.nodup_append.mpr ⟨h.escrow.slots.2, List.nodup_singleton r, ?_⟩⟩
    rintro x hx y hy rfl
    obtain rfl := List.mem_singleton.mp hy
    obtain ⟨e, he, hex⟩ := List.mem_map.mp hx
    exact absurd hex (hnone e he)
  have hgive : Bounded (touchSeat [.give u.seat.next] { u with
      seat.escrow := u.seat.escrow ++ [{ xfer := u.seat.next, rcpt := r, count := n, ask := a, tries := 0,
                                         timer := none, unanswered := false, stranded := false }]
      seat.free := u.seat.free - n
      seat.next := u.seat.next + 1 }) :=
    touchSeat_bounded (h.escrowed rfl rfl rfl rfl rfl rfl
      ⟨by simpa using hslots, h.escrow.copyA, h.escrow.copyB, h.escrow.writing⟩)
  exact Bounded.ite (raiseOwn_bounded hgive) hgive

theorem offerAsk_bounded (h : Bounded u) : Bounded (offerAsk u) :=
  sendNormal_bounded rfl (Bounded.ite (raiseOwn_bounded (h.same (by simp))) (h.same (by simp)))

theorem judgeAsk_bounded (h : Bounded u) : Bounded (judgeAsk u) :=
  Bounded.ite (Bounded.ite (offerAsk_bounded h) h) (h.same (by simp))

theorem giveAnswer_bounded {a : Answer} (h : Bounded u) : Bounded (giveAnswer a u) := by
  have hdone : Bounded { u with seat.answers := u.seat.answers.filter fun b => b.asker ≠ a.asker } := h.same (by simp)
  unfold giveAnswer
  dsimp only
  split
  case isTrue hc => exact makeGive_bounded hdone hc.2.2.2.2
  case isFalse => exact hdone

theorem repeatAck_bounded {a : Addr} {x n : Nat} (h : Bounded u) : Bounded (repeatAck a x n u) :=
  Bounded.ite (h.same (by simp)) (Bounded.ite (sendNormal_bounded rfl h) (h.same (by simp)))

theorem acceptGive_bounded {a : Addr} {x n : Nat} (h : Bounded u) : Bounded (acceptGive a x n u) :=
  Bounded.ite (Bounded.ite (touchSeat_bounded (h.same (by simp))) (raise_bounded h)) (repeatAck_bounded h)

theorem takeAck_bounded {a : Addr} {x : Nat} (h : Bounded u) : Bounded (takeAck a x u) := by
  unfold takeAck
  split
  · exact h
  · exact Bounded.ite (raise_bounded (touchSeat_bounded (dropEscrow_bounded h))) h

/-! ## The retained store -/

theorem begin_escrow (h : EscrowFit u) : EscrowFit { u with store.seat := u.store.seat.begin (seatRecord u) } where
  slots := h.slots
  copyA c hc := by
    simp only [Record.begin] at hc
    split at hc
    · simp at hc
    · exact h.copyA c hc
  copyB c hc := by
    simp only [Record.begin] at hc
    split at hc
    · exact h.copyB c hc
    · simp at hc
  writing r hr := by
    simp only [Record.begin, Option.some.injEq] at hr
    exact hr ▸ (seatRecord_slots u).mpr h.slots

theorem finish_escrow (h : EscrowFit u) : EscrowFit { u with store.seat := u.store.seat.finish } := by
  unfold Record.finish
  cases hw : u.store.seat.writing with
  | none => exact h
  | some r =>
    have hr := h.writing r hw
    refine ⟨h.slots, fun c hc => ?_, fun c hc => ?_, fun r hr => by simp at hr⟩
    · dsimp only at hc
      split at hc
      · exact Option.some.inj hc ▸ hr
      · exact h.copyA c hc
    · dsimp only at hc
      split at hc
      · exact h.copyB c hc
      · exact Option.some.inj hc ▸ hr

/-- A write of the seat record begins with the entries as they stand (R15). -/
theorem beginWrites_bounded (h : Bounded u) : Bounded (beginWrites u) := by
  have hseat : Bounded (if u.store.seat.changed ∧ u.store.seat.writing.isNone then
      { u with store.seat := u.store.seat.begin (seatRecord u) } else u) :=
    Bounded.ite (h.escrowed rfl rfl rfl rfl rfl rfl (begin_escrow h.escrow)) h
  exact Bounded.ite (hseat.same (by simp)) hseat

/-! ## Zoning -/

theorem segments_plain (g fuel k : Nat) (z : ZoneSet) : ∀ m ∈ segments g fuel k z, isRollcall m = false := by
  induction fuel generalizing k z with
  | zero => simp [segments]
  | succ fuel ih =>
    unfold segments
    split
    · simp
    · exact List.forall_mem_cons.mpr ⟨rfl, ih _ _⟩

/-- No frame of a publish is a ROLLCALL. -/
theorem publishFrames_plain (g : Nat) (z : ZoneSet) : ∀ m ∈ publishFrames g z, isRollcall m = false :=
  List.forall_mem_cons.mpr ⟨rfl, segments_plain g _ _ z⟩

theorem send_bounded {m : Msg} (hm : isRollcall m = false) (h : Bounded u) : Bounded (sendZone [m] u) :=
  sendZone_bounded (by simpa using hm) h

theorem startCommit_bounded (h : Bounded u) : Bounded (startCommit u) := touchZone_bounded (h.same (by simp))

theorem commitEffect_bounded (h : Bounded u) : Bounded (commitEffect u) := by
  have hswept {v : State} (hv : Bounded v) : Bounded (serveFilters (sweepPorts { v with filt.sweep := true })) :=
    serveFilters_bounded (sweepPorts_bounded (hv.same (by simp)))
  unfold commitEffect
  dsimp only
  refine Bounded.ite (Bounded.ite (send_bounded rfl ?_) ?_) h
  all_goals exact hswept (zoneResult_bounded (h.same (by simp)))

theorem freeLock_bounded (h : Bounded u) : Bounded (freeLock u) := h.same (by simp [freeLock])

theorem dropUnoffered_bounded (h : Bounded u) : Bounded (dropUnoffered u) :=
  h.waiting fun m hm => h.outbox m (List.mem_filter.mp hm).1

theorem abandon_bounded {r : Reason} {l : List Byte} (h : Bounded u) : Bounded (abandon r l u) :=
  zoneResult_bounded (freeLock_bounded (send_bounded rfl (dropUnoffered_bounded h)))

theorem abandonOn_bounded {v : Vote} (h : Bounded u) : Bounded (abandonOn v u) := by
  unfold abandonOn
  split
  · exact abandon_bounded h
  · exact abandon_bounded h
  · exact h
  · exact h

theorem decideSet_bounded (h : Bounded u) : Bounded (decideSet u) := by
  refine Bounded.ite h ?_
  split
  · split
    · exact abandonOn_bounded h
    · exact h
  · split
    · exact abandonOn_bounded h
    · exact Bounded.ite (startCommit_bounded h) h
  all_goals exact h

theorem segReported_bounded {g k : Nat} (h : Bounded u) : Bounded (segReported g k u) :=
  Bounded.ite (decideSet_bounded (h.same (by simp))) h

theorem takeVote_bounded {a : Addr} {g : Nat} {v : Verdict} {r : Reason} {p : Option Nat} (h : Bounded u) :
    Bounded (takeVote a g v r p u) :=
  Bounded.ite (decideSet_bounded (h.same (by simp))) h

theorem vote_bounded {a : Addr} {g : Nat} {v : Verdict} {r : Reason} {p : Option Nat} (h : Bounded u) :
    Bounded (vote a g v r p u) := send_bounded rfl h

theorem refuseSet_bounded {r : Reason} {p : Option Nat} (h : Bounded u) : Bounded (refuseSet r p u) := by
  unfold refuseSet
  split
  · exact vote_bounded (freeLock_bounded h)
  · exact freeLock_bounded h

theorem completeSet_bounded (h : Bounded u) : Bounded (completeSet u) := by
  have hready : Bounded { u with
      zone.lock := .ready, zone.segTimer := none, zone.orphanTimer := some (u.now + ms 5000) } := h.same (by simp)
  refine Bounded.ite (refuseSet_bounded h) (Bounded.ite (refuseSet_bounded h) (Bounded.ite (refuseSet_bounded h) ?_))
  split
  · exact refuseSet_bounded h
  · dsimp only
    split
    · exact vote_bounded hready
    · exact hready

theorem takeOpen_bounded {a : Addr} {g n c : Nat} (h : Bounded u) : Bounded (takeOpen a g n c u) :=
  Bounded.ite (vote_bounded h) (Bounded.ite (vote_bounded h) (h.same (by simp)))

theorem supersede_bounded (h : Bounded u) : Bounded (supersede u) := by
  have ht : Bounded (noteChange (freeLock u)) := (freeLock_bounded h).same (by simp)
  exact Bounded.ite (zoneResult_bounded ht) ht

theorem receiveOpen_bounded {a : Addr} {g n c : Nat} (h : Bounded u) : Bounded (receiveOpen a g n c u) :=
  Bounded.ite (vote_bounded h) (Bounded.ite (takeOpen_bounded h)
    (Bounded.ite (Bounded.ite (vote_bounded h) (takeOpen_bounded (supersede_bounded h))) (vote_bounded h)))

theorem receiveSeg_bounded {a : Addr} {g k : Nat} {l : List ZEntry} (h : Bounded u) :
    Bounded (receiveSeg a g k l u) := by
  unfold receiveSeg
  dsimp only
  refine Bounded.ite (Bounded.ite (Bounded.ite (completeSet_bounded ?_) ?_) (refuseSet_bounded h)) h
  all_goals exact h.same (by simp)

theorem receiveCommit_bounded {a : Addr} {g : Nat} (h : Bounded u) : Bounded (receiveCommit a g u) := by
  refine Bounded.ite ?_ h
  split
  · exact Bounded.ite h (startCommit_bounded h)
  · exact freeLock_bounded h
  all_goals exact h

theorem abandonReady_bounded {r : Nat} (h : Bounded u) : Bounded (abandonReady r u) :=
  zoneResult_bounded (freeLock_bounded h)

theorem receiveAbandon_bounded {a : Addr} {g r : Nat} (h : Bounded u) : Bounded (receiveAbandon a g r u) := by
  refine Bounded.ite ?_ h
  split
  · exact Bounded.ite h (abandonReady_bounded h)
  · exact freeLock_bounded h
  all_goals exact h

theorem implicitDecision_bounded {p : Addr} (h : Bounded u) : Bounded (implicitDecision p u) := by
  refine Bounded.ite ?_ h
  split
  · exact Bounded.ite (startCommit_bounded h) (Bounded.ite (abandonReady_bounded h) h)
  · exact h

theorem judgeBehind_bounded {p : Addr} (h : Bounded u) : Bounded (judgeBehind p u) := by
  unfold judgeBehind
  split
  · exact Bounded.ite (raise_bounded (h.same (by simp))) h
  · exact h

theorem leaveZoning_bounded (h : Bounded u) : Bounded (leaveZoning u) := by
  unfold leaveZoning
  split
  · exact refuseSet_bounded h
  · exact Bounded.ite h (abandon_bounded h)
  · exact Bounded.ite h (abandon_bounded h)
  all_goals exact h

theorem restartZoning_bounded (h : Bounded u) : Bounded (restartZoning u) := by
  have horigin : Bounded (restartOrigin u) := zoneResult_bounded (freeLock_bounded (dropUnoffered_bounded h))
  have hreceiver : Bounded (restartReceiver u) := freeLock_bounded (h.waiting (by simp))
  refine Bounded.ite h ?_
  split
  · exact horigin
  · exact horigin
  · exact hreceiver
  · exact hreceiver
  all_goals exact h

end Sys2Proof.Machine
end

section
/-! PROOF. `Bounded` through the reactions to a change, the transitions of the station state, departure and the end of
a step. -/

namespace Sys2Proof.Machine

open Sys2Proof.Config

variable {s t u : State}

/-! ## Re-evaluation and view changes -/

theorem refresh_bounded (h : Bounded u) : Bounded (refresh u) := h.same (by simp)

theorem retarget_bounded (h : Bounded u) : Bounded (retarget u) := h.same (by simp)

theorem noteChange_bounded (h : Bounded u) : Bounded (noteChange u) := h.same (by simp)

theorem compute_bounded (h : Bounded u) : Bounded (compute u) := h.same (by simp)

theorem examineGates_bounded (h : Bounded u) : Bounded (examineGates u) := h.same (by simp)

theorem closeWindow_bounded (h : Bounded u) : Bounded (closeWindow u) := h.same (by simp)

theorem updateGoodRun_bounded (h : Bounded u) : Bounded (updateGoodRun u) := h.same (by simp)

theorem updateForcing_bounded (h : Bounded u) : Bounded (updateForcing u) := h.same (by simp)

theorem shedAll_bounded (fuel : Nat) (h : Bounded u) : Bounded (shedAll fuel u) := by
  induction fuel generalizing u with
  | zero => exact h
  | succ fuel ih =>
    refine Bounded.ite ?_ h
    split
    · exact h
    · exact ih (compute_bounded (refresh_bounded (shedPort_bounded h)))

theorem actUncovered_bounded (h : Bounded u) : Bounded (actUncovered u) := by
  have hshed : Bounded (shedAll u.port.recs.length (refresh (closeWindow u))) :=
    shedAll_bounded _ (refresh_bounded (closeWindow_bounded h))
  unfold actUncovered
  split
  · exact Bounded.ite (Bounded.ite (raiseExhausted_bounded hshed) (reportCoverage_bounded hshed)) h
  · exact raiseExhausted_bounded h
  · exact raiseExhausted_bounded h
  · exact h

theorem reevaluate_bounded (h : Bounded u) : Bounded (reevaluate u) := by
  have hcomputed := compute_bounded (refresh_bounded h)
  have hreported := Bounded.ite (c := comparing (compute (refresh u)))
    (reportCoverage_bounded (reportRedundancy_bounded hcomputed)) hcomputed
  exact Bounded.ite (examineGates_bounded (Bounded.ite (actUncovered_bounded hreported) hreported)) h

theorem propagate_bounded (fuel : Nat) (h : Bounded u) : Bounded (propagate fuel u) := by
  induction fuel generalizing u with
  | zero => exact refresh_bounded h
  | succ fuel ih =>
    exact Bounded.ite (refresh_bounded h) (ih (reevaluate_bounded (retarget_bounded (refresh_bounded h))))

theorem handOn_bounded (h : Bounded u) : Bounded (handOn u) :=
  propagate_bounded _ (Bounded.ite (retarget_bounded h) h)

theorem viewChanged_bounded {p : Addr} (h : Bounded u) : Bounded (viewChanged p u) :=
  Bounded.ite (judgeBehind_bounded (implicitDecision_bounded (judgeRecipient_bounded (retarget_bounded
    (reevaluate_bounded h))))) h

theorem changeEntry_bounded {p : Addr} {e : Entry} {f : State → State} (hf : ∀ v, Bounded v → Bounded (f v))
    (h : Bounded u) : Bounded (changeEntry p e f u) := by
  have hset : Bounded (f (setEntry p e u)) := hf _ (h.same (by simp))
  exact Bounded.ite hset (viewChanged_bounded hset)

/-! ## Transitions -/

theorem changeState_bounded {x : StationState} {c : Cause} (h : Bounded u) : Bounded (changeState x c u) := by
  have hraised : Bounded (raiseOwn .stateChanged (b1 u.st.state.code ++ b1 x.code ++ b1 c.code) { u with
      st.state := x
      st.joinTimer := if x = .joining then some (u.now + ms 1000) else none
      st.pend := if x = .joining then u.st.pend else .none
      st.ready := decide (x = .departed)
      view.period := if x = .departed then none else u.view.period
      budget.heldView := if x = .isolated then some (liveView u) else none }) :=
    raiseOwn_bounded (h.same (by simp))
  exact updateGoodRun_bounded (updateForcing_bounded (Bounded.ite hraised (hraised.same (by simp [stopAsking]))))

theorem isolate_bounded {c : Cause} (h : Bounded u) : Bounded (isolate c u) := by
  unfold isolate
  split
  · exact changeState_bounded (h.same (by simp))
  · exact changeState_bounded (h.same (by simp))
  all_goals exact h

theorem enterActive_bounded (h : Bounded u) : Bounded (enterActive u) := judgeAllEscrow_bounded (changeState_bounded h)

theorem enterJoining_bounded {c : Cause} (h : Bounded u) : Bounded (enterJoining c u) := by
  have hjoining : Bounded (changeState .joining c { u with st.drops := 0 }) :=
    changeState_bounded (h.same (by simp))
  exact reevaluate_bounded (updateGoodRun_bounded (hjoining.same (by simp)))

theorem silenceUnarmed_bounded (h : Bounded u) : Bounded (silenceUnarmed u) :=
  h.same (by simp; simp [silenceUnarmed])

/-! ## Departure -/

/-- The departure record is none of what `Bounded` reads. -/
theorem departure_bounded {d : Departure} (h : Bounded u) : Bounded { u with dep := d } := h.same (by simp)

theorem enterLeaving_bounded (h : Bounded u) : Bounded (enterLeaving u) :=
  Bounded.ite (departure_bounded (leaveZoning_bounded h)) (departure_bounded h)

theorem forceDeparture_bounded (h : Bounded u) : Bounded (forceDeparture u) := by
  have hforced : Bounded { u with dep.kind := .forced, dep.timer := none, dep.retry := none } := departure_bounded h
  have hdark := Bounded.ite (c := role u = .line) (darkenAll_bounded hforced) hforced
  exact Bounded.ite (departure_bounded hdark) (enterLeaving_bounded hdark)

theorem enterDeparting_bounded {c : Cause} {b : Bool} (h : Bounded u) : Bounded (enterDeparting c b u) := by
  have hdep (d : Departure) : Bounded (supplyDeparting { changeState .departing c u with dep := d }) :=
    supplyDeparting_bounded (departure_bounded (changeState_bounded h))
  exact Bounded.ite (forceDeparture_bounded (hdep _))
    (Bounded.ite (departure_bounded (dimAll_bounded (emptyQueue_bounded (hdep _)))) (enterLeaving_bounded (hdep _)))

theorem giveChunk_bounded (h : Bounded u) : Bounded (giveChunk u) := by
  unfold giveChunk
  split
  · exact h
  · split
    case isTrue hc => exact makeGive_bounded h hc.2
    case isFalse => exact h

theorem endGift_bounded (h : Bounded u) : Bounded (endGift u) := Bounded.ite (enterLeaving_bounded h) h

theorem enterGift_bounded (h : Bounded u) : Bounded (enterGift u) := by
  have hg : Bounded { u with dep.step := some .gift } := departure_bounded h
  exact Bounded.ite (enterLeaving_bounded hg) (endGift_bounded (Bounded.ite hg (giveChunk_bounded hg)))

theorem enterDeparted_bounded (h : Bounded u) : Bounded (enterDeparted u) :=
  disableOutput_bounded (stopEscrow_bounded (departure_bounded (changeState_bounded h)))

theorem offerDepart_bounded (h : Bounded u) : Bounded (offerDepart u) := by
  have hoffer : Bounded (offerNormal .depart (offerChanged (handOn u))).1 :=
    offerNormal_bounded rfl (offerChanged_bounded (handOn_bounded h))
  refine Bounded.ite ?_ h
  split <;> (rename_i heq; obtain rfl := offerNormal_of heq)
  · exact enterDeparted_bounded hoffer
  · exact departure_bounded hoffer
  · exact hoffer

theorem departProgress_bounded {s0 : State} (h : Bounded u) : Bounded (departProgress s0 u) := by
  refine Bounded.ite ?_ h
  split
  · exact h
  · exact Bounded.ite h (offerDepart_bounded (enterGift_bounded h))
  · exact offerDepart_bounded (endGift_bounded (Bounded.ite (giveChunk_bounded h) h))
  · exact offerDepart_bounded (enterLeaving_bounded h)
  · exact offerDepart_bounded h

/-! ## SHUTDOWN, the return from DEPARTED, and reports -/

theorem shutdownRole_bounded (h : Bounded u) : Bounded (shutdownRole u) := by
  have hpwr : Bounded { u with st.pwroff := true } := h.same (by simp)
  unfold shutdownRole
  split
  · exact darkenAll_bounded hpwr
  · exact hpwr
  · exact updateForcing_bounded h
  · exact supplyShutdown_bounded hpwr

theorem enterShutdown_bounded (h : Bounded u) : Bounded (enterShutdown u) := by
  have hrole := shutdownRole_bounded h
  unfold enterShutdown
  dsimp only
  split
  · exact enterDeparting_bounded hrole
  · exact enterDeparting_bounded hrole
  · exact enterDeparting_bounded hrole
  · exact Bounded.ite (forceDeparture_bounded hrole) hrole
  · exact changeState_bounded (hrole.same (by simp [startLink]))
  · exact hrole
  · exact hrole

theorem rejoin_bounded {c : Cause} (h : Bounded u) : Bounded (rejoin c u) := by
  have hdep : Bounded { u with dep.kind := .none, dep.zoningAsked := false, dep.step := none, dep.timer := none } :=
    departure_bounded h
  exact resendAll_bounded (Bounded.ite (changeState_bounded (hdep.same (by simp)))
    (enterJoining_bounded (silenceUnarmed_bounded hdep)))

/-- Empty queues hold nothing (R30, R31). -/
theorem emptyQueues_fit (l : Link) : QueuesFit (emptyQueues l) :=
  ⟨Nat.zero_le _, Nat.zero_le _, Nat.zero_le _, fun hne => absurd rfl hne⟩

theorem frameReported_bounded {m : Msg} (h : Bounded u) : Bounded (frameReported m u) := by
  unfold frameReported
  split
  · exact Bounded.ite (h.same (by simp)) h
  · exact giveReported_bounded h
  · exact segReported_bounded h
  · exact Bounded.ite (h.linkQueues (emptyQueues_fit _) rfl rfl) h
  all_goals exact h

/-! ## The end of a step -/

theorem finish_bounded {s0 : State} (h : Bounded u) : Bounded (finish s0 u) := by
  have hdep := handOn_bounded (departProgress_bounded (s0 := s0)
    (Bounded.ite (c := askEvent s0 u) (judgeAsk_bounded h) h))
  exact beginWrites_bounded (offerChanged_bounded (Bounded.ite (handOn_bounded (examineGates_bounded hdep)) hdep))

end Sys2Proof.Machine
end

section
/-! PROOF. Settles O3: `Bounded` through the meaning of each command, the resets among them. -/

namespace Sys2Proof.Machine

open Sys2Proof.Config

variable {s t u : State}

/-! ## The shapes of a meaning -/

/-- Every next state of an answer is within its sizes. -/
def OutBounded (o : Out) : Prop := ∀ t, o = .next t → Bounded t

theorem next_bounded (h : Bounded u) : OutBounded (.next u) := by
  rintro t ⟨⟩
  exact h

theorem reach_bounded {d : Nat} (h : Bounded u) : Bounded (reach d u) := h.same (by simp)

theorem stepOf_bounded {act : State → State} (h : Bounded (act u)) : OutBounded (stepOf act u) :=
  next_bounded (finish_bounded h)

theorem expiryStep_bounded {timer : Option Nat} {act : State → State} (h : Bounded s)
    (hact : ∀ d, timer = some d → Bounded (act (reach d s))) : OutBounded (expiryStep timer act s) := by
  unfold expiryStep
  split
  · exact next_bounded h
  · exact stepOf_bounded (hact _ rfl)

theorem outBounded_ite {c : Prop} [Decidable c] {o p : Out} (ho : OutBounded o) (hp : OutBounded p) :
    OutBounded (if c then o else p) := by
  split
  · exact ho
  · exact hp

theorem answer_bounded {st : Status} {d : List Byte} (h : Bounded u) : Bounded (answer st d u) := h.same (by simp)

theorem reply_bounded {st : Status} {d : List Byte} (h : Bounded u) : Bounded (reply st d u) := answer_bounded h

theorem refuse_bounded {st : Status} (h : Bounded u) : Bounded (refuse st u) := answer_bounded h

theorem shiftStatus_bounded (h : Bounded u) : Bounded (shiftStatus u) := h.same (by simp; simp [shiftStatus])

theorem transactWith_bounded {onBad : State → State} {len : Nat} {judge : List Byte → State → State}
    {rest : List Byte} (h : Bounded s) (hbad : ∀ v, Bounded v → Bounded (onBad v))
    (hjudge : ∀ p v, Bounded v → Bounded (judge p v)) : OutBounded (transactWith onBad len judge rest s) := by
  have hshift := shiftStatus_bounded h
  have hbusy (tag : Byte) : Bounded { shiftStatus s with host.slot := .busy tag } := hshift.same (by simp)
  refine outBounded_ite (next_bounded hshift) ?_
  split
  · exact next_bounded hshift
  · exact outBounded_ite (stepOf_bounded (hjudge _ _ (hbusy _))) (next_bounded (refuse_bounded (hbad _ (hbusy _))))
  · exact next_bounded hshift

theorem transact_bounded {len : Nat} {judge : List Byte → State → State} {rest : List Byte} (h : Bounded s)
    (hjudge : ∀ p v, Bounded v → Bounded (judge p v)) : OutBounded (transact len judge rest s) :=
  transactWith_bounded h (fun _ hv => hv) hjudge

theorem takeHead_bounded {k : Kind} {act : RxFrame → State → State} (h : Bounded s)
    (hact : ∀ f v, Bounded v → Bounded (act f v)) : OutBounded (takeHead k act s) := by
  unfold takeHead
  split
  · exact next_bounded h
  case h_2 f rest hrx =>
    have hroom := h.receive
    rw [hrx] at hroom
    have htaken : Bounded { s with link.rx := rest } :=
      h.link ⟨h.queues.urgent, h.queues.normal, h.queues.one, h.queues.held⟩ h.counters
        ((Nat.le_succ _).trans hroom)
    exact outBounded_ite (stepOf_bounded (hact _ _ htaken)) (next_bounded h)

/-! ## EJECT and FAULT -/

theorem judgedOpen_bounded (h : Bounded u) : Bounded (judgedOpen u) := by
  have hopen : Bounded { u with st.ejectMeasure := none, st.ejectOpen := true } := h.same (by simp)
  unfold judgedOpen
  dsimp only
  split
  · exact enterDeparting_bounded hopen
  · exact enterDeparting_bounded hopen
  · exact Bounded.ite (h.same (by simp)) hopen
  all_goals exact hopen

theorem judgedClosed_bounded (h : Bounded u) : Bounded (judgedClosed u) := by
  have hclosed : Bounded { u with st.ejectMeasure := none, st.ejectOpen := false } := h.same (by simp)
  unfold judgedClosed
  dsimp only
  split
  · exact Bounded.ite (h.same (by simp)) hclosed
  · exact Bounded.ite hclosed (rejoin_bounded hclosed)
  all_goals exact hclosed

theorem faultSet_bounded (h : Bounded u) : Bounded (faultSet u) :=
  updateForcing_bounded (raiseOwn_bounded (h.same (by simp)))

theorem faultClear_bounded (h : Bounded u) : Bounded (faultClear u) :=
  updateForcing_bounded (raiseOwn_bounded (h.same (by simp)))

/-! ## Samples, rotors and supply lines -/

theorem takeSample_bounded {r : Sensors} (h : Bounded u) : Bounded (takeSample r u) := by
  have hread : Bounded (takeReadings r { u with cool.sampleAt := some (u.now + ms 250) }) :=
    takeReadings_bounded (h.same (by simp))
  have hjudged : Bounded (sampleJudged r u) := judgeThermal_bounded (hread.same (by simp [updateCounts]))
  have hentered : Bounded (sampleEntered r u) := Bounded.ite (enterShutdown_bounded hjudged) hjudged
  rw [takeSample_eq]
  exact Bounded.ite (retarget_bounded (supplySample_bounded hentered)) (supplySample_bounded hentered)

theorem rotorEvent_bounded {i : Nat} {f : State → State} (hf : Bounded (f u)) : Bounded (rotorEvent i f u) :=
  Bounded.ite hf (propagate_bounded _ (reevaluate_bounded (retarget_bounded (noteChange_bounded hf))))

theorem checkRotors_bounded {r : RotorPins} (h : Bounded u) : Bounded (checkRotors r u) := by
  have hcheck : Bounded { u with cool.checkAt := some (u.now + ms 1000) } := h.same (by simp)
  unfold checkRotors measureAll judgeAllPresence
  dsimp only
  refine Bounded.foldl (fun v i hv => ?_) _
    (Bounded.foldl (fun v i hv => rotorEvent_bounded (judgePresence_bounded hv)) _ hcheck)
  split
  · exact hv
  · exact Bounded.ite hv (rotorEvent_bounded (measureRotor_bounded hv))

theorem stepDown_bounded (h : Bounded u) : Bounded (stepDown u) := h.same (by simp)

/-- A line that the supply monitor reads moves nothing else at first (R100). -/
theorem supplyLine_bounded {x : Supply} (h : Bounded u) : Bounded (updateGoodRun { u with sup := x }) :=
  updateGoodRun_bounded (h.same (by simp))

/-! ## The link -/

theorem bump_le (n : Nat) : bump n ≤ 65535 := min_le_left _ _

/-- A change of the counters alone. -/
theorem Bounded.count {c : Counters} (h : Bounded u) (hc : CountersFit c) : Bounded { u with link.counters := c } :=
  h.link ⟨h.queues.urgent, h.queues.normal, h.queues.one, h.queues.held⟩ hc h.receive

theorem addressClash_bounded (h : Bounded u) : Bounded (addressClash u) :=
  Bounded.ite h (raiseOwn_bounded (isolate_bounded (h.same (by simp))))

theorem peerHeard_bounded {a : Addr} (h : Bounded u) : Bounded (peerHeard a u) := by
  have hheard : Bounded { refreshAge a u with
      st.silence := some ((refreshAge a u).now + ms 2000), st.silenceArmed := anyPeerPresent (refreshAge a u) } :=
    h.same (by simp)
  exact Bounded.ite (enterJoining_bounded hheard) hheard

theorem callHold_bounded (h : Bounded u) : Bounded (callHold u) := by
  refine Bounded.ite ?_ h
  split <;> (rename_i heq; obtain rfl := offerUrgent_of _ _ _ _ heq)
  · exact (offerUrgent_bounded (m := .hold 5) h).same (by simp)
  · exact (offerUrgent_bounded (m := .hold 5) h).same (by simp)

theorem takeHold_bounded {n : Nat} (h : Bounded u) : Bounded (takeHold n u) :=
  preempt_bounded (h.link ⟨h.queues.urgent, h.queues.normal, h.queues.one, h.queues.held⟩
    { h.counters with received := bump_le _, holdsReceived := bump_le _ } h.receive)

/-- A frame joins the receive queue where it holds fewer than eight, and else is counted (R36). -/
theorem offerReceived_bounded {f : RxFrame} (h : Bounded u) : Bounded (offerReceived f u) := by
  unfold offerReceived
  split
  case isTrue hroom =>
    exact callHold_bounded (h.link ⟨h.queues.urgent, h.queues.normal, h.queues.one, h.queues.held⟩
      { h.counters with received := bump_le _ } (by simpa using hroom))
  case isFalse => exact h.count { h.counters with overrun := bump_le _ }

theorem deliver_bounded {d : Nat} {a : Addr} {c : Nat} {p : List Byte} (h : Bounded u) :
    Bounded (deliver d a c p u) := by
  have hunknown : Bounded { u with link.counters.unknownKind := bump u.link.counters.unknownKind } :=
    h.count { h.counters with unknownKind := bump_le _ }
  refine Bounded.ite h ?_
  split
  · exact hunknown
  · exact Bounded.ite (Bounded.ite (takeHold_bounded h) (offerReceived_bounded h)) hunknown

theorem receive_bounded {a : Activity} (h : Bounded u) : Bounded (receive a u) := by
  cases a with
  | runt => exact h.count { h.counters with runt := bump_le _ }
  | giant => exact h.count { h.counters with giant := bump_le _ }
  | badCheck => exact h.count { h.counters with badCheck := bump_le _ }
  | valid d a c p => exact Bounded.ite (addressClash_bounded h) (deliver_bounded (peerHeard_bounded h))

theorem execLineActivityEnd_bounded (bits : List Bool) (lead : Nat) (h : Bounded s) :
    OutBounded (execLineActivityEnd bits lead s) := by
  have hidle : Bounded (lineIdle (reach (activityEnd bits lead s) s)) := h.same (by simp [lineIdle])
  exact outBounded_ite (outBounded_ite (next_bounded hidle) (stepOf_bounded (receive_bounded hidle))) (next_bounded h)

theorem execTxGapComplete_bounded (h : Bounded s) : OutBounded (execTxGapComplete s) := by
  unfold execTxGapComplete
  split
  case h_1 q hd =>
    split
    · exact next_bounded h
    · exact next_bounded ((reach_bounded h).linkQueues (h.queues.engine (rollcallOnLine_defer hd) _) rfl rfl)
  all_goals exact next_bounded h

/-- A collision moves SEND to JAM on the same head (R24). -/
theorem startJam_bounded {q : TxQueue} {b : Nat} {l : List Bool} (h : Bounded u) (hs : u.link.engine = .send q b l) :
    Bounded (startJam q u) := by
  have hsame : (setAttempt q { attemptOf q u.link with collisions := (attemptOf q u.link).collisions + 1 }
      u.link).counters = u.link.counters := by cases q <;> rfl
  refine h.link ?_ ?_ ?_
  · have hline : rollcallOnLine u.link = true → q = .normal := by
      cases q <;> simp [rollcallOnLine, hs]
    cases q
    · exact ⟨h.queues.urgent, h.queues.normal, h.queues.one, fun hne => nomatch hline (h.queues.held hne)⟩
    · exact ⟨h.queues.urgent, h.queues.normal, h.queues.one, fun hne => by
        simpa [rollcallOnLine, setAttempt, hs] using h.queues.held hne⟩
  · rw [hsame]
    exact { h.counters with collisions := bump_le _ }
  · cases q <;> exact h.receive

theorem execTxCollision_bounded (h : Bounded s) : OutBounded (execTxCollision s) := by
  unfold execTxCollision
  split
  case h_1 q b l hs => exact outBounded_ite (next_bounded (startJam_bounded (reach_bounded h) hs)) (next_bounded h)
  all_goals exact next_bounded h

/-- The head's attempt ends with its frame gone, and one counter has risen (R24, R26). -/
theorem attemptEnded_bounded {l : Link} {q : TxQueue} {c : Counters} {a : Nat} {b : Option Nat} (h : Bounded u)
    (hl : l = endAttempt q u.link) (hq : rollcallOnLine u.link = true → q = .normal) (hc : CountersFit c) :
    Bounded { u with link := { l with counters := c, idleFrom := a, ownUntil := b } } := by
  have hfit := endAttempt_fit h.queues hq
  subst hl
  exact h.link ⟨hfit.urgent, hfit.normal, hfit.one, hfit.held⟩ hc (by simpa using h.receive)

theorem countDrop_bounded (h : Bounded u) : Bounded (countDrop u) :=
  Bounded.ite (isolate_bounded (h.same (by simp))) (h.same (by simp))

theorem dropFrame_bounded {q : TxQueue} (h : Bounded u) (hq : rollcallOnLine u.link = true → q = .normal) :
    Bounded (dropFrame q u) := by
  have hended : Bounded { u with link := { endAttempt q u.link with
      counters.drops := bump (endAttempt q u.link).counters.drops } } :=
    attemptEnded_bounded h rfl hq { (by simpa using h.counters : CountersFit (endAttempt q u.link).counters) with
      drops := bump_le _ }
  unfold dropFrame
  dsimp only
  split
  · exact kick_bounded (countDrop_bounded hended)
  · exact kick_bounded (countDrop_bounded (frameReported_bounded hended))

/-- The engine leaves the line with a new attempt record, and contents held replace a collided ROLLCALL's (R25,
R29). -/
theorem backedOff_bounded {q : TxQueue} {a : Attempt} {l : Link} {n : Nat} (h : Bounded u)
    (hq : rollcallOnLine u.link = true → q = .normal) (hl : l = { setAttempt q a u.link with engine := .idle }) :
    Bounded { u with draws := n, link := match q with | .normal => applyHeld l | .urgent => l } := by
  subst hl
  have hdrawn : Bounded { u with draws := n } := h.same (by simp)
  cases q with
  | urgent =>
    have hoff : rollcallOnLine u.link = false := Bool.eq_false_iff.mpr fun hline => nomatch hq hline
    have hfit := h.queues.engine hoff .idle
    exact hdrawn.link (l := { setAttempt .urgent a u.link with engine := .idle })
      ⟨hfit.urgent, hfit.normal, hfit.one, hfit.held⟩ h.counters h.receive
  | normal =>
    refine hdrawn.link (l := applyHeld { setAttempt .normal a u.link with engine := .idle })
      (applyHeld_fit ⟨h.queues.urgent, h.queues.normal, h.queues.one, fun hne => absurd rfl hne⟩) ?_ ?_
    · unfold applyHeld; split <;> exact h.counters
    · unfold applyHeld; split <;> exact h.receive

theorem backOff_bounded {q : TxQueue} (h : Bounded u) (hq : rollcallOnLine u.link = true → q = .normal) :
    Bounded (backOff q u) :=
  kick_bounded (backedOff_bounded h hq rfl)

theorem endJam_bounded {q : Option TxQueue} {e : Nat} (h : Bounded u) (hj : u.link.engine = .jam q e) :
    Bounded (endJam q u) := by
  have hnoted : Bounded { u with link.idleFrom := u.now, link.ownUntil := some u.now } := h.same (by simp)
  unfold endJam
  dsimp only
  split
  case h_1 =>
    have hoff : rollcallOnLine u.link = false := by simp [rollcallOnLine, hj]
    exact kick_bounded (hnoted.linkQueues (hnoted.queues.engine hoff .idle) rfl rfl)
  case h_2 q =>
    have hline : rollcallOnLine u.link = true → q = .normal := by cases q <;> simp [rollcallOnLine, hj]
    exact Bounded.ite (backOff_bounded hnoted hline) (dropFrame_bounded hnoted hline)

theorem execJamEnd_bounded (h : Bounded s) : OutBounded (execJamEnd s) := by
  unfold execJamEnd
  split
  case h_1 q e hj => exact stepOf_bounded (endJam_bounded (reach_bounded h) hj)
  all_goals exact next_bounded h

theorem frameSent_bounded {q : TxQueue} {b : Nat} {l : List Bool} (h : Bounded u) (hs : u.link.engine = .send q b l) :
    Bounded (frameSent q u) := by
  have hline : rollcallOnLine u.link = true → q = .normal := by cases q <;> simp [rollcallOnLine, hs]
  have hsent := attemptEnded_bounded (a := u.now) (b := some u.now) h rfl hline
    (c := { (endAttempt q u.link).counters with sent := bump (endAttempt q u.link).counters.sent })
    { (by simpa using h.counters : CountersFit (endAttempt q u.link).counters) with sent := bump_le _ }
  have hended : Bounded { u with
      link := { endAttempt q u.link with
        counters.sent := bump (endAttempt q u.link).counters.sent, idleFrom := u.now, ownUntil := some u.now }
      st.drops := 0 } := hsent.same (by simp)
  unfold frameSent
  dsimp only
  split
  · exact kick_bounded hended
  · exact kick_bounded (frameReported_bounded (Bounded.ite
      (hended.count { hended.counters with holdsSent := bump_le _ }) hended))

theorem execTxFrameComplete_bounded (h : Bounded s) : OutBounded (execTxFrameComplete s) := by
  unfold execTxFrameComplete
  split
  case h_1 q b l hs => exact stepOf_bounded (frameSent_bounded (reach_bounded h) hs)
  all_goals exact next_bounded h

theorem setAttempt_bounded {q : TxQueue} {a : Attempt} (h : Bounded u) :
    Bounded { u with link := setAttempt q a u.link } := by
  cases q <;> exact h.same (by simp [setAttempt])

theorem guardOver_bounded (h : Bounded u) : Bounded (guardOver u) :=
  Bounded.ite (callHold_bounded (h.same (by simp))) (h.same (by simp))

/-! ## Frames taken -/

theorem arrived_bounded {a : Addr} {e : Entry} {f : Roll} (h : Bounded u) : Bounded (arrived a e f u) := by
  unfold arrived
  split
  · exact raise_bounded h
  · exact Bounded.ite h (raise_bounded h)
  · exact raise_bounded h
  · exact raise_bounded h

theorem takeRollcall_bounded {a : Addr} {p : List Byte} (h : Bounded u) : Bounded (takeRollcall a p u) := by
  unfold takeRollcall
  split
  · exact h
  · exact changeEntry_bounded (fun _ hv => arrived_bounded hv) h

theorem takeDrop_bounded {a : Addr} (h : Bounded u) : Bounded (takeDrop a u) := by
  unfold takeDrop
  split
  · exact h
  · exact Bounded.ite (changeEntry_bounded (fun _ hv => hv) h) h

theorem takeDepart_bounded {a : Addr} (h : Bounded u) : Bounded (takeDepart a u) := by
  unfold takeDepart
  split
  · exact h
  · exact h
  · exact changeEntry_bounded (fun _ hv => raise_bounded hv) h

theorem takeAsk_bounded {a : Addr} {x n : Nat} (h : Bounded u) : Bounded (takeAsk a x n u) := by
  refine Bounded.ite (h.same ?_) h
  simp

theorem takeGive_bounded {a : Addr} {g : GiveFields} (h : Bounded u) : Bounded (takeGive a g u) := by
  have hcount : Bounded (countGive a g u) := h.same (by simp; simp [countGive])
  exact Bounded.ite h (Bounded.ite (acceptGive_bounded hcount) hcount)

/-! ## Store, timers and ports -/

theorem runWait_bounded {w : Wait} (h : Bounded u) : Bounded (runWait u w) := by
  cases w with
  | give x => exact offerGive_bounded h
  | ack g x c fresh => exact Bounded.ite (raise_bounded (sendNormal_bounded rfl h)) (sendNormal_bounded rfl h)
  | reply => exact answer_bounded h
  | zoneOpen g => exact Bounded.ite (sendZone_bounded (publishFrames_plain _ _) h) h
  | commit => exact commitEffect_bounded h

theorem execStoreWriteComplete_bounded (r : RecordId) (h : Bounded s) :
    OutBounded (execStoreWriteComplete r s) := by
  cases r with
  | seat =>
    have hdone : Bounded { s with store.seat := s.store.seat.finish } :=
      h.escrowed rfl rfl rfl rfl rfl rfl (finish_escrow h.escrow)
    exact outBounded_ite (stepOf_bounded (Bounded.foldl (fun _ _ hv => runWait_bounded hv) _ hdone)) (next_bounded h)
  | zoning =>
    have hdone : Bounded { s with store.zoning := s.store.zoning.finish } := h.same (by simp)
    exact outBounded_ite (stepOf_bounded (Bounded.foldl (fun _ _ hv => runWait_bounded hv) _ hdone)) (next_bounded h)

theorem loseEntry_bounded {p : Addr} (h : Bounded u) : Bounded (loseEntry p u) := by
  unfold loseEntry
  split
  · exact h
  · exact changeEntry_bounded (fun _ hv => raise_bounded hv) h

theorem silenceExpired_bounded (h : Bounded u) : Bounded (silenceExpired u) :=
  Bounded.ite (isolate_bounded (h.same (by simp))) (h.same (by simp))

theorem joiningOver_bounded (h : Bounded u) : Bounded (joiningOver u) := by
  unfold joiningOver
  split
  · exact enterActive_bounded h
  · exact enterDeparting_bounded h
  · exact enterDeparting_bounded h

theorem recheck_bounded (h : Bounded u) : Bounded (recheck u) := by
  unfold recheck
  split
  · exact closeWindow_bounded h
  · exact Bounded.ite (h.same (by simp))
      (Bounded.ite (closeWindow_bounded h) (closeWindow_bounded (startHead_bounded h)))

theorem windowOver_bounded (h : Bounded u) : Bounded (windowOver u) :=
  Bounded.ite (recheck_bounded (reevaluate_bounded h)) (reevaluate_bounded h)

theorem spacingOver_bounded (h : Bounded u) : Bounded (spacingOver u) := by
  have hidle : Bounded { u with seat.phase := .idle } := h.same (by simp)
  exact Bounded.ite (Bounded.ite (offerAsk_bounded hidle) (h.same (by simp))) hidle

theorem execAnswerDelayExpire_bounded (a : Addr) (h : Bounded s) : OutBounded (execAnswerDelayExpire a s) := by
  unfold execAnswerDelayExpire
  split
  · exact next_bounded h
  · exact stepOf_bounded (giveAnswer_bounded (reach_bounded h))

theorem judgeUnanswered_bounded {x : Nat} (h : Bounded u) : Bounded (judgeUnanswered x u) := by
  unfold judgeUnanswered
  split
  · exact h
  · exact Bounded.ite (raiseOwn_bounded (mapEscrow_bounded (fun _ => rfl) h)) h

theorem execEscrowTimerExpire_bounded (x : Nat) (h : Bounded s) : OutBounded (execEscrowTimerExpire x s) := by
  unfold execEscrowTimerExpire
  split
  · exact next_bounded h
  · exact expiryStep_bounded h fun d _ => offerGive_bounded (judgeEscrow_bounded (judgeUnanswered_bounded
      (reach_bounded h)))

/-- A port timer that runs is that of a port in its state (R136, R137). -/
theorem portTimer_some {x : PortState} {n d : Nat} (h : portTimer x n s = some d) :
    ∃ p, portAt s n = some p ∧ p.state = x := by
  unfold portTimer at h
  split at h
  · simp at h
  case h_2 p hp =>
    split at h
    case isTrue hs => exact ⟨p, hp, hs⟩
    case isFalse => simp at h

theorem becomeLit_bounded {n d : Nat} (h : Bounded s) (ht : portTimer .lighting n s = some d) :
    Bounded (becomeLit n (reach d s)) := by
  obtain ⟨p, hp, hs⟩ := portTimer_some ht
  have hp' : portAt (reach d s) n = some p := hp
  unfold becomeLit
  rw [hp']
  exact raise_bounded (setPort_bounded (reach_bounded h) hp' rfl (.inr (h.entries.free hp (by simp [hs]))))

theorem dimmingOver_bounded {n d : Nat} (h : Bounded s) (ht : portTimer .dimming n s = some d) :
    Bounded (dimmingOver n (reach d s)) := by
  obtain ⟨p, hp, hs⟩ := portTimer_some ht
  have hdark : Bounded (darkenPort n (reach d s)) :=
    darkenPort_bounded (reach_bounded h) (h.entries.free hp (by simp [hs]))
  unfold dimmingOver
  split
  · exact reach_bounded h
  · dsimp only
    split
    · exact raise_bounded hdark
    · exact raise_bounded hdark
    · exact hdark

theorem orphaned_bounded (h : Bounded u) : Bounded (orphaned u) := raise_bounded (freeLock_bounded h)

theorem execFilterAck_bounded (n : Nat) (h : Bounded s) : OutBounded (execFilterAck n s) := by
  unfold execFilterAck
  split
  · exact next_bounded h
  case h_2 l hl =>
    refine outBounded_ite (stepOf_bounded (serveFilters_bounded ?_)) (next_bounded h)
    split
    case isTrue => exact endIgnored_bounded h
    case isFalse hi => exact endTaken_bounded h hl (by simpa using hi)

theorem execFilterTryExpire_bounded (h : Bounded s) : OutBounded (execFilterTryExpire s) := by
  unfold execFilterTryExpire
  split
  · exact next_bounded h
  case h_2 l hl => exact stepOf_bounded (tryOver_bounded (reach_bounded h) hl)

theorem resendOver_bounded (h : Bounded u) : Bounded (pumpZone u.zone.outbox { u with zone.resend := none }) :=
  pumpZone_bounded _ h.outbox (h.same (by simp))

/-! ## Host commands -/

theorem execFetch_bounded (n : Nat) (h : Bounded s) : OutBounded (execFetch n s) := by
  have hshift := shiftStatus_bounded h
  refine outBounded_ite (next_bounded hshift) ?_
  split
  · exact next_bounded (Bounded.ite (hshift.same (by simp)) (hshift.same (by simp)))
  · exact next_bounded hshift
  · exact next_bounded hshift

theorem execCommandUnknown_bounded (c : Byte) (rest : List Byte) (h : Bounded s) :
    OutBounded (execCommandUnknown c rest s) := by
  have hshift := shiftStatus_bounded h
  refine outBounded_ite (next_bounded hshift) ?_
  split
  · exact next_bounded hshift
  · exact next_bounded (refuse_bounded (hshift.same (by simp)))
  · exact next_bounded hshift

theorem settingWritten_bounded {n : Nat} (h : Bounded u) : Bounded (settingWritten n u) := by
  unfold settingWritten
  split
  · exact h.same (by simp)
  · exact h.same (by simp)
  · exact h.same (by simp)
  · exact h.same (by simp)
  · exact h

theorem judgeSet_bounded {p : List Byte} (h : Bounded u) : Bounded (judgeSet p u) := by
  refine Bounded.ite (refuse_bounded h) (Bounded.ite (refuse_bounded h) ?_)
  split
  · exact refuse_bounded h
  case h_2 q _ => exact reply_bounded (settingWritten_bounded (h.same (by simp)))

theorem reportExhausted_bounded (h : Bounded u) : Bounded (reportExhausted u) := Bounded.ite (raiseOwn_bounded h) h

theorem joinUp_bounded (h : Bounded u) : Bounded (joinUp u) := by
  have hbuilt : Bounded (buildOwn { u with link := startLink u.now u.link }) := h.same (by simp [startLink])
  exact resendAll_bounded (enterJoining_bounded (silenceUnarmed_bounded hbuilt))

theorem judgeJoin_bounded {p : List Byte} (h : Bounded u) : Bounded (judgeJoin p u) := by
  have hreply : Bounded (reply .accepted [] u) := reply_bounded h
  refine Bounded.ite (refuse_bounded h) ?_
  split
  · exact reportExhausted_bounded (joinUp_bounded hreply)
  · exact Bounded.ite (refuse_bounded h) (reportExhausted_bounded (rejoin_bounded hreply))
  all_goals exact refuse_bounded h

theorem judgeDepart_bounded {p : List Byte} (h : Bounded u) : Bounded (judgeDepart p u) := by
  unfold judgeDepart
  split
  · exact enterDeparting_bounded (reply_bounded h)
  · exact enterDeparting_bounded (reply_bounded h)
  · exact reply_bounded (h.same (by simp))
  all_goals exact refuse_bounded h

/-- LINK-RESTART leaves the link as after reset, but for a jam that no frame follows (R31). -/
theorem restartLink_bounded (h : Bounded u) : Bounded { u with link := restartLink u.now u.link } :=
  h.link ⟨Nat.zero_le _, Nat.zero_le _, Nat.zero_le _, fun hne => absurd rfl hne⟩
    (by constructor <;> exact Nat.zero_le _) (Nat.zero_le _)

theorem emptyPeers_bounded (h : Bounded u) : Bounded (emptyPeers u) := h.same (by simp)

theorem rollcallOwed_bounded (h : Bounded u) : Bounded { u with announce := true } := h.same (by simp)

theorem restart_bounded (h : Bounded u) : Bounded (restart u) := by
  have hzone : Bounded (restartZoning (stopAsking (emptyPeers { u with link := restartLink u.now u.link }))) :=
    restartZoning_bounded ((emptyPeers_bounded (restartLink_bounded h)).same (by simp [stopAsking]))
  have hjoined := retarget_bounded (enterJoining_bounded (c := .linkRestart) (silenceUnarmed_bounded hzone))
  have hrun : Bounded (restartGoodRun (retarget (enterJoining .linkRestart (silenceUnarmed (restartZoning
      (stopAsking (emptyPeers { u with link := restartLink u.now u.link }))))))) := hjoined.same (by simp)
  exact rollcallOwed_bounded (resendAll_bounded hrun)

theorem judgeRestart_bounded {p : List Byte} (h : Bounded u) : Bounded (judgeRestart p u) := by
  have hrestart : Bounded (restart (reply .ok [] u)) := restart_bounded (reply_bounded h)
  unfold judgeRestart
  split
  · exact hrestart
  · exact hrestart
  · exact Bounded.ite (refuse_bounded h) hrestart
  all_goals exact refuse_bounded h

theorem judgeForget_bounded {p : List Byte} (h : Bounded u) : Bounded (judgeForget p u) := by
  unfold judgeForget
  split
  · exact refuse_bounded h
  · refine Bounded.ite (refuse_bounded h) ?_
    split
    · exact refuse_bounded h
    · exact refuse_bounded h
    · exact changeEntry_bounded (fun _ hv => hv) (reply_bounded h)
    · exact changeEntry_bounded (fun _ hv => hv) (reply_bounded h)

theorem forceFans_bounded {b : Bool} (h : Bounded u) : Bounded (forceFans b u) := by
  have hflag : Bounded (updateDemand { u with cool.forced := b }) := h.same (by simp)
  exact Bounded.ite (retarget_bounded hflag) hflag

theorem judgeForce_bounded {p : List Byte} (h : Bounded u) : Bounded (judgeForce p u) := by
  unfold judgeForce
  split
  · exact reply_bounded (forceFans_bounded h)
  · exact reply_bounded (forceFans_bounded h)
  · exact refuse_bounded h

theorem onPort_bounded {b : Bool} {n : Nat} {act : Port → State → State} (h : Bounded u)
    (hact : ∀ p, portAt u n = some p → Bounded (act p u)) : Bounded (onPort b n act u) := by
  refine Bounded.ite (refuse_bounded h) (Bounded.ite (refuse_bounded h) ?_)
  split
  · exact refuse_bounded h
  case h_2 p hp => exact hact p hp

/-- A DARK port has no entry; the one it is given joins the tail (R129). -/
theorem requestPort_bounded {n d k : Nat} {p : Port} (h : Bounded u) (hp : portAt u n = some p)
    (hdark : p.state = .dark) : Bounded (requestPort n d k p u) := by
  have hfree := h.entries.free hp (by simp [hdark])
  have hset := setPort_bounded (q := { p with state := .queued, req := some { draw := clampDraw d, priority := k } })
    h hp rfl (.inr hfree)
  refine reply_bounded (hset.queue (hset.entries.join (e := { port := n, fresh := true }) ?_ hfree
    (List.perm_append_singleton _ _)))
  rw [portAt_setPort, hp]
  simp [QEntry.portState]

theorem judgeRequest_bounded {p : List Byte} (h : Bounded u) : Bounded (judgeRequest p u) := by
  unfold judgeRequest
  refine onPort_bounded h fun q hq => ?_
  refine Bounded.ite (refuse_bounded h) ?_
  split
  case isTrue hdark => exact requestPort_bounded h hq hdark
  case isFalse => exact refuse_bounded h

/-- A port whose entry has left the queue becomes DARK (R130, R131). -/
theorem darkenRemoved_bounded {n : Nat} (h : Bounded u) : Bounded (darkenPort n (removeEntry n u)) :=
  darkenPort_bounded (removeEntry_bounded h) (removeEntry_free n u)

theorem judgeCancel_bounded {p : List Byte} (h : Bounded u) : Bounded (judgeCancel p u) := by
  unfold judgeCancel
  refine onPort_bounded h fun _ _ => ?_
  exact Bounded.ite (reply_bounded (darkenRemoved_bounded h)) (refuse_bounded h)

theorem judgeRelease_bounded {p : List Byte} (h : Bounded u) : Bounded (judgeRelease p u) := by
  unfold judgeRelease
  refine onPort_bounded h fun q _ => ?_
  split
  · exact reply_bounded (dimPort_bounded h)
  · exact reply_bounded (dimPort_bounded h)
  · exact reply_bounded (darkenRemoved_bounded h)
  all_goals exact refuse_bounded h

theorem setNode_bounded {n : Nat} {node : Option Nat} {q : Port} (h : Bounded u) (hq : portAt u n = some q) :
    Bounded (setNode n node q u) := by
  have hserved : Bounded (serveFilters (oweLoad n (setPort n { q with node } u))) :=
    serveFilters_bounded (oweLoad_bounded (setPort_bounded h hq rfl (.inl rfl)))
  unfold setNode filterReply
  split
  · exact reply_bounded hserved
  · exact reply_bounded hserved

theorem judgeAttach_bounded {p : List Byte} (h : Bounded u) : Bounded (judgeAttach p u) := by
  unfold judgeAttach
  refine onPort_bounded h fun _ hq => ?_
  exact Bounded.ite (refuse_bounded h) (Bounded.ite (setNode_bounded h hq) (refuse_bounded h))

theorem judgeDetach_bounded {p : List Byte} (h : Bounded u) : Bounded (judgeDetach p u) := by
  unfold judgeDetach
  refine onPort_bounded h fun _ hq => ?_
  exact Bounded.ite (setNode_bounded h hq) (refuse_bounded h)

theorem judgeInstall_bounded {p : List Byte} (h : Bounded u) : Bounded (judgeInstall p u) :=
  Bounded.ite (refuse_bounded h) (Bounded.ite (refuse_bounded h) (Bounded.ite (refuse_bounded h)
    (touchSeat_bounded (h.same (by simp)))))

theorem judgeWithdraw_bounded {p : List Byte} (h : Bounded u) : Bounded (judgeWithdraw p u) :=
  Bounded.ite (refuse_bounded h) (Bounded.ite (refuse_bounded h) (touchSeat_bounded (h.same (by simp))))

theorem judgeReclaim_bounded {p : List Byte} (h : Bounded u) : Bounded (judgeReclaim p u) := by
  unfold judgeReclaim
  dsimp only
  split
  · exact refuse_bounded h
  · exact Bounded.ite (touchSeat_bounded (dropEscrow_bounded (h.same (by simp)))) (refuse_bounded h)

theorem onDraft_bounded {act : State → State} (h : Bounded u) (hact : Bounded (act u)) : Bounded (onDraft act u) :=
  Bounded.ite (refuse_bounded h) (Bounded.ite (refuse_bounded h) hact)

theorem draft_bounded {z : ZoneSet} (h : Bounded u) : Bounded (draftReply { u with zone.draft := z }) :=
  reply_bounded (h.same (by simp))

theorem addMember_bounded {e : ZEntry} (h : Bounded u) : Bounded (addMember e u) :=
  Bounded.ite (refuse_bounded h) (Bounded.ite (reply_bounded h) (Bounded.ite (refuse_bounded h) (draft_bounded h)))

theorem removeMember_bounded {e : ZEntry} (h : Bounded u) : Bounded (removeMember e u) :=
  Bounded.ite (refuse_bounded h) (draft_bounded h)

theorem publish_bounded (h : Bounded u) : Bounded (publish u) := by
  have hdraft : Bounded (touchZone [.zoneOpen (max u.zone.gen u.zone.lastProposed + 1)] { u with
      zone.draft := [], zone.lastProposed := max u.zone.gen u.zone.lastProposed + 1,
      zone.results := (voters u).map fun a => { voter := a, verdict := none } }) :=
    touchZone_bounded (h.same (by simp))
  unfold publish
  dsimp only
  split
  · exact zoneResult_bounded hdraft
  · exact hdraft.same (by simp)

theorem judgePublish_bounded {p : List Byte} (h : Bounded u) : Bounded (judgePublish p u) :=
  Bounded.ite (refuse_bounded h) (Bounded.ite (refuse_bounded h) (Bounded.ite (refuse_bounded h)
    (Bounded.ite (refuse_bounded h) (publish_bounded (reply_bounded h)))))

theorem clearCursor_bounded (h : Bounded u) : Bounded (clearCursor u) := h.same (by simp; simp [clearCursor])

theorem readFrom_bounded {x : Table} {i : Nat} (h : Bounded u) : Bounded (readFrom x i u) :=
  reply_bounded (h.same (by simp))

theorem judgeReadTable_bounded {p : List Byte} (h : Bounded u) : Bounded (judgeReadTable p u) := by
  unfold judgeReadTable
  dsimp only
  split
  · exact refuse_bounded (clearCursor_bounded h)
  · exact Bounded.ite (refuse_bounded (clearCursor_bounded h))
      (Bounded.ite (refuse_bounded (clearCursor_bounded h)) (readFrom_bounded h))

theorem judgeReadNext_bounded {p : List Byte} (h : Bounded u) : Bounded (judgeReadNext p u) := by
  unfold judgeReadNext
  split
  · exact refuse_bounded h
  · exact Bounded.ite (reply_bounded h) (readFrom_bounded h)

/-- A notice read leaves the queue (R178). -/
theorem dropNotice_bounded (h : Bounded u) : Bounded (dropNotice u) := by
  have hfit : (dropNotice u).host.notices.length ≤ noticeCap ∧ (dropNotice u).host.overflow ≤ 255 := by
    have hn := h.notices
    unfold dropNotice
    split
    · exact hn
    · exact ⟨Nat.zero_le _, hn.2⟩
    case h_3 n rest _ hrest =>
      rw [hrest] at hn
      exact ⟨(Nat.le_succ _).trans hn.1, hn.2⟩
  have hports : SamePorts u (dropNotice u) := by simp
  exact ⟨by simpa using h.queues, by simpa using h.outbox, by simpa using h.counters, by simpa using h.receive,
    h.entries.same hports, h.loads.same hports, h.escrow.same (by simp) (by simp) (by simp) (by simp), hfit⟩

theorem judgeReadNotice_bounded {p : List Byte} (h : Bounded u) : Bounded (judgeReadNotice p u) := by
  have hzero : Bounded { u with host.overflow := 0 } :=
    { h with entries := ⟨h.entries.fitted, h.entries.once, h.entries.entry⟩,
             loads := ⟨h.loads.once, h.loads.queued, h.loads.loading⟩,
             escrow := ⟨h.escrow.slots, h.escrow.copyA, h.escrow.copyB, h.escrow.writing⟩,
             notices := ⟨h.notices.1, Nat.zero_le _⟩ }
  exact reply_bounded (dropNotice_bounded hzero)

theorem judgeReadCounters_bounded {p : List Byte} (h : Bounded u) : Bounded (judgeReadCounters p u) := by
  unfold judgeReadCounters
  split
  · exact reply_bounded h
  · exact reply_bounded (h.count (by constructor <;> exact Nat.zero_le _))
  · exact refuse_bounded h

/-! ## Every command -/

/-- Every command but the resets leaves every queue and count within its size. -/
theorem exec_bounded (c : Instr) (hassert : ∀ k, c ≠ .resetAssert k) (hrelease : ∀ p, c ≠ .resetRelease p)
    (h : Bounded s) : OutBounded (exec c s) := by
  have hreach (d : Nat) : Bounded (reach d s) := reach_bounded h
  cases c with
  | resetAssert k => exact absurd rfl (hassert k)
  | resetRelease p => exact absurd rfl (hrelease p)
  | ejectPinChange b => exact outBounded_ite (next_bounded h) (next_bounded (h.same (by simp)))
  | ejectJudgedOpen =>
    exact outBounded_ite (expiryStep_bounded h fun d _ => judgedOpen_bounded (hreach d)) (next_bounded h)
  | ejectJudgedClosed =>
    exact outBounded_ite (next_bounded h) (expiryStep_bounded h fun d _ => judgedClosed_bounded (hreach d))
  | faultLineChange b => exact outBounded_ite (next_bounded h) (next_bounded (h.same (by simp)))
  | faultConditionSet =>
    exact outBounded_ite (expiryStep_bounded h fun d _ => faultSet_bounded (hreach d)) (next_bounded h)
  | faultConditionClear =>
    exact outBounded_ite (expiryStep_bounded h fun d _ => faultClear_bounded (hreach d)) (next_bounded h)
  | sensorSample r => exact expiryStep_bounded h fun d _ => takeSample_bounded (hreach d)
  | rotorCheck r => exact expiryStep_bounded h fun d _ => checkRotors_bounded (hreach d)
  | inOkChange b =>
    refine outBounded_ite (stepOf_bounded ?_) (next_bounded h)
    exact Bounded.ite (inputRose_bounded (supplyLine_bounded h)) (inputFell_bounded (supplyLine_bounded h))
  | outOkChange b =>
    refine outBounded_ite (stepOf_bounded (updateGoodRun_bounded ?_)) (next_bounded h)
    exact Bounded.ite (h.same (by simp)) (h.same (by simp))
  | earlyWarnChange b =>
    refine outBounded_ite (stepOf_bounded ?_) (next_bounded h)
    exact Bounded.ite (warned_bounded (supplyLine_bounded h)) (supplyLine_bounded h)
  | outputLostExpire => exact expiryStep_bounded h fun d _ => outputWentLost_bounded ((hreach d).same (by simp))
  | goodRunComplete => exact expiryStep_bounded h fun d _ => goodRunDone_bounded ((hreach d).same (by simp))
  | storeWriteComplete r => exact execStoreWriteComplete_bounded r h
  | lineActivityEnd bits lead => exact execLineActivityEnd_bounded bits lead h
  | txGapComplete => exact execTxGapComplete_bounded h
  | txCollision => exact execTxCollision_bounded h
  | jamEnd => exact execJamEnd_bounded h
  | txFrameComplete => exact execTxFrameComplete_bounded h
  | backoffExpire q => exact expiryStep_bounded h fun d _ => kick_bounded (setAttempt_bounded (hreach d))
  | holdCounterExpire => exact expiryStep_bounded h fun d _ => kick_bounded ((hreach d).same (by simp))
  | holdGuardExpire => exact expiryStep_bounded h fun d _ => guardOver_bounded (hreach d)
  | rollcallTaken => exact takeHead_bounded h fun f v hv => takeRollcall_bounded hv
  | supplyDropTaken => exact takeHead_bounded h fun f v hv => takeDrop_bounded hv
  | departTaken => exact takeHead_bounded h fun f v hv => takeDepart_bounded hv
  | seatAskTaken =>
    refine takeHead_bounded h fun f v hv => Bounded.ite ?_ hv
    split
    · exact hv
    · exact takeAsk_bounded hv
  | seatGiveTaken =>
    refine takeHead_bounded h fun f v hv => Bounded.ite ?_ hv
    split
    · exact hv
    · exact takeGive_bounded hv
  | seatAckTaken =>
    refine takeHead_bounded h fun f v hv => Bounded.ite ?_ hv
    split
    · exact hv
    · exact takeAck_bounded hv
  | zoneOpenTaken => exact takeHead_bounded h fun f v hv => Bounded.ite (receiveOpen_bounded hv) hv
  | zoneSegTaken => exact takeHead_bounded h fun f v hv => Bounded.ite (receiveSeg_bounded hv) hv
  | zoneVoteTaken =>
    refine takeHead_bounded h fun f v hv => Bounded.ite ?_ hv
    split
    · exact takeVote_bounded hv
    · exact hv
  | zoneCommitTaken => exact takeHead_bounded h fun f v hv => Bounded.ite (receiveCommit_bounded hv) hv
  | zoneAbandonTaken => exact takeHead_bounded h fun f v hv => Bounded.ite (receiveAbandon_bounded hv) hv
  | rollcallPeriodExpire => exact expiryStep_bounded h fun d _ => offerRollcall_bounded ((hreach d).same (by simp))
  | peerAgeExpire p => exact expiryStep_bounded h fun d _ => loseEntry_bounded (hreach d)
  | silenceTimerExpire => exact expiryStep_bounded h fun d _ => silenceExpired_bounded (hreach d)
  | joiningTimerExpire => exact expiryStep_bounded h fun d _ => joiningOver_bounded (hreach d)
  | settleWindowExpire => exact expiryStep_bounded h fun d _ => windowOver_bounded (hreach d)
  | retryTimerExpire => exact expiryStep_bounded h fun d _ => examineGates_bounded ((hreach d).same (by simp))
  | fanHoldExpire => exact expiryStep_bounded h fun d _ => stepDown_bounded (hreach d)
  | fanStepExpire => exact expiryStep_bounded h fun d _ => stepDown_bounded (hreach d)
  | askOutstandingExpire => exact expiryStep_bounded h fun d _ => (hreach d).same (by simp [outstandingOver])
  | askSpacingExpire => exact expiryStep_bounded h fun d _ => spacingOver_bounded (hreach d)
  | answerDelayExpire a => exact execAnswerDelayExpire_bounded a h
  | escrowTimerExpire x => exact execEscrowTimerExpire_bounded x h
  | lightingTimerExpire n => exact expiryStep_bounded h fun d hd => becomeLit_bounded h hd
  | dimmingTimerExpire n => exact expiryStep_bounded h fun d hd => dimmingOver_bounded h hd
  | historyBoundary => exact expiryStep_bounded h fun d _ => examineGates_bounded ((hreach d).same (by simp))
  | segmentTimerExpire => exact expiryStep_bounded h fun d _ => refuseSet_bounded (hreach d)
  | voteWindowExpire => exact expiryStep_bounded h fun d _ => abandon_bounded (hreach d)
  | orphanTimerExpire => exact expiryStep_bounded h fun d _ => orphaned_bounded (hreach d)
  | zoneResendTimerExpire => exact expiryStep_bounded h fun d _ => resendOver_bounded (hreach d)
  | filterAck n => exact execFilterAck_bounded n h
  | filterTryExpire => exact execFilterTryExpire_bounded h
  | departureTimerExpire => exact expiryStep_bounded h fun d _ => forceDeparture_bounded (hreach d)
  | departRetryExpire => exact expiryStep_bounded h fun d _ => departure_bounded (hreach d)
  | intDeassertIntervalExpire => exact expiryStep_bounded h fun d _ => (hreach d).same (by simp)
  | fetch n => exact execFetch_bounded n h
  | set l => exact transact_bounded h fun p v hv => judgeSet_bounded hv
  | join l => exact transact_bounded h fun p v hv => judgeJoin_bounded hv
  | depart l => exact transact_bounded h fun p v hv => judgeDepart_bounded hv
  | linkRestart l => exact transact_bounded h fun p v hv => judgeRestart_bounded hv
  | forgetPeer l => exact transact_bounded h fun p v hv => judgeForget_bounded hv
  | forceFans l => exact transact_bounded h fun p v hv => judgeForce_bounded hv
  | portRequest l => exact transact_bounded h fun p v hv => judgeRequest_bounded hv
  | portCancel l => exact transact_bounded h fun p v hv => judgeCancel_bounded hv
  | portRelease l => exact transact_bounded h fun p v hv => judgeRelease_bounded hv
  | portAttach l => exact transact_bounded h fun p v hv => judgeAttach_bounded hv
  | portDetach l => exact transact_bounded h fun p v hv => judgeDetach_bounded hv
  | seatInstall l => exact transact_bounded h fun p v hv => judgeInstall_bounded hv
  | seatWithdraw l => exact transact_bounded h fun p v hv => judgeWithdraw_bounded hv
  | seatReclaim l => exact transact_bounded h fun p v hv => judgeReclaim_bounded hv
  | zoneDraftClear l => exact transact_bounded h fun p v hv => onDraft_bounded hv (draft_bounded hv)
  | zoneDraftAdd l => exact transact_bounded h fun p v hv => onDraft_bounded hv (addMember_bounded hv)
  | zoneDraftRemove l => exact transact_bounded h fun p v hv => onDraft_bounded hv (removeMember_bounded hv)
  | zonePublish l => exact transact_bounded h fun p v hv => judgePublish_bounded hv
  | readTable l =>
    exact transactWith_bounded h (fun v hv => clearCursor_bounded hv) fun p v hv => judgeReadTable_bounded hv
  | readNext l => exact transact_bounded h fun p v hv => judgeReadNext_bounded hv
  | readNotice l => exact transact_bounded h fun p v hv => judgeReadNotice_bounded hv
  | readCounters l => exact transact_bounded h fun p v hv => judgeReadCounters_bounded hv
  | readStatus l => exact transact_bounded h fun p v hv => reply_bounded hv
  | commandUnknown c l => exact execCommandUnknown_bounded c l h

/-! ## The resets -/

/-- At the reset values every queue is empty and every count 0; the store's records are those held before. -/
theorem underReset_bounded (p : Straps) (m : Store) (k : ResetKind)
    (ha : ∀ c, m.seat.a = some c → c.contents.slotsHold) (hb : ∀ c, m.seat.b = some c → c.contents.slotsHold)
    (hw : ∀ r, m.seat.writing = some r → r.slotsHold) : Bounded (State.underReset p m k) where
  queues := ⟨Nat.zero_le _, Nat.zero_le _, Nat.zero_le _, fun hne => absurd rfl hne⟩
  outbox _ hm := nomatch hm
  counters := by constructor <;> exact Nat.zero_le _
  receive := Nat.zero_le _
  entries := ⟨List.length_replicate, List.nodup_nil, fun _ he => nomatch he⟩
  loads := by
    refine ⟨List.nodup_nil, fun n => iff_of_false (fun hn => nomatch hn) fun hn => ?_, fun _ hl => nomatch hl⟩
    obtain ⟨q, hq, hs⟩ := Option.map_eq_some_iff.mp hn
    simp [portAt_underReset hq, Port.clear, Filter.clear] at hs
  escrow := ⟨⟨Nat.zero_le _, List.nodup_nil⟩, ha, hb, hw⟩
  notices := ⟨Nat.zero_le _, Nat.zero_le _⟩

theorem assertReset_bounded (k : ResetKind) (h : Bounded s) : Bounded (assertReset k s) :=
  (underReset_bounded s.st.straps { seat := s.store.seat.abandon, zoning := s.store.zoning.abandon } k
    h.escrow.copyA h.escrow.copyB fun _ hr => nomatch hr).same ⟨⟨rfl, rfl, rfl, rfl, rfl, rfl⟩,
      ⟨rfl, rfl, rfl, rfl, rfl⟩, rfl, rfl, rfl, rfl, rfl, rfl, rfl⟩

/-- What is loaded is a copy, or the blank record (R16). -/
theorem load_slots (h : EscrowFit s) : (s.store.seat.load SeatRecord.blank).slotsHold := by
  unfold Record.load
  split
  · exact ⟨Nat.zero_le _, List.nodup_nil⟩
  case h_2 c hc =>
    unfold Record.current at hc
    split at hc
    case h_1 x y hx hy =>
      split at hc
      · exact h.copyA c (by rw [hx, hc])
      · exact h.copyB c (by rw [hy, hc])
    case h_2 x hx hy => exact h.copyA c (by rw [hx, hc])
    case h_3 => exact h.copyB c hc

theorem sampledRelease_bounded (p : ReleasePins) (h : Bounded s) : Bounded (sampledRelease p s) := by
  have hreset := underReset_bounded p.straps s.store s.st.resetCause h.escrow.copyA h.escrow.copyB h.escrow.writing
  have hstarted : Bounded (startMeasures p { State.underReset p.straps s.store s.st.resetCause with
      draws := s.draws, pending := s.pending, st.state := .setup }) :=
    hreset.same ⟨⟨rfl, rfl, rfl, rfl, rfl, rfl⟩, ⟨rfl, rfl, rfl, rfl, rfl⟩, rfl, rfl, rfl, rfl, rfl, rfl, rfl⟩
  exact Bounded.ite (hstarted.same (by simp)) hstarted

/-- The store as it is loaded gives the account its escrow list (R16). -/
theorem storeLoaded_bounded (h : Bounded s) : Bounded (storeLoaded s) := by
  have hslots := (slotsHold_iff _).mp (load_slots h.escrow)
  have hseats : Bounded (loadSeats (s.store.seat.load SeatRecord.blank) s) :=
    h.escrowed rfl rfl rfl rfl rfl rfl
      ⟨by simpa [loadSeats, Function.comp_def] using hslots, h.escrow.copyA, h.escrow.copyB, h.escrow.writing⟩
  exact Bounded.ite (hseats.same (by simp)) hseats

theorem loadStore_bounded (h : Bounded s) : Bounded (loadStore s) := by
  have hseat : Bounded (seatJudged s) :=
    Bounded.ite (raiseOwn_bounded (storeLoaded_bounded h)) (storeLoaded_bounded h)
  rw [loadStore_eq]
  exact Bounded.ite (raiseOwn_bounded hseat) hseat

theorem releaseReset_bounded (p : ReleasePins) (h : Bounded s) : Bounded (releaseReset p s) := by
  rw [releaseReset_eq]
  exact refresh_bounded (retarget_bounded (loadStore_bounded (raiseOwn_bounded (sampledRelease_bounded p h))))

/-- Settles O3: each operation keeps every queue and count within its size, and with them the agreement of the
activation queue with the ports by which no port has two entries. -/
theorem capacityKept : Obligations.CapacityKept := by
  unfold Obligations.CapacityKept
  intro s t hports hs h
  refine Bounded.capacity ?_
  exact step_kept (fun s q hs => hs.same (by simp)) (fun s hs => hs.same (by simp))
    (fun k s => assertReset_bounded k) (fun p s => releaseReset_bounded p)
    (fun c s t ha hr h hs => exec_bounded c ha hr hs t h) (bounded_of_capacity hports hs) h

end Sys2Proof.Machine
end

section
/-! PROOF. The transmit engine's phases (R23 to R25) and the ends of the link's timers (R22, R25, R38, R39). -/

namespace Sys2Proof.Machine

open Sys2Proof.Config

variable {s t u : State}

/-! ## DEFER to SEND, and SEND to JAM -/

theorem execTxGapComplete_of_defer {q : TxQueue} {m : Msg} {l : List Msg} (he : s.link.engine = .defer q)
    (hq : queueOf q s.link = m :: l) : execTxGapComplete s =
      .next { s with now := max s.now (s.link.idleFrom + interframeGap),
                     link.engine := .send q (max s.now (s.link.idleFrom + interframeGap))
                       (lineBits (m.frame (ownAddr s))) } := by
  simp [execTxGapComplete, he, hq, reach, ownAddr]

theorem execTxCollision_of_send {q : TxQueue} {start : Nat} {bits : List Bool}
    (he : s.link.engine = .send q start bits) : execTxCollision s =
      if bitDriven start bits s.now = some true then .next (startJam q (reach (s.now + 1) s)) else .next s := by
  simp only [execTxCollision, he]

theorem bitDriven_before {start now : Nat} (bits : List Bool) (h : now < start) : bitDriven start bits now = none :=
  if_neg (by omega)

theorem bitDriven_at (start bit : Nat) (bits : List Bool) : bitDriven start bits (start + bit) = bits[bit]? := by
  simp [bitDriven]

/-- The jam moves the clock and the link alone. -/
theorem startJam_reach (q : TxQueue) (s : State) :
    startJam q (reach (s.now + 1) s) =
      { s with now := s.now + 1, link := (startJam q (reach (s.now + 1) s)).link } := by
  simp [startJam, reach]

/-- What the link is as the jam begins (R24). -/
theorem startJam_link (q : TxQueue) (s : State) (r : TxQueue) :
    attemptOf q (startJam q s).link = { attemptOf q s.link with collisions := (attemptOf q s.link).collisions + 1 } ∧
    (r ≠ q → attemptOf r (startJam q s).link = attemptOf r s.link) ∧
    queueOf r (startJam q s).link = queueOf r s.link := by
  cases q <;> cases r <;> simp [startJam, setAttempt, attemptOf, queueOf]

/-- Settles O34. -/
theorem transmitPhases : Obligations.TransmitPhases := by
  unfold Obligations.TransmitPhases
  intro s q
  refine ⟨fun m l he hq => execTxGapComplete_of_defer he hq, fun start bits he hbit => ?none,
    fun start bits bit he hnow hbit => ?jam⟩
  case none =>
    refine (execTxCollision_of_send he).trans (if_neg ?_)
    obtain hearly | ⟨bit, hnow, hbit⟩ := hbit
    · simp [bitDriven_before bits hearly]
    · rwa [hnow, bitDriven_at]
  case jam =>
    have hexec : exec .txCollision s = .next (startJam q (reach (s.now + 1) s)) :=
      (execTxCollision_of_send he).trans (if_pos (by rwa [hnow, bitDriven_at]))
    rw [startJam_reach] at hexec
    have hlink := startJam_link q (reach (s.now + 1) s)
    refine ⟨_, by rw [hexec, hnow], by simp [startJam, reach, hnow, jamTime], ?_, (hlink q).1, fun r => (hlink r).2.1,
      fun r => (hlink r).2.2, ?_⟩
    · cases q <;> simp [startJam, setAttempt, bump, reach]
    · cases q <;> simp [startJam, setAttempt, reach]

/-! ## The ends of the link's timers -/

/-- The attempt of `q` with its wait run out (R25). -/
def waited (q : TxQueue) (s : State) : State :=
  { s with link := setAttempt q { attemptOf q s.link with backoff := none } s.link }

theorem waited_link (q : TxQueue) (s : State) :
    attemptOf q (waited q s).link = { attemptOf q s.link with backoff := none } ∧
    (waited q s).link.counters = s.link.counters := by
  cases q <;> exact ⟨rfl, rfl⟩

theorem execBackoffExpire_of_wait {q : TxQueue} {d : Nat} (h : (attemptOf q s.link).backoff = some d) :
    exec (.backoffExpire q) s = .next (finish (reach d s) (kick (waited q (reach d s)))) := by
  change execBackoffExpire q s = _
  simp only [execBackoffExpire, h, expiryStep, stepOf, waited]

theorem execHoldCounterExpire_of_hold {d : Nat} (h : s.link.hold = some d) :
    exec .holdCounterExpire s = .next (finish (reach d s) (kick { reach d s with link.hold := none })) := by
  change execHoldCounterExpire s = _
  simp only [execHoldCounterExpire, h, expiryStep, stepOf]

theorem execHoldGuardExpire_of_running {d : Nat} (h : s.link.guard = .running d) :
    exec .holdGuardExpire s = .next (finish (reach d s) (guardOver (reach d s))) := by
  change execHoldGuardExpire s = _
  simp only [execHoldGuardExpire, h, guardEnd, expiryStep, stepOf]

/-! ## The call for a HOLD once the guard is over (R38) -/

theorem callHold_of_few (h : s.link.rx.length < holdLevel) : callHold s = s := if_neg (by omega)

/-- With room in the urgent queue a HOLD joins its tail and the guard is armed. -/
theorem callHold_of_room (hrx : holdLevel ≤ s.link.rx.length) (hg : s.link.guard = .clear) (hs : sending s = true)
    (hroom : s.link.urgent.length < urgentCap) :
    (callHold s).link.guard = .armed ∧ (callHold s).link.urgent = s.link.urgent ++ [.hold 5] := by
  simp [callHold, offerUrgent, hrx, hg, hs, hroom]

/-- A HOLD that finds the urgent queue full gives the guard its 5 ms from the offer. -/
theorem callHold_of_full (hrx : holdLevel ≤ s.link.rx.length) (hg : s.link.guard = .clear)
    (hfull : urgentCap ≤ s.link.urgent.length) : callHold s = { s with link.guard := .running (s.now + ms 5) } := by
  simp [callHold, offerUrgent, hrx, hg, Nat.not_lt.mpr hfull]

/-- The guard as it clears, before another HOLD is called for. -/
def guardCleared (d : Nat) (s : State) : State := { reach d s with link.guard := .clear }

@[simp] theorem guardCleared_frame (d : Nat) (s : State) :
    (guardCleared d s).now = max s.now d ∧ (guardCleared d s).link.rx = s.link.rx ∧
    (guardCleared d s).link.urgent = s.link.urgent ∧ (guardCleared d s).link.counters = s.link.counters ∧
    (guardCleared d s).link.guard = .clear ∧ sending (guardCleared d s) = sending s := by
  simp [guardCleared, reach, sending]

theorem guardOver_eq (d : Nat) (s : State) : guardOver (reach d s) =
    if sending s then callHold (guardCleared d s) else guardCleared d s := rfl

theorem callHold_rest (s : State) : RestKept s (callHold s) := SameRest.rest (by simp [SameRest])

/-- What the guard's end leaves as it is. -/
theorem guardOver_kept (d : Nat) (s : State) :
    RestKept s (guardOver (reach d s)) ∧ (guardOver (reach d s)).now = max s.now d ∧
    (guardOver (reach d s)).link.counters = s.link.counters ∧ (guardOver (reach d s)).link.rx = s.link.rx := by
  have hcleared : RestKept s (guardCleared d s) := (reach_aside d s).rest.trans (link_rest _ _)
  rw [guardOver_eq]
  split
  · exact ⟨hcleared.trans (callHold_rest _), by simp, by simp, by simp⟩
  · exact ⟨hcleared, by simp, by simp, by simp⟩

/-- Settles O37: each timer moves its own part of the link, and the end of the step leaves that part as it is. -/
theorem linkTimersEnd : Obligations.LinkTimersEnd := by
  unfold Obligations.LinkTimersEnd
  intro s d
  refine ⟨fun q hback => ?backoff, fun hhold => ?hold, fun hguard => ?guard⟩
  case backoff =>
    have hrest : RestKept s (finish (reach d s) (kick (waited q (reach d s)))) :=
      (((reach_aside d s).rest.trans (link_rest _ _)).trans (kick_rest _)).trans (finish_rest _ _)
    have hattempt := attempt_kept ((kick_tx (.refl (waited q (reach d s)))).trans
      (finish_follows (reach d s) (kick (waited q (reach d s)))).tx) q
    obtain ⟨hover, hcounters⟩ := waited_link q (reach d s)
    exact ⟨_, execBackoffExpire_of_wait hback, by simp [waited], hrest.1, hrest.2.1, hrest.2.2,
      by rw [hattempt, hover], by rw [hattempt, hover]; rfl, by simp [hcounters]⟩
  case hold =>
    have hrest : RestKept s (finish (reach d s) (kick { reach d s with link.hold := none })) :=
      (((reach_aside d s).rest.trans (link_rest _ _)).trans (kick_rest _)).trans (finish_rest _ _)
    exact ⟨_, execHoldCounterExpire_of_hold hhold, by simp, hrest.1, hrest.2.1, hrest.2.2, by simp, by simp⟩
  case guard =>
    obtain ⟨hkept, hnow, hcounters, hrx⟩ := guardOver_kept d s
    have hrest := hkept.trans (finish_rest (reach d s) _)
    have hurgent := (finish_follows (reach d s) (guardOver (reach d s))).tx.urgent
    refine ⟨_, execHoldGuardExpire_of_running hguard, by simp [hnow], hrest.1, hrest.2.1, hrest.2.2,
      by simp [hcounters], by simp [hrx], ?_⟩
    rw [hurgent, (finish_link _ _).guard, (finish_always _ _).1, hnow, guardOver_eq]
    refine ⟨fun hfew => ?_, fun hmany hs hroom => ?_, fun hmany hs hfull => ?_, fun hs => ?_⟩
    · rw [callHold_of_few (by simpa using hfew), ite_self]
      simp
    · rw [if_pos hs]
      simpa using callHold_of_room (s := guardCleared d s) (by simpa using hmany) (by simp) (by simpa using hs)
        (by simpa using hroom)
    · rw [if_pos hs, callHold_of_full (by simpa using hmany) (by simp) (by simpa using hfull)]
      simp
    · simp [hs]

end Sys2Proof.Machine
end

section
/-! PROOF. The reads: each one answers from the state as it stands and changes the module port and the link counters
alone (R40, R177, R178). -/

namespace Sys2Proof.Machine

open Sys2Proof.Config

variable {s t u : State}

/-! ## A read's step -/

/-- The state with another module port and other link counters, which is all that a read changes. -/
def withHost (h : HostPort) (c : Counters) (s : State) : State := { s with link.counters := c, host := h }

theorem ownEntry_withHost (h : HostPort) (c : Counters) (k : OwnEntry s) : OwnEntry (withHost h c s) :=
  ⟨k.claim, k.tent, k.pull, k.entry, k.announced, k.target⟩

/-- A station with nothing left to follow has nothing left to follow after a read. -/
theorem quiet_withHost (h : HostPort) (c : Counters) (k : Quiet s) : Quiet (withHost h c s) :=
  ⟨ownEntry_withHost h c k.own, k.still, k.seat, k.zoning⟩

theorem finish_withHost (tag : Byte) (h : HostPort) (c : Counters) (k : Quiet s) :
    finish (taken tag s) (withHost h c s) = withHost h c s := by
  refine finish_of_quiet _ _ (quiet_withHost h c k) (askEvent_of_same rfl rfl fun hs => hs) ?_
  by_cases hl : s.zone.lock = .applying
  · simp [gateEvent, withHost, hl]
  · simp [gateEvent, withHost, hl]

/-- The module port of a state that has answered a read. -/
def answered (r : Reply) (s : State) : HostPort := { s.host with slot := .reply r, out := [statusByte s] }

/-- The reply and the cursor stand at the end of the step in which a read was judged. -/
theorem finish_read {tag : Byte} {h : HostPort} {c : Counters} {st : Status} {d : List Byte}
    (hu : u = withHost h c s) (hslot : h.slot = .reply { status := st, tag, data := d })
    (hout : h.out = [statusByte s]) :
    Replied s (finish (taken tag s) u) st tag d ∧ (finish (taken tag s) u).host.cursor = h.cursor := by
  subst hu
  exact ⟨finish_replied hslot hout, by simp [withHost]⟩

/-! ## The tables, as the read finds them -/

theorem tableRecords_taken (tag : Byte) (tb : Table) (s : State) :
    tableRecords tb (taken tag s) = tableRecords tb s := by
  cases tb <;> rfl

/-! ## READ-STATUS and READ-COUNTERS -/

theorem execReadStatus_taken {tag : Byte} (h : Judges s) : exec (.readStatus [tag, 0#8]) s =
    .next (finish (taken tag s)
      (withHost (answered { status := .ok, tag, data := statusBytes s } s) s.link.counters s)) :=
  transact_taken (p := []) h rfl rfl

/-- READ-COUNTERS as it is judged, its option read. -/
theorem execReadCounters_taken {tag o : Byte} (h : Judges s) : exec (.readCounters [tag, 1#8, o]) s =
    .next (finish (taken tag s) (judgeReadCounters [o] (taken tag s))) :=
  transact_taken (p := [o]) h rfl rfl

theorem judgeReadCounters_zero (tag : Byte) (s : State) : judgeReadCounters [0#8] (taken tag s) =
    withHost (answered { status := .ok, tag, data := s.link.counters.bytes } s) s.link.counters s := rfl

theorem judgeReadCounters_one (tag : Byte) (s : State) : judgeReadCounters [1#8] (taken tag s) =
    withHost (answered { status := .ok, tag, data := s.link.counters.bytes } s) Counters.zero s := rfl

theorem judgeReadCounters_refused {o : Byte} (tag : Byte) (s : State) (ho : 2 ≤ o.toNat) :
    judgeReadCounters [o] (taken tag s) =
      withHost (answered { status := .range, tag, data := [] } s) s.link.counters s := by
  have hfield : fieldAt [o] 0 1 = o.toNat := by simp [fieldAt, beNat]
  unfold judgeReadCounters
  rw [hfield]
  split
  · omega
  · omega
  · rfl

/-! ## READ-NOTICE -/

/-- The port with its head notice taken off; with the last notice gone INT clears, and the interval begins (R178,
R180). -/
def noticeGone (s : State) : HostPort := (dropNotice { s with host.overflow := 0 }).host

theorem noticeGone_facts (s : State) : (noticeGone s).notices = s.host.notices.tail ∧ (noticeGone s).overflow = 0 ∧
    (s.host.notices.length = 1 → (noticeGone s).int = false) := by
  unfold noticeGone dropNotice
  dsimp only
  split
  · simp [*]
  · simp [*]
  next n rest hmore hn => simpa [hn] using fun h => absurd h hmore

/-- The bytes that READ-NOTICE gives: the head notice, where there is one, and the overflow count. -/
def noticeAnswer (s : State) : List Byte :=
  (match s.host.notices with | [] => [] | n :: _ => n.bytes) ++ b1 s.host.overflow

theorem judgeReadNotice_taken (tag : Byte) (s : State) : judgeReadNotice [] (taken tag s) =
    withHost { noticeGone s with
      slot := .reply { status := if s.host.notices.length = 32 then .full else .ok, tag, data := noticeAnswer s }
      out := [statusByte s] } s.link.counters s := by
  have hnotices : (taken tag s).host.notices = s.host.notices := rfl
  simp only [judgeReadNotice, dropNotice, noticeGone, noticeAnswer, hnotices]
  obtain _ | ⟨n, _ | ⟨m, rest⟩⟩ := s.host.notices
  · rfl
  · rfl
  · rfl

theorem execReadNotice_taken {tag : Byte} (h : Judges s) : exec (.readNotice [tag, 0#8]) s =
    .next (finish (taken tag s) (withHost { noticeGone s with
      slot := .reply { status := if s.host.notices.length = 32 then .full else .ok, tag, data := noticeAnswer s }
      out := [statusByte s] } s.link.counters s)) := by
  rw [← judgeReadNotice_taken]
  exact transact_taken (p := []) h rfl rfl

/-! ## READ-TABLE and READ-NEXT -/

/-- A READ-TABLE of good envelope is judged on the state with its slot BUSY, as any command is (R174). -/
theorem execReadTable_taken {tag c i1 i0 : Byte} (h : Judges s) : exec (.readTable [tag, 3#8, c, i1, i0]) s =
    .next (finish (taken tag s) (judgeReadTable [c, i1, i0] (taken tag s))) := by
  refine Eq.trans ?_ (transact_taken (len := 3) (l := 3#8) (p := [c, i1, i0]) h rfl rfl)
  change transactWith clearCursor 3 judgeReadTable _ s = transactWith id 3 judgeReadTable _ s
  unfold transactWith
  dsimp only
  split
  · rfl
  · cases s.host.slot <;> rfl

/-- The bytes of a reply that gives the records of `tb` from record `i`, four at most (R177). -/
def tableAnswer (tb : Table) (i : Nat) (s : State) : List Byte :=
  tableReply i (((tableRecords tb s).drop i).take 4) (decide ((tableRecords tb s).length ≤ i + 4))

/-- The cursor past those records. -/
def cursorPast (tb : Table) (i : Nat) (s : State) : Cursor :=
  { table := tb, next := i + min 4 ((tableRecords tb s).length - i)
    ended := decide ((tableRecords tb s).length ≤ i + 4) }

/-- The port of a READ-TABLE or READ-NEXT that reads table `tb` from record `i` (R177). -/
def readPort (tb : Table) (i : Nat) (tag : Byte) (s : State) : HostPort :=
  { answered { status := .ok, tag, data := tableAnswer tb i s } s with cursor := some (cursorPast tb i s) }

theorem readFrom_taken (tb : Table) (i : Nat) (tag : Byte) (s : State) :
    readFrom tb i (taken tag s) = withHost (readPort tb i tag s) s.link.counters s := by
  have hlast : (tableRecords tb s).length ≤ i + min 4 ((tableRecords tb s).length - i) ↔
      (tableRecords tb s).length ≤ i + 4 := by omega
  unfold readFrom
  simp only [tableRecords_taken, List.length_take, List.length_drop, hlast]
  rfl

/-- A READ-TABLE that is refused clears the cursor. -/
def clearedPort (st : Status) (tag : Byte) (s : State) : HostPort :=
  { answered { status := st, tag, data := [] } s with cursor := none }

theorem refuse_cleared (st : Status) (tag : Byte) (s : State) :
    refuse st (clearCursor (taken tag s)) = withHost (clearedPort st tag s) s.link.counters s := rfl

/-- What READ-TABLE gives for a known table, by the role and then by the index (R177). -/
theorem judgeReadTable_known {c i1 i0 tag : Byte} {tb : Table} (h : Table.ofCode c.toNat = some tb) :
    judgeReadTable [c, i1, i0] (taken tag s) =
      if tb.usedOn (role s) = false then withHost (clearedPort .wrongRole tag s) s.link.counters s
      else if (tableRecords tb s).length ≤ beNat [i1, i0] ∧ 0 < beNat [i1, i0] + (tableRecords tb s).length then
        withHost (clearedPort .range tag s) s.link.counters s
      else withHost (readPort tb (beNat [i1, i0]) tag s) s.link.counters s := by
  have hcode : Table.ofCode (fieldAt [c, i1, i0] 0 1) = some tb := by simpa [fieldAt, beNat] using h
  have hindex : fieldAt [c, i1, i0] 1 2 = beNat [i1, i0] := rfl
  have hrole : role (taken tag s) = role s := rfl
  simp only [judgeReadTable, hcode, hindex, hrole, tableRecords_taken, refuse_cleared, readFrom_taken]

theorem judgeReadTable_unknown {c i1 i0 tag : Byte} (h : Table.ofCode c.toNat = none) :
    judgeReadTable [c, i1, i0] (taken tag s) = withHost (clearedPort .range tag s) s.link.counters s := by
  have hcode : Table.ofCode (fieldAt [c, i1, i0] 0 1) = none := by simpa [fieldAt, beNat] using h
  simp only [judgeReadTable, hcode, refuse_cleared]

theorem execReadNext_taken {tag : Byte} (h : Judges s) : exec (.readNext [tag, 0#8]) s =
    .next (finish (taken tag s) (judgeReadNext [] (taken tag s))) := transact_taken (p := []) h rfl rfl

theorem judgeReadNext_unset (tag : Byte) (h : s.host.cursor = none) : judgeReadNext [] (taken tag s) =
    withHost (answered { status := .wrongState, tag, data := [] } s) s.link.counters s := by
  have hcursor : (taken tag s).host.cursor = none := h
  simp only [judgeReadNext, hcursor]
  rfl

theorem judgeReadNext_set {c : Cursor} (tag : Byte) (h : s.host.cursor = some c) : judgeReadNext [] (taken tag s) =
    if c.ended then
      withHost (answered { status := .ok, tag, data := tableReply c.next [] true } s) s.link.counters s
    else withHost (readPort c.table c.next tag s) s.link.counters s := by
  have hcursor : (taken tag s).host.cursor = some c := h
  simp only [judgeReadNext, hcursor, readFrom_taken]
  rfl

/-! ## What a quiet station is after a read -/

/-- The read changed the port's slot, cursor and output, and nothing else. -/
def ReadsPort (s u : State) : Prop := ∃ h : HostPort, u = withHost h s.link.counters s ∧
  h = { s.host with slot := h.slot, cursor := h.cursor, out := h.out }

theorem finish_readsPort {tag : Byte} (hu : ReadsPort s u) (k : Quiet s) : finish (taken tag s) u = { s with
    host.slot := (finish (taken tag s) u).host.slot
    host.cursor := (finish (taken tag s) u).host.cursor
    host.out := (finish (taken tag s) u).host.out } := by
  obtain ⟨h, rfl, hhost⟩ := hu
  rw [finish_withHost tag h _ k]
  simp only [withHost, ← hhost]

theorem judgeReadTable_readsPort (c i1 i0 tag : Byte) (s : State) :
    ReadsPort s (judgeReadTable [c, i1, i0] (taken tag s)) := by
  cases htable : Table.ofCode c.toNat with
  | none => exact ⟨_, judgeReadTable_unknown htable, rfl⟩
  | some tb =>
    rw [judgeReadTable_known htable]
    split
    · exact ⟨_, rfl, rfl⟩
    · split
      · exact ⟨_, rfl, rfl⟩
      · exact ⟨_, rfl, rfl⟩

theorem judgeReadNext_readsPort (tag : Byte) (s : State) : ReadsPort s (judgeReadNext [] (taken tag s)) := by
  cases hcursor : s.host.cursor with
  | none => exact ⟨_, judgeReadNext_unset tag hcursor, rfl⟩
  | some c =>
    rw [judgeReadNext_set tag hcursor]
    split
    · exact ⟨_, rfl, rfl⟩
    · exact ⟨_, rfl, rfl⟩

/-! ## The obligation -/

/-- READ-TABLE of a table known and used on the role: its index is refused past the records, but for index 0 of an
empty table (R177). -/
theorem readTable_known {c i1 i0 tag : Byte} {tb : Table} (htable : Table.ofCode c.toNat = some tb)
    (hrole : tb.usedOn (role s) = true) :
    ((tableRecords tb s).length ≤ beNat [i1, i0] → tableRecords tb s ≠ [] ∨ beNat [i1, i0] ≠ 0 →
      judgeReadTable [c, i1, i0] (taken tag s) = withHost (clearedPort .range tag s) s.link.counters s) ∧
    (beNat [i1, i0] < (tableRecords tb s).length ∨ tableRecords tb s = [] ∧ beNat [i1, i0] = 0 →
      judgeReadTable [c, i1, i0] (taken tag s) = withHost (readPort tb (beNat [i1, i0]) tag s) s.link.counters s) := by
  rw [judgeReadTable_known htable, if_neg (by simp [hrole])]
  constructor
  · intro hpast hne
    rw [← List.length_pos_iff] at hne
    exact if_pos ⟨hpast, by omega⟩
  · intro hin
    refine if_neg fun hout => ?_
    obtain hlt | ⟨hnil, hzero⟩ := hin
    · omega
    · simp [hnil, hzero] at hout

/-- Settles O60: each read is judged to a port of its own, which stands at the step's end. -/
theorem readsAnswer : Obligations.ReadsAnswer := by
  unfold Obligations.ReadsAnswer
  intro s tag h
  refine ⟨⟨_, execReadStatus_taken h, (finish_read rfl rfl rfl).1, fun k => finish_withHost tag _ _ k⟩,
    ⟨_, execReadCounters_taken h, ?kept⟩, ⟨_, execReadCounters_taken h, ?cleared⟩,
    fun o ho => ⟨_, execReadCounters_taken h, ?refused⟩,
    ⟨_, execReadNotice_taken h, (finish_read rfl rfl rfl).1, fun k => ?notice⟩,
    fun c i1 i0 => ⟨_, execReadTable_taken h, ?table⟩, ⟨_, execReadNext_taken h, ?next⟩⟩
  case kept =>
    rw [judgeReadCounters_zero]
    exact ⟨(finish_read rfl rfl rfl).1, by simp [withHost], finish_withHost tag _ _⟩
  case cleared =>
    rw [judgeReadCounters_one]
    exact ⟨(finish_read rfl rfl rfl).1, by simp [withHost], finish_withHost tag _ _⟩
  case refused =>
    rw [judgeReadCounters_refused tag s ho]
    exact ⟨(finish_read rfl rfl rfl).1, by simp [withHost]⟩
  case notice =>
    obtain ⟨hnotices, hoverflow, hint⟩ := noticeGone_facts s
    rw [finish_withHost tag _ _ k]
    exact ⟨hnotices, hoverflow, hint, rfl, rfl, rfl, rfl, rfl, rfl⟩
  case table =>
    refine ⟨fun hnone => finish_read (judgeReadTable_unknown hnone) rfl rfl, fun tb htable hrole => ?_,
      fun tb l i htable hrole hl hi => ?_, finish_readsPort (judgeReadTable_readsPort c i1 i0 tag s)⟩
    · exact finish_read ((judgeReadTable_known htable).trans (if_pos hrole)) rfl rfl
    · subst hl hi
      obtain ⟨hpast, hread⟩ := readTable_known (tag := tag) htable hrole
      exact ⟨fun hle hne => finish_read (hpast hle hne) rfl rfl, fun hin => finish_read (hread hin) rfl rfl⟩
  case next =>
    refine ⟨fun hnone => ?_, fun c l hcursor hl => ?_, finish_readsPort (judgeReadNext_readsPort tag s)⟩
    · obtain ⟨hreply, hkept⟩ := finish_read (judgeReadNext_unset tag hnone) rfl rfl
      exact ⟨hreply, hkept.trans hnone⟩
    · subst hl
      have hset := judgeReadNext_set tag hcursor
      refine ⟨fun hmore => finish_read (hset.trans (if_neg (by simp [hmore]))) rfl rfl, fun hend => ?_⟩
      obtain ⟨hreply, hkept⟩ := finish_read (hset.trans (if_pos hend)) rfl rfl
      exact ⟨hreply, hkept⟩

end Sys2Proof.Machine
end

section
/-! PROOF. The bits and bytes of line activity: start and end bit, stuff bits, whole bytes, the check (R19, R21,
R33). -/

namespace Sys2Proof.Machine

open Sys2Proof.Config

/-! ## Start and end bit -/

theorem dropWhile_recessive (m : Nat) (x : List Bool) :
    (List.replicate m true ++ false :: x).dropWhile (· = true) = false :: x := by
  induction m with
  | zero => rfl
  | succ m ih => simp [List.replicate_succ]

/-- Between the first and the last dominant bit stands the body of the activity (R19). -/
theorem stripEnds_body (m n : Nat) (body : List Bool) :
    stripEnds (List.replicate m true ++ false :: (body ++ false :: List.replicate n true)) = body := by
  have hback : (body ++ false :: List.replicate n true).reverse = List.replicate n true ++ false :: body.reverse := by
    simp
  simp only [stripEnds, dropWhile_recessive, List.drop_one, List.tail_cons, hback, List.reverse_reverse]

/-- The first dominant bit goes, with the recessive ones before it. -/
theorem dominant_after_start (l : List Bool) :
    (((l.dropWhile (· = true)).drop 1).filter fun b => !b) = (l.filter fun b => !b).drop 1 := by
  induction l with
  | nil => rfl
  | cons b l ih =>
    cases b with
    | true => simpa using ih
    | false => simp

/-- Activity of at most one dominant bit has no body. -/
theorem stripEnds_of_one {l : List Bool} (h : (l.filter fun b => !b).length ≤ 1) : stripEnds l = [] := by
  have hnone : (((l.dropWhile (· = true)).drop 1).filter fun b => !b) = [] := by
    rw [dominant_after_start, List.drop_eq_nil_iff]
    exact h
  have hall : ∀ b ∈ ((l.dropWhile (· = true)).drop 1).reverse, decide (b = true) = true := by
    simpa [List.filter_eq_nil_iff] using hnone
  simp only [stripEnds, List.dropWhile_eq_nil_iff.mpr hall, List.drop_nil, List.reverse_nil]

/-! ## Stuff bits -/

theorem unstuff_recessive (run k : Nat) (x : List Bool) :
    unstuff run (List.replicate k true ++ x) = List.replicate k true ++ unstuff (run + k) x := by
  induction k generalizing run with
  | zero => simp
  | succ k ih => simp [List.replicate_succ, unstuff, ih, Nat.add_assoc, Nat.add_comm 1]

/-- What the sender stuffs the receiver takes out again (R19). -/
theorem unstuff_stuff {run : Nat} (h : run ≤ 4) (x : List Bool) : unstuff run (stuff run x) = x := by
  induction x generalizing run with
  | nil => rfl
  | cons b x ih =>
    cases b with
    | true =>
      by_cases hrun : run = 4
      · simp [stuff, unstuff, hrun, ih]
      · simp [stuff, unstuff, hrun, ih (run := run + 1) (by omega)]
    | false => simp [stuff, unstuff, show run ≠ 5 by omega, ih]

/-! ## Whole bytes -/

/-- Eight binary digits give the number back. -/
theorem byte_digits {n : Nat} (h : n < 256) : 128 * (n / 2 ^ 7 % 2) + 64 * (n / 2 ^ 6 % 2) + 32 * (n / 2 ^ 5 % 2) +
    16 * (n / 2 ^ 4 % 2) + 8 * (n / 2 ^ 3 % 2) + 4 * (n / 2 ^ 2 % 2) + 2 * (n / 2 ^ 1 % 2) + n / 2 ^ 0 % 2 = n := by
  omega

theorem byte_bits (b : Byte) : 128 * (b.getLsbD 7).toNat + 64 * (b.getLsbD 6).toNat + 32 * (b.getLsbD 5).toNat +
    16 * (b.getLsbD 4).toNat + 8 * (b.getLsbD 3).toNat + 4 * (b.getLsbD 2).toNat + 2 * (b.getLsbD 1).toNat +
    (b.getLsbD 0).toNat = b.toNat := by
  have hdigit (i : Nat) : (b.getLsbD i).toNat = b.toNat / 2 ^ i % 2 := Nat.toNat_testBit b.toNat i
  simp only [hdigit]
  exact byte_digits b.isLt

theorem bitsBytes_byteBits (b : Byte) (x : List Bool) : bitsBytes (byteBits b ++ x) = b :: bitsBytes x := by
  rw [byteBits]
  simp only [List.cons_append, List.nil_append, bitsBytes, byte_bits, BitVec.ofNat_toNat, BitVec.setWidth_eq]

theorem bitsBytes_part {part : List Bool} (h : part.length < 8) : bitsBytes part = [] := by
  unfold bitsBytes
  split
  · simp only [List.length_cons] at h
    omega
  · rfl

theorem bitsBytes_bytesBits (l : List Byte) {part : List Bool} (h : part.length < 8) :
    bitsBytes (bytesBits l ++ part) = l := by
  induction l with
  | nil => exact bitsBytes_part h
  | cons b l ih => rw [bytesBits, List.flatMap_cons, List.append_assoc, bitsBytes_byteBits, ← bytesBits, ih]

theorem activityBytes_lineBits (l : List Byte) : activityBytes (lineBits l) = l := by
  have hbody : stripEnds (lineBits l) = stuff 0 (bytesBits l) := stripEnds_body 0 0 _
  have hbytes := bitsBytes_bytesBits l (part := []) (by simp)
  rw [activityBytes, hbody, unstuff_stuff (by omega)]
  simpa using hbytes

/-! ## The check -/

/-- One bit of the check of R21 over numbers. -/
def crcStep (c : Nat) (b : Bool) : Nat :=
  if b = decide (32768 ≤ c) then 2 * c % 65536 else (2 * c % 65536) ^^^ 0x1021

theorem crcBit_toNat (c : BitVec 16) (b : Bool) : (crcBit 0x1021#16 c b).toNat = crcStep c.toNat b := by
  have hmsb : c.msb = decide (32768 ≤ c.toNat) := BitVec.msb_eq_decide c
  have hshift : (c <<< 1).toNat = 2 * c.toNat % 65536 := by
    rw [BitVec.toNat_shiftLeft, Nat.shiftLeft_eq, Nat.mul_comm]
  unfold crcBit crcStep
  rw [hmsb]
  by_cases hb : b = decide (32768 ≤ c.toNat)
  · rw [if_pos hb, if_neg (by rw [hb, bne_self_eq_false]; exact Bool.false_ne_true), hshift]
  · rw [if_neg hb, if_pos (bne_iff_ne.mpr fun h => hb h.symm), BitVec.toNat_xor, hshift]
    rfl

theorem crc16_eq (l : List Byte) : crc16 l = (bytesBits l).foldl crcStep 0xFFFF :=
  (List.foldl_hom BitVec.toNat fun c b => (crcBit_toNat c b).symm).symm

end Sys2Proof.Machine
end

section
/-! PROOF. Settles O32: the judgement of the bytes of line activity, what is not judged, and what each fault counts
(R32, R33, R37, R40). -/

namespace Sys2Proof.Machine

open Sys2Proof.Config

variable {s t u : State}

/-! ## The judgement of the bytes -/

/-- The bytes of activity long enough for a frame, part by part (R20). -/
def framed (d0 d1 dest src code len : Byte) (payload : List Byte) (hi lo : Byte) : List Byte :=
  [d0, d1] ++ ([dest, src, code, len] ++ payload) ++ [hi, lo]

theorem framed_of_length {l : List Byte} (h : 8 ≤ l.length) :
    ∃ d0 d1 dest src code len payload hi lo, l = framed d0 d1 dest src code len payload hi lo := by
  obtain ⟨front, hi, lo, rfl⟩ : ∃ front hi lo, l = front ++ [hi, lo] := by
    obtain hnil | ⟨a, lo, rfl⟩ := l.eq_nil_or_concat
    · simp [hnil] at h
    · obtain hnil | ⟨b, hi, rfl⟩ := a.eq_nil_or_concat
      · simp [hnil] at h
      · exact ⟨b, hi, lo, by simp⟩
  match front, h with
  | d0 :: d1 :: dest :: src :: code :: len :: payload, _ =>
    exact ⟨d0, d1, dest, src, code, len, payload, hi, lo, by simp [framed]⟩

section
variable (d0 d1 dest src code len : Byte) (payload : List Byte) (hi lo : Byte)

theorem framed_length : (framed d0 d1 dest src code len payload hi lo).length = payload.length + 8 := by
  simp [framed]

/-- The parts that the receiver reads. -/
theorem framed_fields : fieldAt (framed d0 d1 dest src code len payload hi lo) 2 1 = dest.toNat ∧
    fieldAt (framed d0 d1 dest src code len payload hi lo) 3 1 = src.toNat ∧
    fieldAt (framed d0 d1 dest src code len payload hi lo) 4 1 = code.toNat ∧
    fieldAt (framed d0 d1 dest src code len payload hi lo) 5 1 = len.toNat ∧
    fieldAt (framed d0 d1 dest src code len payload hi lo) (payload.length + 6) 2 = 256 * hi.toNat + lo.toNat := by
  refine ⟨by simp [framed, fieldAt, beNat], by simp [framed, fieldAt, beNat], by simp [framed, fieldAt, beNat],
    by simp [framed, fieldAt, beNat], ?_⟩
  simp [framed, fieldAt, beNat]

theorem framed_covered : ((framed d0 d1 dest src code len payload hi lo).drop 2).take (payload.length + 4) =
    [dest, src, code, len] ++ payload := by
  simp [framed]

theorem framed_payload :
    ((framed d0 d1 dest src code len payload hi lo).drop 6).take payload.length = payload := by
  simp [framed]

end

theorem addrOf_iff {n : Nat} {a : Addr} : addrOf n = some a ↔ n = a.val := by
  unfold addrOf
  split
  · simp [Fin.ext_iff]
  · have := a.isLt
    simp
    omega

/-- Bytes that frame a payload are a valid frame where delimiter, destination, source, length and check are good
(R33). -/
theorem judgeActivity_framed_iff {d0 d1 dest src code len hi lo : Byte} {payload p : List Byte} {d c : Nat}
    {a : Addr} : judgeActivity (framed d0 d1 dest src code len payload hi lo) = .valid d a c p ↔
      payload.length ≤ 56 ∧ [d0, d1] = delimiter ∧ (dest.toNat < 32 ∨ dest.toNat = allByte) ∧
      len.toNat = payload.length ∧ 256 * hi.toNat + lo.toNat = crc16 ([dest, src, code, len] ++ payload) ∧
      dest.toNat = d ∧ src.toNat = a.val ∧ code.toNat = c ∧ payload = p := by
  have hlen := framed_length d0 d1 dest src code len payload hi lo
  obtain ⟨hdest, hsrc, hcode, hcount, hcheck⟩ := framed_fields d0 d1 dest src code len payload hi lo
  have hdelim : (framed d0 d1 dest src code len payload hi lo).take 2 = [d0, d1] := rfl
  have hcovered := framed_covered d0 d1 dest src code len payload hi lo
  have hpayload := framed_payload d0 d1 dest src code len payload hi lo
  unfold judgeActivity
  dsimp only
  rw [hlen, if_neg (by omega), show payload.length + 8 - 4 = payload.length + 4 by omega,
    show payload.length + 8 - 8 = payload.length by omega, show payload.length + 8 - 2 = payload.length + 6 by omega,
    hdest, hsrc, hcode, hcount, hcheck, hdelim, hcovered, hpayload]
  by_cases hbig : payload.length ≤ 56
  · rw [if_neg (by omega)]
    cases haddr : addrOf src.toNat with
    | none => simpa using fun _ _ _ _ _ _ h => absurd (addrOf_iff.mpr h) (by simp [haddr])
    | some b =>
      have hb := addrOf_iff.mp haddr
      dsimp only
      split
      next hgood =>
        obtain ⟨hdelim, hto, hcount, hcheck⟩ := hgood
        simp [hbig, hdelim, hto, hcount, hcheck, hb, Fin.ext_iff]
      next hbad =>
        simp only [reduceCtorEq, false_iff]
        rintro ⟨-, hdelim, hto, hcount, hcheck, -⟩
        exact hbad ⟨hdelim, hto, hcount, hcheck⟩
  · rw [if_pos (by omega)]
    simp [hbig]

theorem judgeActivity_runt (l : List Byte) : judgeActivity l = .runt ↔ l.length < 8 := by
  unfold judgeActivity
  dsimp only
  repeat' split
  all_goals simp [*]

theorem judgeActivity_giant (l : List Byte) : judgeActivity l = .giant ↔ 64 < l.length := by
  unfold judgeActivity
  dsimp only
  repeat' split
  all_goals simp [*]
  omega

theorem ofNat_eq_of_toNat {n : Nat} {b : Byte} (h : b.toNat = n) : BitVec.ofNat 8 n = b := by
  subst h
  simp

theorem toNat_ofNat_of_lt {n : Nat} (h : n < 256) : (BitVec.ofNat 8 n).toNat = n := by
  simpa using h

/-- What a valid frame is (R20, R21, R33). -/
theorem judgeActivity_valid (l : List Byte) (dest : Nat) (src : Addr) (code : Nat) (payload : List Byte) :
    judgeActivity l = .valid dest src code payload ↔
      (dest < 32 ∨ dest = 0x3F) ∧ code < 256 ∧ payload.length ≤ 56 ∧ ∃ (c : List Byte) (hi lo : Byte),
        c = [BitVec.ofNat 8 dest, BitVec.ofNat 8 src.val, BitVec.ofNat 8 code, BitVec.ofNat 8 payload.length] ++
          payload ∧
        l = [0xD5#8, 0x2B#8] ++ c ++ [hi, lo] ∧ 256 * hi.toNat + lo.toNat = crc16 c := by
  constructor
  case mp =>
    intro hvalid
    have hlong : 8 ≤ l.length := by
      by_contra hshort
      simp [(judgeActivity_runt l).mpr (by omega)] at hvalid
    obtain ⟨d0, d1, bdest, bsrc, bcode, len, p, hi, lo, rfl⟩ := framed_of_length hlong
    obtain ⟨hp, hdelim, hto, hcount, hcheck, hdest, hsrc, hcode, rfl⟩ := judgeActivity_framed_iff.mp hvalid
    rw [ofNat_eq_of_toNat hdest, ofNat_eq_of_toNat hsrc, ofNat_eq_of_toNat hcode, ofNat_eq_of_toNat hcount]
    refine ⟨hdest ▸ hto, hcode ▸ bcode.isLt, hp, _, hi, lo, rfl, ?_, hcheck⟩
    rw [framed, hdelim, delimiter]
  case mpr =>
    rintro ⟨hto, hcode, hp, c, hi, lo, rfl, rfl, hcheck⟩
    refine judgeActivity_framed_iff.mpr ⟨hp, rfl, ?_, ?_, hcheck, ?_, ?_, ?_, rfl⟩
    · rw [toNat_ofNat_of_lt (by omega)]; exact hto
    · exact toNat_ofNat_of_lt (by omega)
    · exact toNat_ofNat_of_lt (by omega)
    · exact toNat_ofNat_of_lt (src.isLt.trans (by decide))
    · exact toNat_ofNat_of_lt hcode

theorem judgeActivity_badCheck (l : List Byte) : judgeActivity l = .badCheck ↔ 8 ≤ l.length ∧ l.length ≤ 64 ∧
    ∀ dest src code payload, judgeActivity l ≠ .valid dest src code payload := by
  have hrunt := judgeActivity_runt l
  have hgiant := judgeActivity_giant l
  cases hj : judgeActivity l with
  | runt => simpa using fun h => absurd (hrunt.mp hj) (by omega)
  | giant => simpa using fun _ => hgiant.mp hj
  | badCheck => simpa [hj] using ⟨Nat.le_of_not_lt fun h => by simp [hj] at hrunt; omega, by simp [hj] at hgiant; omega⟩
  | valid d a c p => simp

/-! ## What is not judged -/

theorem inAttempt_iff (e : Engine) : inAttempt e = true ↔ (∃ q start l, e = .send q start l) ∨ ∃ q d, e = .jam q d := by
  cases e <;> simp [inAttempt]

theorem endsInJam_iff (bits : List Bool) : endsInJam bits = true ↔ ∀ b ∈ bits.reverse.take 9, b = false := by
  simp [endsInJam, jamTime]

theorem isValid_iff (a : Activity) : a.isValid = false ↔ ∀ dest src code payload, a ≠ .valid dest src code payload := by
  cases a <;> simp [Activity.isValid]

theorem ownFragment_iff (bits : List Bool) (lead : Nat) (s : State) : ownFragment bits lead s = true ↔
    ∃ e, s.link.ownUntil = some e ∧ (s.now + bits.length ≤ e + lead ∨
      (s.now < e + lead ∧ (∀ b ∈ bits.reverse.take 9, b = false) ∧
        ∀ dest src code payload, judgeActivity (activityBytes bits) ≠ .valid dest src code payload)) := by
  unfold ownFragment
  cases s.link.ownUntil with
  | none => simp
  | some e => simp [endsInJam_iff, ← isValid_iff, and_assoc]

theorem discards_iff (bits : List Bool) (lead : Nat) (s : State) : discards bits lead s = true ↔
    (∃ q start l, s.link.engine = .send q start l) ∨ (∃ q d, s.link.engine = .jam q d) ∨
    s.now < s.link.listenFrom + lead ∨ ownFragment bits lead s = true := by
  simp [discards, inAttempt_iff, beganEarlier, or_assoc]

theorem execLineActivityEnd_of_discarded {bits : List Bool} {lead : Nat} (hrec : receiving s = true)
    (hdis : discards bits lead s = true) : exec (.lineActivityEnd bits lead) s = .next (lineEnded bits lead s) := by
  simp [exec, execLineActivityEnd, hrec, hdis, lineEnded]

/-! ## What a fault counts -/

/-- The counters after a fault; those of a valid frame are not told here. -/
def faultCounted (a : Activity) (c : Counters) : Counters :=
  match a with
  | .runt => { c with runt := bump c.runt }
  | .giant => { c with giant := bump c.giant }
  | .badCheck => { c with badCheck := bump c.badCheck }
  | .valid _ _ _ _ => c

/-- Faulty activity moves its counter alone (R33, R40). -/
theorem receive_faulty {a : Activity} (h : a = .runt ∨ a = .giant ∨ a = .badCheck) (u : State) :
    receive a u = { u with link.counters := faultCounted a u.link.counters } := by
  obtain rfl | rfl | rfl := h
  · rfl
  · rfl
  · rfl

theorem lineEnded_idleFrom (bits : List Bool) (lead : Nat) (s : State) :
    (lineEnded bits lead s).link.idleFrom = (lineEnded bits lead s).now - 8 := rfl

theorem faulty_counters {bits : List Bool} {lead : Nat} {a : Activity} (h : a = .runt ∨ a = .giant ∨ a = .badCheck)
    (hu : u = finish (lineEnded bits lead s) (receive a (lineEnded bits lead s))) :
    u.link.counters = faultCounted a s.link.counters := by
  rw [hu, receive_faulty h]
  simp

/-- What the end of faulty activity leaves as it is, and the time from which the line is idle. -/
theorem faulty_kept {bits : List Bool} {lead : Nat} {a : Activity} (h : a = .runt ∨ a = .giant ∨ a = .badCheck)
    (hu : u = finish (lineEnded bits lead s) (receive a (lineEnded bits lead s))) :
    u.now = max s.now (s.now + (bits.length + 8 - lead)) ∧ u.link.idleFrom = u.now - 8 ∧ u.link.rx = s.link.rx ∧
    PeersKept s u ∧ RestKept s u := by
  subst hu
  rw [receive_faulty h]
  have hrest : RestKept s (finish (lineEnded bits lead s)
      { lineEnded bits lead s with link.counters := faultCounted a (lineEnded bits lead s).link.counters }) :=
    ((lineEnded_rest bits lead s).trans (link_rest _ _)).trans (finish_rest _ _)
  refine ⟨by simp, by simp [lineEnded_idleFrom], by simp, fun x hx => ?_, hrest⟩
  rw [(finish_follows _ _).peers x (by simpa [ownAddr] using hx)]
  simp [entryAt]

/-- Settles O32. -/
theorem lineErrorsCounted : Obligations.LineErrorsCounted := by
  unfold Obligations.LineErrorsCounted
  refine ⟨fun m n body => by rw [activityBytes, stripEnds_body], fun bits h => by
    rw [activityBytes, stripEnds_of_one h]; rfl, fun k x => ⟨?ones, ?run⟩,
    fun l part hpart => bitsBytes_bytesBits l hpart, activityBytes_lineBits, crc16_eq,
    fun l => ⟨judgeActivity_runt l, judgeActivity_giant l, judgeActivity_valid l, judgeActivity_badCheck l⟩,
    fun bits lead s hrec => ⟨fun hdis => ⟨_, execLineActivityEnd_of_taken hrec hdis, ?judged⟩, fun hdis => ?discarded,
      ?iff⟩⟩
  case ones => simpa [unstuff] using unstuff_recessive 0 k []
  case run =>
    rw [unstuff_recessive]
    by_cases hk : k = 5
    · simp [unstuff, hk]
    · simp [unstuff, hk]
  case judged =>
    refine ⟨fun hj => ?kept, fun hj => ?runt, fun hj => ?giant, fun hj => ?badCheck⟩
    case kept =>
      obtain ⟨hnow, hidle, hrx, hpeers, hsense, hport, hdurable⟩ := faulty_kept (s := s) hj rfl
      exact ⟨hnow, hidle, hrx, hpeers, hsense, hport, hdurable⟩
    case runt => rw [faulty_counters (s := s) (.inl hj) rfl, hj]; rfl
    case giant => rw [faulty_counters (s := s) (.inr (.inl hj)) rfl, hj]; rfl
    case badCheck => rw [faulty_counters (s := s) (.inr (.inr hj)) rfl, hj]; rfl
  case discarded => exact execLineActivityEnd_of_discarded hrec hdis
  case iff => rw [discards_iff, ownFragment_iff]

end Sys2Proof.Machine
end

section
/-! PROOF. The rotor records through a check: what presence and a measurement make of one record (R95 to R97), and what
a check makes of the table. -/

namespace Sys2Proof.Machine

open Sys2Proof.Config

variable {s t u : State}

/-! ## One record -/

/-- A rotor's record after its presence is judged at `now` (R97). -/
def Rotor.sensed (present : Bool) (now : Nat) (r : Rotor) : Rotor :=
  match r.state, present with
  | .absent, true => { r with state := .ok, low := 0, good := 0, skipEnd := some (now + ms 3000) }
  | .absent, false => r
  | .ok, false => { r with state := .absent, low := 0, good := 0, speed := 0 }
  | .failed, false => { r with state := .absent, low := 0, good := 0, speed := 0 }
  | .ok, true => r
  | .failed, true => r

/-- A rotor's record after a measurement that is taken (R95, R96). -/
def Rotor.measured (pulses expected : Nat) (r : Rotor) : Rotor :=
  let speed := 30 * pulses
  let low : Bool := speed * 100 < expected * 70
  match r.state with
  | .absent => r
  | .ok =>
    if low then
      if 3 ≤ r.low + 1 then { r with state := .failed, low := 0, good := 0, speed }
      else { r with low := r.low + 1, speed }
    else { r with low := 0, speed }
  | .failed =>
    if low then { r with good := 0, speed }
    else if 5 ≤ r.good + 1 then { r with state := .ok, low := 0, good := 0, speed }
    else { r with good := r.good + 1, speed }

theorem modify_eq_set {l : List Rotor} {i : Nat} {r : Rotor} {f : Rotor → Rotor} (h : l[i]? = some r) :
    l.modify i f = l.set i (f r) := by
  obtain ⟨hlt, rfl⟩ := List.getElem?_eq_some_iff.mp h
  exact List.modify_eq_set_getElem? .. |>.trans (by simp [hlt])

theorem set_self {l : List Rotor} {i : Nat} {r : Rotor} (h : l[i]? = some r) : l.set i r = l := by
  obtain ⟨hlt, rfl⟩ := List.getElem?_eq_some_iff.mp h
  exact List.set_getElem_self hlt

/-- Presence is judged in the record alone (R97). -/
theorem judgePresence_cool (i : Nat) (present : Bool) (expected : Nat) (s : State) :
    (judgePresence i present expected s).cool =
      { s.cool with rotors := s.cool.rotors.modify i (Rotor.sensed present s.now) } := by
  unfold judgePresence
  split
  case h_1 h => rw [List.modify_eq_self (by simpa using h)]
  case h_2 r h =>
    rw [modify_eq_set h]
    have hself := set_self h
    split <;> simp [Rotor.sensed, setRotor, *]

/-- A measurement is taken in the record alone (R96). -/
theorem measureRotor_cool (i pulses expected : Nat) (s : State) :
    (measureRotor i pulses expected s).cool =
      { s.cool with rotors := s.cool.rotors.modify i (Rotor.measured pulses expected) } := by
  unfold measureRotor
  split
  case h_1 h => rw [List.modify_eq_self (by simpa using h)]
  case h_2 r h =>
    rw [modify_eq_set h]
    have hself := set_self h
    dsimp only
    split
    · simp [Rotor.measured, *]
    · repeat' split
      all_goals simp [Rotor.measured, setRotor, *]
    · repeat' split
      all_goals simp [Rotor.measured, setRotor, *]

/-! ## The table -/

theorem rotorStateAt_modify (i : Nat) (f : Rotor → Rotor) (h : t.cool.rotors = s.cool.rotors.modify i f) :
    rotorStateAt i t = rotorStateAt i s ↔ ∀ r, s.cool.rotors[i]? = some r → (f r).state = r.state := by
  unfold rotorStateAt
  rw [h, List.getElem?_modify_eq]
  cases s.cool.rotors[i]? <;> simp

/-- A change of one record that leaves its state leaves the count of failed rotors. -/
theorem failedRotors_modify (i : Nat) (f : Rotor → Rotor) (h : t.cool.rotors = s.cool.rotors.modify i f)
    (hsame : rotorStateAt i t = rotorStateAt i s) : failedRotors t = failedRotors s := by
  have hstate := (rotorStateAt_modify i f h).mp hsame
  have hcount (l : List Rotor) : (l.filter fun r => r.state = .failed).length =
      (l.map (·.state)).count .failed := by
    rw [← List.countP_eq_length_filter, List.count, List.countP_map]
    rfl
  have hmap : t.cool.rotors.map (·.state) = s.cool.rotors.map (·.state) := by
    rw [h]
    refine List.ext_getElem? fun j => ?_
    rw [List.getElem?_map, List.getElem?_map, List.getElem?_modify]
    cases hj : s.cool.rotors[j]? with
    | none => simp
    | some r =>
      by_cases hij : i = j
      · subst hij
        simp [hstate r hj]
      · simp [hij]
  rw [failedRotors, failedRotors, hcount, hcount, hmap]

/-- The table after a pass that changes each record in turn, the clock standing: each record by its own index. -/
theorem rotors_pass {f : State → Nat → State} {g : Nat → Rotor → Rotor} {now : Nat}
    (hf : ∀ v i, v.now = now → (f v i).now = now ∧ (f v i).cool.rotors = v.cool.rotors.modify i (g i))
    (hs : s.now = now) (n : Nat) :
    ((List.range n).foldl f s).now = now ∧ ∀ i, ((List.range n).foldl f s).cool.rotors[i]? =
      if i < n then s.cool.rotors[i]?.map (g i) else s.cool.rotors[i]? := by
  induction n with
  | zero => simpa using hs
  | succ n ih =>
    obtain ⟨hnow, hrotors⟩ := ih
    rw [List.range_succ, List.foldl_append]
    obtain ⟨know, krotors⟩ := hf _ n hnow
    refine ⟨know, fun i => ?_⟩
    rw [List.foldl_cons, List.foldl_nil, krotors, List.getElem?_modify, hrotors]
    obtain hlt | rfl | hgt := lt_trichotomy i n
    · simp [hlt, show n ≠ i by omega, show i < n + 1 by omega]
    · simp
    · simp [show ¬ i < n by omega, show n ≠ i by omega, show ¬ i < n + 1 by omega]

end Sys2Proof.Machine
end

section
/-! PROOF. The target of a FAN station through the operations that a command's effect is made of, and what the end of
a step gives the own entry (R44, R54, R66, R74, R90). -/

namespace Sys2Proof.Machine

open Sys2Proof.Config

variable {s t u : State}

/-! ## The target of the view -/

/-- From JOIN on a FAN station's target is that of the view as it stands (R90). -/
def Targeted (s : State) : Prop := role s = .fan → ownRecorded s ≠ none → s.cool.target = fanTarget s

/-- The target is that of the view, or the demand has moved past the own entry, so that a change of it is still to be
handed on (R53, R90). -/
def TargetDue (s : State) : Prop :=
  role s = .fan → ∀ f, ownRecorded s = some f → f.demand = s.cool.demand → s.cool.target = fanTarget s

theorem OwnEntry.targeted (h : OwnEntry s) : Targeted s := h.target

theorem Targeted.due (h : Targeted s) : TargetDue s := fun hr f hf _ => h hr (by simp [hf])

/-- An entry without its age, which no target reads (R89). -/
def Entry.ageless : Entry → Entry
  | .empty => .empty
  | .known p _ f => .known p 0 f

theorem ageless_of_sameView {a b : Entry} (h : a.sameView b = true) : a.ageless = b.ageless := by
  cases a <;> cases b <;> simp_all [Entry.sameView, Entry.presence?, Entry.fields?, Entry.ageless]

theorem ageless_heardAt (now : Nat) (e : Entry) : (heardAt now e).ageless = e.ageless := by cases e <;> rfl

theorem ageless_fields {a b : Entry} (h : a.ageless = b.ageless) : a.fields? = b.fields? := by
  cases a <;> cases b <;> simp_all [Entry.fields?, Entry.ageless]

@[simp] theorem ageless_reads (e : Entry) : e.ageless.demand = e.demand ∧ e.ageless.isLostLine = e.isLostLine ∧
    e.ageless.failedRotors = e.failedRotors ∧ e.ageless.isMissingTray = e.isMissingTray := by
  rcases e with _ | ⟨_ | _ | _, _, _⟩ <;> simp [Entry.ageless, Entry.demand, Entry.isLostLine, Entry.failedRotors,
    Entry.isMissingTray]

/-- The target reads entries but for their ages, the own demand and the count of failed rotors (R89). -/
theorem fanTarget_of_entries (hentries : (targetEntries t).map Entry.ageless = (targetEntries s).map Entry.ageless)
    (hdemand : t.cool.demand = s.cool.demand) (hrotors : failedRotors t = failedRotors s) :
    fanTarget t = fanTarget s := by
  have hmax (es : List Entry) (d : Nat) : (es.map Entry.ageless).foldl (fun m e => max m e.demand) d =
      es.foldl (fun m e => max m e.demand) d := by simp [List.foldl_map]
  have hlost (es : List Entry) : (es.map Entry.ageless).any Entry.isLostLine = es.any Entry.isLostLine := by
    simp [List.any_map, Function.comp_def]
  have hsum (es : List Entry) : (((es.map Entry.ageless).map Entry.failedRotors).sum) =
      (es.map Entry.failedRotors).sum := by simp [Function.comp_def]
  have hmissing (es : List Entry) : ((es.map Entry.ageless).filter Entry.isMissingTray).length =
      (es.filter Entry.isMissingTray).length := by simp [List.filter_map, Function.comp_def]
  unfold fanTarget
  dsimp only
  rw [← hmax (targetEntries t), ← hlost (targetEntries t), ← hsum (targetEntries t), ← hmissing (targetEntries t),
    hentries, hmax, hlost, hsum, hmissing, hdemand, hrotors]

/-- What the target reads of the state. -/
def SameReach (s t : State) : Prop :=
  t.st.straps = s.st.straps ∧ (∀ a, (entryAt t a).ageless = (entryAt s a).ageless) ∧
  failedRotors t = failedRotors s ∧ t.cool.target = s.cool.target

theorem SameReach.recorded (h : SameReach s t) : ownRecorded t = ownRecorded s := by
  obtain ⟨hstraps, hentries, -, -⟩ := h
  rw [ownRecorded, ownAddr, hstraps, ← ownAddr, ageless_fields (hentries _), ownRecorded]

theorem SameReach.fanTarget (h : SameReach s t) (hdemand : t.cool.demand = s.cool.demand) :
    fanTarget t = fanTarget s := by
  have hrecorded := h.recorded
  obtain ⟨hstraps, hentries, hrotors, -⟩ := h
  have hpeers : (peerEntries t).map Entry.ageless = (peerEntries s).map Entry.ageless := by
    simp only [peerEntries, peers, ownAddr, hstraps, List.map_map]
    exact List.map_congr_left fun a _ => hentries a
  refine fanTarget_of_entries ?_ hdemand hrotors
  unfold targetEntries
  rw [hrecorded]
  split
  · exact hpeers
  · rfl

theorem Targeted.reach (h : Targeted s) (e : SameReach s t) (hdemand : t.cool.demand = s.cool.demand) :
    Targeted t := fun hr hown => by
  rw [e.2.2.2, e.fanTarget hdemand]
  exact h (by rwa [role, ← e.1]) (by rwa [← e.recorded])

/-- What the target reads, where no age moves either. -/
def SameAim (s t : State) : Prop :=
  t.st.straps = s.st.straps ∧ t.view.entries = s.view.entries ∧ t.cool.demand = s.cool.demand ∧
  t.cool.rotors = s.cool.rotors ∧ t.cool.target = s.cool.target

theorem SameAim.reach (h : SameAim s t) : SameReach s t :=
  ⟨h.1, fun a => by rw [entryAt, h.2.1, entryAt], by rw [failedRotors, h.2.2.2.1, failedRotors], h.2.2.2.2⟩

theorem Targeted.same (h : Targeted s) (e : SameAim s t) : Targeted t := h.reach e.reach e.2.2.1

theorem TargetDue.same (h : TargetDue s) (e : SameAim s t) : TargetDue t := fun hr f hf hd => by
  rw [e.2.2.2.2, e.reach.fanTarget e.2.2.1]
  exact h (by rwa [role, ← e.1]) f (by rwa [← e.reach.recorded]) (by rwa [← e.2.2.1])

theorem Targeted.ite {c : Prop} [Decidable c] (ht : Targeted t) (hu : Targeted u) :
    Targeted (if c then t else u) := by
  split
  · exact ht
  · exact hu

theorem TargetDue.ite {c : Prop} [Decidable c] (ht : TargetDue t) (hu : TargetDue u) :
    TargetDue (if c then t else u) := by
  split
  · exact ht
  · exact hu

theorem Targeted.foldl {α : Type} {f : State → α → State} (hf : ∀ v x, Targeted v → Targeted (f v x)) (l : List α)
    (h : Targeted s) : Targeted (l.foldl f s) := by
  induction l generalizing s with
  | nil => exact h
  | cons x l ih => exact ih (hf s x h)

theorem Sighted.recorded (h : Sighted s t) : ownRecorded t ≠ none ↔ ownRecorded s ≠ none := by
  simp only [← Option.isSome_iff_ne_none, ownRecorded, isSome_fields, sighted_ownAddr h, h.own]

/-- What follows the own entry keeps a target that is that of the view. -/
theorem Targeted.sighted (h : Targeted s) (k : Sighted s t) : Targeted t := fun hr hown =>
  k.targeted (h (by rwa [role, ← k.straps]) (k.recorded.mp hown))

theorem retarget_targeted (s : State) : Targeted (retarget s) := fun hr _ => by
  rw [retarget_target s (by simpa [role] using hr)]
  exact (fanTarget_same (by simp) (by simp) (by simp) (by simp)).symm

theorem reevaluate_targeted (h : Targeted s) : Targeted (reevaluate s) := h.sighted (reevaluate_sighted (.refl s))

/-! ## The hand-on of the own entry -/

theorem ownRecorded_some {f : Roll} : ownRecorded s = some f ↔ ∃ p h, entryAt s (ownAddr s) = .known p h f := by
  unfold ownRecorded
  cases entryAt s (ownAddr s) <;> simp [Entry.fields?]

theorem OwnCarried.recorded {f : Roll} (h : OwnCarried s) (hf : ownRecorded s = some f) : f = ownRoll s := by
  obtain ⟨p, heard, he⟩ := ownRecorded_some.mp hf
  exact h p heard f he

/-- Followed until it settles, the own entry brings the target that is due (R53, R90). -/
theorem propagate_targeted (fuel : Nat) (h : TargetDue s) : Targeted (propagate (fuel + 1) s) := by
  unfold propagate
  dsimp only
  split
  case isTrue hsame =>
    intro hr hown
    obtain ⟨f, hf⟩ := Option.ne_none_iff_exists'.mp hown
    have hcarried := (refresh_carries s).recorded hf
    refine (refresh_sighted (.refl s)).targeted (h (by simpa [role] using hr) f (hsame ▸ hf) ?_)
    rw [hcarried]
    simp [ownRoll]
  case isFalse =>
    exact (reevaluate_targeted (retarget_targeted _)).sighted (propagate_sighted fuel (.refl _))

theorem handOn_targeted (h : TargetDue s) : Targeted (handOn s) :=
  propagate_targeted 7 (TargetDue.ite (retarget_targeted s).due h)

/-! ## The departure's progress -/

@[simp] theorem changeState_target (st : StationState) (c : Cause) (s : State) :
    (changeState st c s).cool.target = s.cool.target := by
  unfold changeState
  dsimp only
  split <;> simp

theorem changeState_targeted (st : StationState) (c : Cause) (h : Targeted s) : Targeted (changeState st c s) :=
  h.same (by simp [SameAim])

theorem enterDeparted_targeted (h : Targeted s) : Targeted (enterDeparted s) := by
  refine h.same ⟨by simp, by simp, by simp, by simp, ?_⟩
  simp [enterDeparted]

theorem offerDepart_due (h : TargetDue s) : TargetDue (offerDepart s) := by
  have hoffer : Targeted (offerNormal .depart (offerChanged (handOn s))).1 :=
    (handOn_targeted h).same (by simp [SameAim])
  unfold offerDepart
  split
  · split <;> (rename_i heq; obtain rfl := offerNormal_of heq)
    · exact (enterDeparted_targeted hoffer).due
    · exact (hoffer.same (by simp [SameAim])).due
    · exact hoffer.due
  · exact h

theorem departProgress_due (s0 : State) (h : TargetDue s) : TargetDue (departProgress s0 s) := by
  unfold departProgress
  split
  · split
    · exact h
    · exact .ite h (offerDepart_due (h.same (by simp [SameAim])))
    · refine offerDepart_due (TargetDue.same (s := if giftEvent s0 s then giveChunk s else s) ?_ (by simp [SameAim]))
      exact .ite (h.same (by simp [SameAim])) h
    · exact offerDepart_due (h.same (by simp [SameAim]))
    · exact offerDepart_due h
  · exact h

/-! ## The end of a step -/

/-- The target that is due is taken in by the end of the step (R53, R90). -/
theorem finish_targeted (s0 : State) (h : TargetDue s) : Targeted (finish s0 s) := by
  have hasked : TargetDue (asked s0 s) := .ite (h.same (by simp [SameAim])) h
  have hhanded : Targeted (handed s0 s) := handOn_targeted (departProgress_due s0 hasked)
  have hsettled : Targeted (settled s0 s) := hhanded.sighted (settled_after_handed s0 s)
  rw [finish_settled]
  exact hsettled.same (by simp [SameAim])

theorem pulls_same (hst : t.st = s.st) (hcool : t.cool = s.cool) : pulls t = pulls s := by
  have hreceiving : receiving t = receiving s := by rw [receiving, hst, receiving]
  rw [pulls, hreceiving, role, failedRotors, hst, hcool, pulls, role, failedRotors]

theorem refresh_blocks (s : State) :
    (refresh s).budget.tent = tentative (refresh s) ∧ (refresh s).view.pull = pulls (refresh s) := by
  have hbase : (refresh s).budget.tent = tentative s ∧ (refresh s).view.pull = pulls s ∧
      (refresh s).budget.window = s.budget.window := by
    unfold refresh
    dsimp only
    split
    · exact ⟨rfl, rfl, rfl⟩
    · split <;> exact ⟨rfl, rfl, rfl⟩
  obtain ⟨htent, hpull, hwindow⟩ := hbase
  refine ⟨htent.trans ?_, hpull.trans (pulls_same (by simp) (by simp)).symm⟩
  simp [tentative, prospective, portAt, steadyClaim, role, portWeight, okRotors, hwindow]

theorem propagate_blocks (fuel : Nat) (s : State) : (propagate fuel s).budget.tent = tentative (propagate fuel s) ∧
    (propagate fuel s).view.pull = pulls (propagate fuel s) := by
  induction fuel generalizing s with
  | zero => exact refresh_blocks s
  | succ fuel ih =>
    unfold propagate
    dsimp only
    split
    · exact refresh_blocks s
    · exact ih _

/-- The increment and the pull stand as their blocks have them at the end of every step (R54, R74). -/
theorem finish_blocks (s0 s : State) : (finish s0 s).budget.tent = tentative (finish s0 s) ∧
    (finish s0 s).view.pull = pulls (finish s0 s) := by
  obtain ⟨v, hv⟩ := finish_handOn s0 s
  obtain ⟨htent, hpull⟩ : (handOn v).budget.tent = tentative (handOn v) ∧ (handOn v).view.pull = pulls (handOn v) :=
    propagate_blocks _ _
  rw [hv]
  constructor
  · simpa [tentative, prospective, portAt, steadyClaim, role, portWeight, okRotors] using htent
  · rw [pulls_same (s := handOn v) (by simp) (by simp)]
    simpa using hpull

/-- No ROLLCALL is due once the step's has been offered (R41). -/
theorem finish_announce (s0 s : State) : (finish s0 s).announce = false := by
  have hoffer (f : Roll) (v : State) : (offerRollcall f v).announce = v.announce := by
    unfold offerRollcall
    dsimp only
    (repeat' split) <;> rfl
  have hwrites (v : State) : (beginWrites v).announce = v.announce := by
    unfold beginWrites
    dsimp only
    (repeat' split) <;> rfl
  rw [finish_settled, hwrites, offerChanged]
  split
  · exact hoffer _ _
  · simp_all

/-- A step whose effect leaves the target due ends with the own entry, the claims, the pull and the target as their
blocks have them. -/
theorem finish_ownEntry (s0 : State) (h : TargetDue s) : OwnEntry (finish s0 s) where
  claim := finish_claim s0 s
  tent := (finish_blocks s0 s).1
  pull := (finish_blocks s0 s).2
  entry _ hf := (finish_carries s0 s).recorded hf
  announced := finish_announce s0 s
  target := finish_targeted s0 h

/-- The same of a step that has announced a change outside DEPARTING, as JOIN does. -/
theorem finish_ownEntry_announced (s0 : State) (hd : s.st.state ≠ .departing) (ha : s.announce = true) :
    OwnEntry (finish s0 s) where
  claim := finish_claim s0 s
  tent := (finish_blocks s0 s).1
  pull := (finish_blocks s0 s).2
  entry _ hf := (finish_carries s0 s).recorded hf
  announced := finish_announce s0 s
  target hr _ := finish_target s0 hd ha (by simpa [role] using hr)

end Sys2Proof.Machine
end

section
/-! PROOF. What the effects of the commands leave of what a FAN station's target reads (R53, R89, R90). -/

namespace Sys2Proof.Machine

open Sys2Proof.Config

variable {s t u : State}

/-! ## Operations that leave what the target reads -/

theorem SameAim.trans (h : SameAim s u) (k : SameAim u t) : SameAim s t :=
  ⟨k.1.trans h.1, k.2.1.trans h.2.1, k.2.2.1.trans h.2.2.1, k.2.2.2.1.trans h.2.2.2.1, k.2.2.2.2.trans h.2.2.2.2⟩

theorem SameAim.ite {c : Prop} [Decidable c] (ht : SameAim s t) (hu : SameAim s u) :
    SameAim s (if c then t else u) := by
  split
  · exact ht
  · exact hu

theorem SameAim.refl (s : State) : SameAim s s := ⟨rfl, rfl, rfl, rfl, rfl⟩

theorem changeState_aim (x : StationState) (c : Cause) (s : State) : SameAim s (changeState x c s) := by simp [SameAim]

theorem enterActive_aim (s : State) : SameAim s (enterActive s) :=
  (changeState_aim .active .joined s).trans (by simp [SameAim, enterActive])

theorem isolate_aim (c : Cause) (s : State) : SameAim s (isolate c s) := by
  have hchanged : SameAim s (changeState .isolated c { s with st.drops := 0 }) :=
    SameAim.trans (by simp [SameAim]) (changeState_aim _ _ { s with st.drops := 0 })
  unfold isolate
  split
  · exact hchanged
  · exact hchanged
  all_goals exact .refl s

theorem addressClash_aim (s : State) : SameAim s (addressClash s) := by
  unfold addressClash
  split
  · exact .refl s
  · exact SameAim.trans (by simp [SameAim]) ((isolate_aim .addressClash { s with st.clash := true }).trans
      (by simp [SameAim]))

theorem enterDeparting_aim (c : Cause) (b : Bool) (s : State) : SameAim s (enterDeparting c b s) := by
  refine (changeState_aim .departing c s).trans ?_
  unfold enterDeparting
  dsimp only
  split
  · simp [SameAim]
  · split <;> simp [SameAim]

theorem shutdownRole_aim (s : State) : SameAim s (shutdownRole s) := by
  unfold shutdownRole
  split <;> simp [SameAim]

theorem enterShutdown_aim (s : State) : SameAim s (enterShutdown s) := by
  refine (shutdownRole_aim s).trans ?_
  unfold enterShutdown
  dsimp only
  split
  · exact enterDeparting_aim _ _ _
  · exact enterDeparting_aim _ _ _
  · exact enterDeparting_aim _ _ _
  · exact .ite (by simp [SameAim]) (.refl _)
  · exact SameAim.trans (by simp [SameAim]) (changeState_aim _ _ { shutdownRole s with link := _ })
  all_goals exact .refl _

theorem stepDown_aim (s : State) : SameAim s (stepDown s) := by
  refine ⟨by simp, by simp, by simp, by simp, ?_⟩
  unfold stepDown setDuty
  dsimp only
  (repeat' split) <;> simp

theorem kick_aim (h : SameAim s u) : SameAim s (kick u) := h.trans (by simp [SameAim])

theorem countDrop_aim (h : SameAim s u) : SameAim s (countDrop u) := by
  have hcounted : SameAim s { u with st.drops := u.st.drops + 1 } := h
  exact .ite (hcounted.trans (isolate_aim _ _)) hcounted

theorem dropFrame_aim (q : TxQueue) (h : SameAim s u) : SameAim s (dropFrame q u) := by
  unfold dropFrame
  split
  · exact kick_aim (countDrop_aim h)
  · exact kick_aim (countDrop_aim (h.trans (by simp [SameAim])))

theorem endJam_aim (q : Option TxQueue) (s : State) : SameAim s (endJam q s) := by
  unfold endJam
  split
  · simp [SameAim]
  · exact .ite (by simp [SameAim, backOff]) (dropFrame_aim _ (.refl s))

theorem frameSent_aim (q : TxQueue) (s : State) : SameAim s (frameSent q s) := by
  unfold frameSent
  split
  · simp [SameAim]
  · dsimp only
    split <;> simp [SameAim]

theorem recheck_aim (s : State) : SameAim s (recheck s) := by
  unfold recheck
  split
  · simp [SameAim]
  · (repeat' split) <;> simp [SameAim]

theorem deliver_aim (dest : Nat) (src : Addr) (code : Nat) (p : List Byte) (s : State) :
    SameAim s (deliver dest src code p s) := by
  unfold deliver offerReceived
  (repeat' split) <;> simp [SameAim]

/-! ## Changes of the view -/

theorem viewChanged_targeted (p : Addr) (s : State) : Targeted (viewChanged p s) := by
  unfold viewChanged
  split
  case isTrue => exact (retarget_targeted (reevaluate s)).same (by simp [SameAim])
  case isFalse hown => exact fun _ h => absurd (Option.ne_none_iff_isSome.mp h) hown

/-- A change of an entry, but for its age, is a view change, after which the target is that of the view (R53, R90). -/
theorem changeEntry_targeted {p : Addr} {e : Entry} {notice : State → State} (hnotice : ∀ v, SameAim v (notice v))
    (h : Targeted s) : Targeted (changeEntry p e notice s) := by
  unfold changeEntry
  dsimp only
  split
  case isTrue hsame =>
    have hset : Targeted (setEntry p e s) := by
      refine h.reach ⟨rfl, fun a => ?_, rfl, rfl⟩ rfl
      by_cases ha : p = a
      · subst ha
        simpa [entryAt] using (ageless_of_sameView hsame).symm
      · have hne : p.val ≠ a.val := Fin.val_ne_of_ne ha
        simp [entryAt, hne]
    exact hset.same (hnotice _)
  case isFalse => exact viewChanged_targeted p _

theorem refreshAge_targeted (a : Addr) (h : Targeted s) : Targeted (refreshAge a s) := by
  refine h.reach ⟨by simp, fun b => ?_, by simp [failedRotors], by simp⟩ (by simp)
  rw [entryAt_refreshAge]
  split
  case isTrue hb => rw [hb, ageless_heardAt]
  case isFalse => rfl

theorem peerHeard_targeted (a : Addr) (h : Targeted s) : Targeted (peerHeard a s) := by
  have hheard := (refreshAge_targeted a h).same (t := { refreshAge a s with
    st.silence := some ((refreshAge a s).now + ms 2000), st.silenceArmed := anyPeerPresent (refreshAge a s) })
    (by simp [SameAim])
  exact .ite (hheard.sighted (enterJoining_sighted .peerHeard (.refl _))) hheard

theorem receive_targeted (a : Activity) (h : Targeted s) : Targeted (receive a s) := by
  unfold receive
  split
  · exact h.same (by simp [SameAim])
  · exact h.same (by simp [SameAim])
  · exact h.same (by simp [SameAim])
  · exact .ite (h.same (addressClash_aim s)) ((peerHeard_targeted _ h).same (deliver_aim _ _ _ _ _))

end Sys2Proof.Machine
end

section
/-! PROOF. The target through the sample, the rotor check and the station's changes of state (R53, R90). -/

namespace Sys2Proof.Machine

open Sys2Proof.Config

variable {s t u : State}

/-! ## Effects that move the demand before the own entry follows -/

/-- The own entry carries the demand that the target was made for (R44, R90). -/
theorem OwnEntry.due (h : OwnEntry s) (hstraps : t.st.straps = s.st.straps)
    (hentries : t.view.entries = s.view.entries) (hrotors : t.cool.rotors = s.cool.rotors)
    (htarget : t.cool.target = s.cool.target) : TargetDue t := by
  have hown : ownRecorded t = ownRecorded s := by simp only [ownRecorded, entryAt, ownAddr, hstraps, hentries]
  intro hr f hf hd
  rw [hown] at hf
  have hcarried : f.demand = s.cool.demand := by rw [h.entry f hf]; rfl
  exact h.targeted.due.same ⟨hstraps, hentries, hd.symm.trans hcarried, hrotors, htarget⟩ hr f (hown ▸ hf) hd

theorem settingWritten_due (n : Nat) (q : Settings) (h : OwnEntry s) :
    TargetDue (settingWritten n { s with st.settings := q }) := by
  unfold settingWritten
  split <;> exact h.due rfl rfl rfl rfl

theorem forceFans_due (b : Bool) (h : OwnEntry s) : TargetDue (forceFans b s) :=
  .ite (retarget_targeted _).due (h.due rfl rfl rfl rfl)

/-- Readings and their judgement leave the rotors and the target. -/
theorem sampleJudged_table (r : Sensors) (s : State) : (sampleJudged r s).st.straps = s.st.straps ∧
    (sampleJudged r s).view.entries = s.view.entries ∧ (sampleJudged r s).cool.rotors = s.cool.rotors ∧
    (sampleJudged r s).cool.target = s.cool.target := by
  have hjudge (v : State) : (judgeThermal v).cool.rotors = v.cool.rotors ∧
      (judgeThermal v).cool.target = v.cool.target := by
    unfold judgeThermal
    (repeat' split) <;> simp
  have hread (v : State) : (takeReadings r v).cool.rotors = v.cool.rotors ∧
      (takeReadings r v).cool.target = v.cool.target := by
    unfold takeReadings
    dsimp only
    (repeat' split) <;> simp [updateDemand]
  refine ⟨by simp, by simp [sampleJudged, updateCounts], ?_, ?_⟩
  · rw [sampleJudged, (hjudge _).1]
    exact (hread _).1
  · rw [sampleJudged, (hjudge _).2]
    exact (hread _).2

theorem takeSample_due (r : Sensors) (h : OwnEntry s) : TargetDue (takeSample r s) := by
  obtain ⟨hstraps, hentries, hrotors, htarget⟩ := sampleJudged_table r s
  have hentered : SameAim (sampleJudged r s) (sampleEntered r s) := .ite (enterShutdown_aim _) (.refl _)
  have haim : SameAim (sampleJudged r s) (supplySample r.loadCode.toNat (sampleEntered r s)) :=
    hentered.trans (by simp [SameAim])
  obtain ⟨kstraps, kentries, -, krotors, ktarget⟩ := haim
  rw [takeSample_eq]
  exact .ite (retarget_targeted _).due (h.due (kstraps.trans hstraps) (kentries.trans hentries)
    (krotors.trans hrotors) (ktarget.trans htarget))

/-! ## The rotor check -/

/-- A change of a rotor's state recomputes the target; any other change of a record leaves it (R90, R98). -/
theorem rotorEvent_targeted {i : Nat} {f : State → State} (g : Rotor → Rotor) (h : Targeted s)
    (hstraps : (f s).st.straps = s.st.straps) (hentries : (f s).view.entries = s.view.entries)
    (hcool : (f s).cool = { s.cool with rotors := s.cool.rotors.modify i g }) : Targeted (rotorEvent i f s) := by
  unfold rotorEvent
  dsimp only
  split
  case isTrue hsame =>
    refine h.reach ⟨hstraps, fun a => by rw [entryAt, hentries, entryAt], ?_, by rw [hcool]⟩ (by rw [hcool])
    exact failedRotors_modify i g (by rw [hcool]) hsame
  case isFalse =>
    exact (reevaluate_targeted (retarget_targeted _)).sighted (propagate_sighted rounds (.refl _))

theorem checkRotors_targeted (r : RotorPins) (h : Targeted s) : Targeted (checkRotors r s) := by
  refine .foldl (fun v i hv => ?_) _ (.foldl (fun v i hv => ?_) _ (h.same (by simp [SameAim])))
  · split
    · exact hv
    · exact .ite hv (rotorEvent_targeted _ hv (by simp) (by simp) (measureRotor_cool _ _ _ _))
  · exact rotorEvent_targeted _ hv (by simp) (by simp) (judgePresence_cool _ _ _ _)

/-! ## The station's state -/

theorem resendAll_targeted (h : Targeted s) : Targeted (resendAll s) := h.same (by simp [SameAim])

theorem enterJoining_targeted (c : Cause) (h : Targeted s) : Targeted (enterJoining c s) :=
  h.sighted (enterJoining_sighted c (.refl s))

theorem rejoin_targeted (c : Cause) (h : Targeted s) : Targeted (rejoin c s) := by
  have hcleared : Targeted { s with dep.kind := .none, dep.zoningAsked := false, dep.step := none, dep.timer := none } := h
  exact resendAll_targeted (.ite (changeState_targeted .isolated c (Targeted.same hcleared ⟨rfl, rfl, rfl, rfl, rfl⟩))
    (enterJoining_targeted c (Targeted.same hcleared ⟨rfl, rfl, rfl, rfl, rfl⟩)))

theorem reportExhausted_targeted (h : Targeted s) : Targeted (reportExhausted s) := h.same (by simp [SameAim])

theorem judgedOpen_targeted (h : Targeted s) : Targeted (judgedOpen s) := by
  have hopen : Targeted { s with st.ejectMeasure := none, st.ejectOpen := true } := h
  unfold judgedOpen
  dsimp only
  split
  · exact hopen.same (enterDeparting_aim _ _ _)
  · exact hopen.same (enterDeparting_aim _ _ _)
  · exact .ite hopen hopen
  all_goals exact hopen

theorem judgedClosed_targeted (h : Targeted s) : Targeted (judgedClosed s) := by
  have hclosed : Targeted { s with st.ejectMeasure := none, st.ejectOpen := false } := h
  unfold judgedClosed
  dsimp only
  split
  · exact .ite hclosed hclosed
  · exact .ite hclosed (rejoin_targeted _ hclosed)
  all_goals exact hclosed

theorem joiningOver_targeted (h : Targeted s) : Targeted (joiningOver s) := by
  unfold joiningOver
  split
  · exact h.same (enterActive_aim s)
  · exact h.same (enterDeparting_aim _ _ s)
  · exact h.same (enterDeparting_aim _ _ s)

theorem windowOver_targeted (h : Targeted s) : Targeted (windowOver s) := by
  have hevaluated := reevaluate_targeted h
  exact .ite (hevaluated.same (recheck_aim _)) hevaluated

theorem restart_targeted (s : State) : Targeted (restart s) := by
  rw [restart_eq]
  exact Targeted.same (retarget_targeted (restartJoined s)) (by simp [SameAim])

end Sys2Proof.Machine
end

section
/-! PROOF. The target through the host's commands and the frames of the view, and what an outcome gives the own entry
(R44, R53, R90). -/

namespace Sys2Proof.Machine

open Sys2Proof.Config

variable {s t u : State}

/-! ## Host commands that leave what the target reads -/

theorem reply_aim {st : Status} {d : List Byte} (h : SameAim s u) : SameAim s (reply st d u) :=
  h.trans (by simp [SameAim, reply])

theorem refuse_aim {st : Status} (h : SameAim s u) : SameAim s (refuse st u) := h.trans (by simp [SameAim, refuse])

theorem onPort_aim {b : Bool} {n : Nat} {act : Port → State → State} (hact : ∀ p, SameAim s (act p s)) :
    SameAim s (onPort b n act s) := by
  unfold onPort
  refine .ite (refuse_aim (.refl s)) (.ite (refuse_aim (.refl s)) ?_)
  split
  · exact refuse_aim (.refl s)
  · exact hact _

theorem judgeRequest_aim (p : List Byte) (s : State) : SameAim s (judgeRequest p s) :=
  onPort_aim fun q => .ite (refuse_aim (.refl s)) (.ite (reply_aim (by simp [SameAim])) (refuse_aim (.refl s)))

theorem judgeCancel_aim (p : List Byte) (s : State) : SameAim s (judgeCancel p s) :=
  onPort_aim fun q => .ite (reply_aim (by simp [SameAim])) (refuse_aim (.refl s))

theorem judgeRelease_aim (p : List Byte) (s : State) : SameAim s (judgeRelease p s) := by
  refine onPort_aim fun q => ?_
  split
  · exact reply_aim (by simp [SameAim])
  · exact reply_aim (by simp [SameAim])
  · exact reply_aim (by simp [SameAim])
  all_goals exact refuse_aim (.refl s)

theorem setNode_aim (n : Nat) (node : Option Nat) (q : Port) (s : State) : SameAim s (setNode n node q s) := by
  unfold setNode filterReply
  split <;> exact reply_aim (by simp [SameAim])

theorem judgeAttach_aim (p : List Byte) (s : State) : SameAim s (judgeAttach p s) :=
  onPort_aim fun q => .ite (refuse_aim (.refl s)) (.ite (setNode_aim _ _ q s) (refuse_aim (.refl s)))

theorem judgeDetach_aim (p : List Byte) (s : State) : SameAim s (judgeDetach p s) :=
  onPort_aim fun q => .ite (setNode_aim _ _ q s) (refuse_aim (.refl s))

theorem judgeInstall_aim (p : List Byte) (s : State) : SameAim s (judgeInstall p s) :=
  .ite (refuse_aim (.refl s)) (.ite (refuse_aim (.refl s)) (.ite (refuse_aim (.refl s)) (by simp [SameAim])))

theorem judgeWithdraw_aim (p : List Byte) (s : State) : SameAim s (judgeWithdraw p s) :=
  .ite (refuse_aim (.refl s)) (.ite (refuse_aim (.refl s)) (by simp [SameAim]))

theorem judgeReclaim_aim (p : List Byte) (s : State) : SameAim s (judgeReclaim p s) := by
  unfold judgeReclaim
  dsimp only
  split
  · exact refuse_aim (.refl s)
  · exact .ite (by simp [SameAim]) (refuse_aim (.refl s))

theorem onDraft_aim {act : State → State} (hact : SameAim s (act s)) : SameAim s (onDraft act s) :=
  .ite (refuse_aim (.refl s)) (.ite (refuse_aim (.refl s)) hact)

theorem draftReply_aim (h : SameAim s u) : SameAim s (draftReply u) := reply_aim h

theorem addMember_aim (e : ZEntry) (s : State) : SameAim s (addMember e s) :=
  .ite (refuse_aim (.refl s)) (.ite (draftReply_aim (.refl s)) (.ite (refuse_aim (.refl s))
    (draftReply_aim (by simp [SameAim]))))

theorem removeMember_aim (e : ZEntry) (s : State) : SameAim s (removeMember e s) :=
  .ite (refuse_aim (.refl s)) (draftReply_aim (by simp [SameAim]))

theorem publish_aim (s : State) : SameAim s (publish s) := by
  unfold publish
  dsimp only
  split <;> simp [SameAim]

theorem judgePublish_aim (p : List Byte) (s : State) : SameAim s (judgePublish p s) :=
  .ite (refuse_aim (.refl s)) (.ite (refuse_aim (.refl s)) (.ite (refuse_aim (.refl s)) (.ite (refuse_aim (.refl s))
    ((reply_aim (.refl s)).trans (publish_aim _)))))

theorem readFrom_aim (tb : Table) (i : Nat) (s : State) : SameAim s (readFrom tb i s) := reply_aim (by simp [SameAim])

theorem judgeReadTable_aim (p : List Byte) (s : State) : SameAim s (judgeReadTable p s) := by
  have hclear : SameAim s (refuse .range (clearCursor s)) := refuse_aim (by simp [SameAim])
  unfold judgeReadTable
  dsimp only
  split
  · exact hclear
  · exact .ite (refuse_aim (by simp [SameAim])) (.ite hclear (readFrom_aim _ _ s))

theorem judgeReadNext_aim (p : List Byte) (s : State) : SameAim s (judgeReadNext p s) := by
  unfold judgeReadNext
  split
  · exact refuse_aim (.refl s)
  · exact .ite (reply_aim (.refl s)) (readFrom_aim _ _ s)

theorem judgeReadNotice_aim (p : List Byte) (s : State) : SameAim s (judgeReadNotice p s) :=
  reply_aim (by simp [SameAim])

theorem judgeReadCounters_aim (p : List Byte) (s : State) : SameAim s (judgeReadCounters p s) := by
  unfold judgeReadCounters
  split
  · exact reply_aim (.refl s)
  · exact reply_aim (by simp [SameAim])
  · exact refuse_aim (.refl s)

theorem judgeDepart_aim (p : List Byte) (s : State) : SameAim s (judgeDepart p s) := by
  unfold judgeDepart
  split
  · exact (reply_aim (.refl s)).trans (enterDeparting_aim _ _ _)
  · exact (reply_aim (.refl s)).trans (enterDeparting_aim _ _ _)
  · exact reply_aim (by simp [SameAim])
  all_goals exact refuse_aim (.refl s)

/-! ## Host commands that move it -/

theorem TargetDue.answer {st : Status} {d : List Byte} (h : TargetDue s) : TargetDue (reply st d s) :=
  h.same (reply_aim (.refl s))

theorem judgeSet_due (p : List Byte) (h : OwnEntry s) : TargetDue (judgeSet p s) := by
  have hrefused (st : Status) : TargetDue (refuse st s) := h.targeted.due.same (refuse_aim (.refl s))
  unfold judgeSet
  dsimp only
  refine .ite (hrefused _) (.ite (hrefused _) ?_)
  split
  · exact hrefused _
  · exact (settingWritten_due _ _ h).answer

theorem judgeForce_due (p : List Byte) (h : OwnEntry s) : TargetDue (judgeForce p s) := by
  unfold judgeForce
  split
  · exact (forceFans_due _ h).answer
  · exact (forceFans_due _ h).answer
  · exact h.targeted.due.same (refuse_aim (.refl s))

theorem judgeForget_targeted (p : List Byte) (h : Targeted s) : Targeted (judgeForget p s) := by
  have hrefused (st : Status) : Targeted (refuse st s) := h.same (refuse_aim (.refl s))
  have hforgotten (a : Addr) : Targeted (changeEntry a .empty id (reply .ok [] s)) :=
    changeEntry_targeted .refl (h.same (reply_aim (.refl s)))
  unfold judgeForget
  split
  · exact hrefused _
  · refine .ite (hrefused _) ?_
    split
    · exact hrefused _
    · exact hrefused _
    · exact hforgotten _
    · exact hforgotten _

theorem judgeRestart_targeted (p : List Byte) (h : Targeted s) : Targeted (judgeRestart p s) := by
  have hrefused (st : Status) : Targeted (refuse st s) := h.same (refuse_aim (.refl s))
  unfold judgeRestart
  split
  · exact restart_targeted _
  · exact restart_targeted _
  · exact .ite (hrefused _) (restart_targeted _)
  all_goals exact hrefused _

theorem joined_ownEntry (s0 s : State) : OwnEntry (finish s0 (reportExhausted (joinUp s))) :=
  finish_ownEntry_announced s0 (by simp [(joinUp_st s).1]) (by simpa using (joinUp_own s).2)

theorem judgeJoin_ownEntry (s0 : State) (p : List Byte) (h : Targeted s) : OwnEntry (finish s0 (judgeJoin p s)) := by
  have hrefused (st : Status) : OwnEntry (finish s0 (refuse st s)) :=
    finish_ownEntry s0 (h.same (refuse_aim (.refl s))).due
  unfold judgeJoin
  split
  · exact hrefused _
  · split
    · exact joined_ownEntry _ _
    · split
      · exact hrefused _
      · exact finish_ownEntry s0 (reportExhausted_targeted (rejoin_targeted _ (h.same (reply_aim (.refl s))))).due
    all_goals exact hrefused _

/-! ## Frames of the view -/

theorem arrived_aim (src : Addr) (was : Entry) (f : Roll) (s : State) : SameAim s (arrived src was f s) := by
  unfold arrived
  split
  · simp [SameAim]
  · exact .ite (.refl s) (by simp [SameAim])
  · simp [SameAim]
  · simp [SameAim]

theorem takeRollcall_targeted (src : Addr) (p : List Byte) (h : Targeted s) : Targeted (takeRollcall src p s) := by
  unfold takeRollcall
  split
  · exact h
  · exact changeEntry_targeted (arrived_aim _ _ _) h

theorem takeDrop_targeted (src : Addr) (h : Targeted s) : Targeted (takeDrop src s) := by
  unfold takeDrop
  split
  · exact h
  · exact .ite (changeEntry_targeted .refl h) h

theorem takeDepart_targeted (src : Addr) (h : Targeted s) : Targeted (takeDepart src s) := by
  unfold takeDepart
  split
  · exact h
  · exact h
  · exact changeEntry_targeted (fun v => by simp [SameAim]) h

theorem loseEntry_targeted (p : Addr) (h : Targeted s) : Targeted (loseEntry p s) := by
  unfold loseEntry
  split
  · exact h
  · exact changeEntry_targeted (fun v => by simp [SameAim]) h

/-! ## Outcomes -/

@[simp] theorem reach_announce (d : Nat) (s : State) : (reach d s).announce = s.announce := rfl

@[simp] theorem shiftStatus_announce (s : State) : (shiftStatus s).announce = s.announce := rfl

@[simp] theorem refuse_announce (st : Status) (s : State) : (refuse st s).announce = s.announce := by
  unfold refuse answer
  split <;> rfl

/-- Every state that an outcome gives has its own entry, claims, pull and target as their blocks have them. -/
def OutOwn (o : Out) : Prop := ∀ t, o = .next t → OwnEntry t

theorem next_own (h : OwnEntry s) : OutOwn (.next s) := by
  rintro t ⟨⟩
  exact h

theorem outOwn_ite {c : Prop} [Decidable c] {o p : Out} (ho : OutOwn o) (hp : OutOwn p) :
    OutOwn (if c then o else p) := by
  split
  · exact ho
  · exact hp

theorem stepOf_own {act : State → State} (h : TargetDue (act s)) : OutOwn (stepOf act s) :=
  next_own (finish_ownEntry s h)

/-- What the own entry, the claims, the pull and the target are made of. -/
def SameOwn (s t : State) : Prop :=
  (t.st.state = s.st.state ∧ t.st.straps = s.st.straps ∧ t.st.settings = s.st.settings ∧ t.st.clash = s.st.clash) ∧
  t.announce = s.announce ∧ t.view.entries = s.view.entries ∧ t.view.pull = s.view.pull ∧ t.budget = s.budget ∧
  t.cool = s.cool ∧ t.sup = s.sup ∧ t.seat = s.seat ∧ t.port = s.port ∧ t.zone = s.zone

theorem OwnEntry.same (h : OwnEntry s) (e : SameOwn s t) : OwnEntry t := by
  obtain ⟨⟨hstate, hstraps, hsettings, hclash⟩, hannounce, hentries, hpull, hbudget, hcool, hsup, hseat, hport, hzone⟩ := e
  obtain ⟨claim, tent, pull, entry, announced, target⟩ := h
  have hclaim : steadyClaim t = steadyClaim s := by
    simp only [steadyClaim, role, portWeight, okRotors, hstraps, hsettings, hport, hcool]
  have hpulls : pulls t = pulls s := by
    have hreceiving : receiving t = receiving s := by rw [receiving, hstate, receiving]
    rw [pulls, hreceiving, role, failedRotors, hstraps, hclash, hcool, pulls, role, failedRotors]
  have hown : ownRecorded t = ownRecorded s := by simp only [ownRecorded, entryAt, ownAddr, hstraps, hentries]
  have hrole : role t = role s := by rw [role, hstraps, role]
  have hroll : ownRoll t = ownRoll s := by
    have hzoning : zoning t = zoning s := by rw [zoning, hrole, zoning]
    have hlock : ownLock t = ownLock s := by rw [ownLock, hzoning, hzone, ownLock]
    have hgiveable : giveable t = giveable s := by
      rw [giveable, hstate, hrole, freshCount, hseat, hsettings, hport, giveable, freshCount]
    rw [ownRoll, hlock, hzoning, hgiveable, hrole, failedRotors, hstate, hcool, hbudget, hsup, hzone, hpull, ownRoll,
      failedRotors]
  refine ⟨by rw [hclaim, hbudget, claim], ?_, by rw [hpulls, hpull, pull], fun f hf => ?_, hannounce.trans announced, ?_⟩
  · rw [hbudget, tent]
    simp only [tentative, prospective, portAt, hclaim, portWeight, hbudget, hport, hsettings]
  · rw [hroll, entry f (hown ▸ hf)]
  · exact OwnEntry.targeted ⟨claim, tent, pull, entry, announced, target⟩ |>.same
      ⟨hstraps, hentries, by rw [hcool], by rw [hcool], by rw [hcool]⟩

theorem same_next_own (h : OwnEntry s) (e : SameOwn s t) : OutOwn (.next t) := next_own (h.same e)

theorem refuse_own {st : Status} (h : OwnEntry s) : OwnEntry (refuse st s) :=
  h.same ⟨by simp [refuse], by simp, by simp [refuse]⟩

theorem expiryStep_own {timer : Option Nat} {act : State → State} (h : OwnEntry s)
    (hact : ∀ v, OwnEntry v → TargetDue (act v)) : OutOwn (expiryStep timer act s) := by
  unfold expiryStep
  split
  · exact next_own h
  · exact stepOf_own (hact _ (h.same (by simp [SameOwn])))

theorem expiryStep_aim_own {timer : Option Nat} {act : State → State} (h : OwnEntry s)
    (hact : ∀ v, SameAim v (act v)) : OutOwn (expiryStep timer act s) :=
  expiryStep_own h fun v hv => (hv.targeted.same (hact v)).due

theorem takeHead_own {k : Kind} {act : RxFrame → State → State} (h : OwnEntry s)
    (hact : ∀ f v, Targeted v → Targeted (act f v)) : OutOwn (takeHead k act s) := by
  unfold takeHead
  split
  · exact next_own h
  · exact outOwn_ite (stepOf_own (hact _ _ (h.targeted.same (by simp [SameAim]))).due) (next_own h)

theorem transactWith_own {onBad : State → State} {len : Nat} {judge : List Byte → State → State} {rest : List Byte}
    (h : OwnEntry s) (hbad : ∀ v, SameOwn v (onBad v)) (hjudge : ∀ p v, OwnEntry v → OwnEntry (finish v (judge p v))) :
    OutOwn (transactWith onBad len judge rest s) := by
  have hshift : OwnEntry (shiftStatus s) := h.same (by simp [SameOwn])
  unfold transactWith
  dsimp only
  refine outOwn_ite (next_own hshift) ?_
  split
  · exact next_own hshift
  · have hbusy (tag : Byte) : OwnEntry { shiftStatus s with host.slot := .busy tag } := hshift.same (by simp [SameOwn])
    exact outOwn_ite (next_own (hjudge _ _ (hbusy _))) (next_own (refuse_own ((hbusy _).same (hbad _))))
  · exact next_own hshift

theorem transact_own {len : Nat} {judge : List Byte → State → State} {rest : List Byte} (h : OwnEntry s)
    (hjudge : ∀ p v, OwnEntry v → TargetDue (judge p v)) : OutOwn (transact len judge rest s) :=
  transactWith_own h (fun v => by simp [SameOwn]) fun p v hv => finish_ownEntry v (hjudge p v hv)

theorem transact_aim_own {len : Nat} {judge : List Byte → State → State} {rest : List Byte} (h : OwnEntry s)
    (hjudge : ∀ p v, SameAim v (judge p v)) : OutOwn (transact len judge rest s) :=
  transact_own h fun p v hv => (hv.targeted.same (hjudge p v)).due

end Sys2Proof.Machine
end

section
/-! PROOF. Settles O5: one line per command, and the resets. -/

namespace Sys2Proof.Machine

open Sys2Proof.Config

variable {s t u : State}

/-! ## Every command but the resets -/

theorem execTxGapComplete_own (h : OwnEntry s) : OutOwn (execTxGapComplete s) := by
  unfold execTxGapComplete
  split
  · split
    · exact next_own h
    · exact same_next_own h (by simp [SameOwn])
  all_goals exact next_own h

theorem execTxCollision_own (h : OwnEntry s) : OutOwn (execTxCollision s) := by
  unfold execTxCollision
  split
  · exact outOwn_ite (same_next_own h (by simp [SameOwn, startJam])) (next_own h)
  all_goals exact next_own h

theorem stepOf_aim_own {act : State → State} (h : OwnEntry s) (e : SameAim s (act u)) : OutOwn (stepOf act u) :=
  next_own (finish_ownEntry u (h.targeted.same e).due)

theorem execJamEnd_own (h : OwnEntry s) : OutOwn (execJamEnd s) := by
  unfold execJamEnd
  split
  · exact stepOf_aim_own h (SameAim.trans (by simp [SameAim]) (endJam_aim _ (reach _ s)))
  all_goals exact next_own h

theorem execTxFrameComplete_own (h : OwnEntry s) : OutOwn (execTxFrameComplete s) := by
  unfold execTxFrameComplete
  split
  · exact stepOf_aim_own h (SameAim.trans (by simp [SameAim]) (frameSent_aim _ (reach _ s)))
  all_goals exact next_own h

theorem execLineActivityEnd_own (bits : List Bool) (lead : Nat) (h : OwnEntry s) :
    OutOwn (execLineActivityEnd bits lead s) := by
  have hidle (d : Nat) : OwnEntry (lineIdle (reach d s)) := ⟨h.claim, h.tent, h.pull, h.entry, h.announced, h.target⟩
  exact outOwn_ite (outOwn_ite (next_own (hidle _)) (stepOf_own (receive_targeted _ (hidle _).targeted).due)) (next_own h)

theorem execAnswerDelayExpire_own (a : Addr) (h : OwnEntry s) : OutOwn (execAnswerDelayExpire a s) := by
  unfold execAnswerDelayExpire
  split
  · exact next_own h
  · exact stepOf_aim_own h (by simp [SameAim])

theorem execEscrowTimerExpire_own (x : Nat) (h : OwnEntry s) : OutOwn (execEscrowTimerExpire x s) := by
  have hunanswered (v : State) : SameAim v (judgeUnanswered x v) := by
    unfold judgeUnanswered
    split
    · exact .refl v
    · exact .ite (by simp [SameAim]) (.refl v)
  unfold execEscrowTimerExpire
  split
  · exact next_own h
  case h_2 e he =>
    obtain rfl : e.xfer = x := by simpa using List.find?_some he
    exact expiryStep_aim_own h fun v => (hunanswered v).trans (by simp [SameAim, escrowOver])

theorem execFilterAck_own (n : Nat) (h : OwnEntry s) : OutOwn (execFilterAck n s) := by
  have hended (l : Flight) : SameAim s (if l.ignored then endIgnored s else endTaken l s) :=
    .ite (by simp [SameAim]) (by simp [SameAim])
  unfold execFilterAck
  split
  · exact next_own h
  case h_2 l hl => exact outOwn_ite (stepOf_aim_own h ((hended l).trans (by simp [SameAim]))) (next_own h)

theorem tryOver_aim (l : Flight) (s : State) : SameAim s (tryOver l s) :=
  .ite (by simp [SameAim]) (.ite (by simp [SameAim]) (by simp [SameAim]))

theorem execFilterTryExpire_own (h : OwnEntry s) : OutOwn (execFilterTryExpire s) := by
  unfold execFilterTryExpire
  split
  · exact next_own h
  · exact stepOf_aim_own h (SameAim.trans (by simp [SameAim]) (tryOver_aim _ (reach _ s)))

theorem foldl_runWait_aim (l : List Wait) (h : SameAim s u) : SameAim s (l.foldl runWait u) := by
  induction l generalizing u with
  | nil => exact h
  | cons w l ih => exact ih (h.trans (by simp [SameAim]))

theorem execStoreWriteComplete_own (r : RecordId) (h : OwnEntry s) : OutOwn (execStoreWriteComplete r s) := by
  unfold execStoreWriteComplete
  split
  · exact outOwn_ite (stepOf_aim_own h (foldl_runWait_aim _ (by simp [SameAim]))) (next_own h)
  · exact outOwn_ite (stepOf_aim_own h (foldl_runWait_aim _ (by simp [SameAim]))) (next_own h)

theorem execFetch_own (n : Nat) (h : OwnEntry s) : OutOwn (execFetch n s) := by
  have hshift : OwnEntry (shiftStatus s) := h.same (by simp [SameOwn])
  unfold execFetch
  dsimp only
  refine outOwn_ite (next_own hshift) ?_
  split
  · refine next_own ?_
    split <;> exact hshift.same (by simp [SameOwn])
  all_goals exact next_own hshift

theorem execCommandUnknown_own (c : Byte) (rest : List Byte) (h : OwnEntry s) :
    OutOwn (execCommandUnknown c rest s) := by
  have hshift : OwnEntry (shiftStatus s) := h.same (by simp [SameOwn])
  unfold execCommandUnknown
  dsimp only
  refine outOwn_ite (next_own hshift) ?_
  split
  · exact next_own hshift
  · exact next_own (refuse_own (hshift.same (by simp [SameOwn])))
  · exact next_own hshift

/-! ## Frames of the other blocks -/

theorem takeGive_aim (src : Addr) (g : GiveFields) (s : State) : SameAim s (takeGive src g s) :=
  .ite (.refl s) (.ite (by simp [SameAim]) (by simp [SameAim]))

theorem spacingOver_aim (s : State) : SameAim s (spacingOver s) :=
  .ite (.ite (by simp [SameAim]) (by simp [SameAim])) (by simp [SameAim])

theorem silenceExpired_aim (s : State) : SameAim s (silenceExpired s) :=
  .ite (SameAim.trans (by simp [SameAim]) (isolate_aim .silence { s with st.silence := none, st.silenceArmed := false }))
    (by simp [SameAim])

theorem becomeLit_aim (n : Nat) (s : State) : SameAim s (becomeLit n s) := by
  unfold becomeLit
  split
  · exact .refl s
  · simp [SameAim]

theorem dimmingOver_aim (n : Nat) (s : State) : SameAim s (dimmingOver n s) := by
  unfold dimmingOver
  split
  · exact .refl s
  · dsimp only
    split <;> simp [SameAim]

theorem guardOver_aim (s : State) : SameAim s (guardOver s) := .ite (by simp [SameAim]) (by simp [SameAim])

theorem execInOkChange_own (b : Bool) (h : OwnEntry s) : OutOwn (execInOkChange b s) :=
  outOwn_ite (stepOf_aim_own h (.ite (by simp [SameAim]) (by simp [SameAim]))) (next_own h)

theorem updateGoodRun_aim (h : SameAim s u) : SameAim s (updateGoodRun u) := h.trans (by simp [SameAim])

theorem execOutOkChange_own (b : Bool) (h : OwnEntry s) : OutOwn (execOutOkChange b s) :=
  outOwn_ite (stepOf_aim_own h (updateGoodRun_aim (.ite (by simp [SameAim]) (by simp [SameAim])))) (next_own h)

theorem execEarlyWarnChange_own (b : Bool) (h : OwnEntry s) : OutOwn (execEarlyWarnChange b s) :=
  outOwn_ite (stepOf_aim_own h (.ite (by simp [SameAim]) (by simp [SameAim]))) (next_own h)

/-! ## Every command -/

theorem exec_own {c : Instr} (hassert : ∀ k, c ≠ .resetAssert k) (hrelease : ∀ p, c ≠ .resetRelease p)
    (h : OwnEntry s) : OutOwn (exec c s) := by
  cases c with
  | resetAssert k => exact absurd rfl (hassert k)
  | resetRelease p => exact absurd rfl (hrelease p)
  | ejectPinChange b => exact outOwn_ite (next_own h) (same_next_own h (by simp [SameOwn]))
  | ejectJudgedOpen => exact outOwn_ite (expiryStep_own h fun v hv => (judgedOpen_targeted hv.targeted).due) (next_own h)
  | ejectJudgedClosed =>
    exact outOwn_ite (next_own h) (expiryStep_own h fun v hv => (judgedClosed_targeted hv.targeted).due)
  | faultLineChange b => exact outOwn_ite (next_own h) (same_next_own h (by simp [SameOwn]))
  | faultConditionSet =>
    exact outOwn_ite (expiryStep_aim_own h fun v => by simp [SameAim, faultSet]) (next_own h)
  | faultConditionClear =>
    exact outOwn_ite (expiryStep_aim_own h fun v => by simp [SameAim, faultClear]) (next_own h)
  | sensorSample r => exact expiryStep_own h fun v hv => takeSample_due r hv
  | rotorCheck r => exact expiryStep_own h fun v hv => (checkRotors_targeted r hv.targeted).due
  | inOkChange b => exact execInOkChange_own b h
  | outOkChange b => exact execOutOkChange_own b h
  | earlyWarnChange b => exact execEarlyWarnChange_own b h
  | outputLostExpire => exact expiryStep_aim_own h fun v => by simp [SameAim]
  | goodRunComplete => exact expiryStep_aim_own h fun v => by simp [SameAim]
  | storeWriteComplete r => exact execStoreWriteComplete_own r h
  | lineActivityEnd bits lead => exact execLineActivityEnd_own bits lead h
  | txGapComplete => exact execTxGapComplete_own h
  | txCollision => exact execTxCollision_own h
  | jamEnd => exact execJamEnd_own h
  | txFrameComplete => exact execTxFrameComplete_own h
  | backoffExpire q => exact expiryStep_aim_own h fun v => by simp [SameAim]
  | holdCounterExpire => exact expiryStep_aim_own h fun v => by simp [SameAim]
  | holdGuardExpire => exact expiryStep_aim_own h guardOver_aim
  | rollcallTaken => exact takeHead_own h fun f v hv => takeRollcall_targeted _ _ hv
  | supplyDropTaken => exact takeHead_own h fun f v hv => takeDrop_targeted _ hv
  | departTaken => exact takeHead_own h fun f v hv => takeDepart_targeted _ hv
  | seatAskTaken =>
    refine takeHead_own h fun f v hv => hv.same (.ite ?_ (.refl v))
    split
    · exact .refl v
    · simp [SameAim]
  | seatGiveTaken =>
    refine takeHead_own h fun f v hv => hv.same (.ite ?_ (.refl v))
    split
    · exact .refl v
    · exact takeGive_aim _ _ v
  | seatAckTaken =>
    refine takeHead_own h fun f v hv => hv.same (.ite ?_ (.refl v))
    split
    · exact .refl v
    · simp [SameAim]
  | zoneOpenTaken => exact takeHead_own h fun f v hv => hv.same (.ite (by simp [SameAim]) (.refl v))
  | zoneSegTaken => exact takeHead_own h fun f v hv => hv.same (.ite (by simp [SameAim]) (.refl v))
  | zoneVoteTaken =>
    refine takeHead_own h fun f v hv => hv.same (.ite ?_ (.refl v))
    split
    · simp [SameAim]
    · exact .refl v
  | zoneCommitTaken => exact takeHead_own h fun f v hv => hv.same (.ite (by simp [SameAim]) (.refl v))
  | zoneAbandonTaken => exact takeHead_own h fun f v hv => hv.same (.ite (by simp [SameAim]) (.refl v))
  | rollcallPeriodExpire => exact expiryStep_aim_own h fun v => by simp [SameAim]
  | peerAgeExpire p => exact expiryStep_own h fun v hv => (loseEntry_targeted p hv.targeted).due
  | silenceTimerExpire => exact expiryStep_aim_own h silenceExpired_aim
  | joiningTimerExpire => exact expiryStep_own h fun v hv => (joiningOver_targeted hv.targeted).due
  | settleWindowExpire => exact expiryStep_own h fun v hv => (windowOver_targeted hv.targeted).due
  | retryTimerExpire => exact expiryStep_aim_own h fun v => by simp [SameAim]
  | fanHoldExpire => exact expiryStep_aim_own h stepDown_aim
  | fanStepExpire => exact expiryStep_aim_own h stepDown_aim
  | askOutstandingExpire => exact expiryStep_aim_own h fun v => by simp [SameAim, outstandingOver]
  | askSpacingExpire => exact expiryStep_aim_own h spacingOver_aim
  | answerDelayExpire a => exact execAnswerDelayExpire_own a h
  | escrowTimerExpire x => exact execEscrowTimerExpire_own x h
  | lightingTimerExpire n => exact expiryStep_aim_own h (becomeLit_aim n)
  | dimmingTimerExpire n => exact expiryStep_aim_own h (dimmingOver_aim n)
  | historyBoundary => exact expiryStep_aim_own h fun v => by simp [SameAim]
  | segmentTimerExpire => exact expiryStep_aim_own h fun v => by simp [SameAim]
  | voteWindowExpire => exact expiryStep_aim_own h fun v => by simp [SameAim]
  | orphanTimerExpire => exact expiryStep_aim_own h fun v => by simp [SameAim, orphaned]
  | zoneResendTimerExpire => exact expiryStep_aim_own h fun v => by simp [SameAim]
  | filterAck n => exact execFilterAck_own n h
  | filterTryExpire => exact execFilterTryExpire_own h
  | departureTimerExpire => exact expiryStep_aim_own h fun v => by simp [SameAim]
  | departRetryExpire => exact expiryStep_aim_own h fun v => by simp [SameAim]
  | intDeassertIntervalExpire => exact expiryStep_aim_own h fun v => by simp [SameAim]
  | fetch n => exact execFetch_own n h
  | set l => exact transact_own h fun p v hv => judgeSet_due p hv
  | join l =>
    exact transactWith_own h (fun v => by simp [SameOwn]) fun p v hv => judgeJoin_ownEntry v p hv.targeted
  | depart l => exact transact_aim_own h judgeDepart_aim
  | linkRestart l => exact transact_own h fun p v hv => (judgeRestart_targeted p hv.targeted).due
  | forgetPeer l => exact transact_own h fun p v hv => (judgeForget_targeted p hv.targeted).due
  | forceFans l => exact transact_own h fun p v hv => judgeForce_due p hv
  | portRequest l => exact transact_aim_own h judgeRequest_aim
  | portCancel l => exact transact_aim_own h judgeCancel_aim
  | portRelease l => exact transact_aim_own h judgeRelease_aim
  | portAttach l => exact transact_aim_own h judgeAttach_aim
  | portDetach l => exact transact_aim_own h judgeDetach_aim
  | seatInstall l => exact transact_aim_own h judgeInstall_aim
  | seatWithdraw l => exact transact_aim_own h judgeWithdraw_aim
  | seatReclaim l => exact transact_aim_own h judgeReclaim_aim
  | zoneDraftClear l => exact transact_aim_own h fun p v => onDraft_aim (draftReply_aim (by simp [SameAim]))
  | zoneDraftAdd l => exact transact_aim_own h fun p v => onDraft_aim (addMember_aim _ v)
  | zoneDraftRemove l => exact transact_aim_own h fun p v => onDraft_aim (removeMember_aim _ v)
  | zonePublish l => exact transact_aim_own h judgePublish_aim
  | readTable l =>
    exact transactWith_own h (fun v => ⟨⟨rfl, rfl, rfl, rfl⟩, rfl, rfl, rfl, rfl, rfl, rfl, rfl, rfl, rfl⟩) fun p v hv =>
      finish_ownEntry v (hv.targeted.same (judgeReadTable_aim p v)).due
  | readNext l => exact transact_aim_own h judgeReadNext_aim
  | readNotice l => exact transact_aim_own h judgeReadNotice_aim
  | readCounters l => exact transact_aim_own h judgeReadCounters_aim
  | readStatus l => exact transact_aim_own h fun p v => reply_aim (.refl v)
  | commandUnknown c l => exact execCommandUnknown_own c l h

/-! ## The resets -/

theorem assertReset_own (k : ResetKind) (s : State) : OwnEntry (assertReset k s) := by
  have hown : ownRecorded (assertReset k s) = none := by
    rw [ownRecorded, assertReset]
    simp [entryAt, State.underReset, Entry.fields?]
  have hweight : portWeight (assertReset k s) = 0 := by
    simp [portWeight, assertReset, State.underReset, Port.weight, Port.clear]
  have hrotors : okRotors (assertReset k s) = 0 := by
    simp [okRotors, assertReset, State.underReset, Rotor.initial]
  refine ⟨?_, rfl, rfl, fun f hf => ?_, rfl, fun _ h => absurd hown h⟩
  · unfold steadyClaim
    rw [hweight, hrotors]
    simp only [assertReset, State.underReset, role]
    cases s.st.straps.role <;> simp [lineClaim, ceilDiv, Settings.default]
  · rw [hown] at hf
    exact absurd hf (by simp)

/-- Before JOIN the blocks that the own entry would carry are followed, and no change is due (R44). -/
theorem refresh_own_of_none (hown : ownRecorded s = none) (ha : s.announce = false) : OwnEntry (refresh s) := by
  have hempty : entryAt s (ownAddr s) = .empty := by
    cases he : entryAt s (ownAddr s) with
    | empty => rfl
    | known p heard f => simp [ownRecorded, he, Entry.fields?] at hown
  have hrefresh : refresh s =
      { s with budget.claim := steadyClaim s, budget.tent := tentative s, view.pull := pulls s } := by
    have hblocks : entryAt { s with budget.claim := steadyClaim s, budget.tent := tentative s, view.pull := pulls s }
        (ownAddr { s with budget.claim := steadyClaim s, budget.tent := tentative s, view.pull := pulls s }) = .empty :=
      hempty
    unfold refresh
    dsimp only
    rw [hblocks]
  have hkept : ownRecorded (refresh s) = none := by rw [hrefresh]; exact hown
  refine ⟨refresh_claim s, (refresh_blocks s).1, (refresh_blocks s).2, fun f hf => ?_, by rw [hrefresh]; exact ha,
    fun _ h => absurd hkept h⟩
  rw [hkept] at hf
  exact absurd hf (by simp)

theorem loadStore_announce (s : State) : (loadStore s).announce = s.announce := by
  have hzoning (r : ZoneRecord) (v : State) : (loadZoning r v).announce = v.announce := by
    unfold loadZoning
    split <;> rfl
  unfold loadStore
  dsimp only
  (repeat' split) <;> simp [hzoning, loadSeats]

theorem releaseReset_own (p : ReleasePins) (s : State) : OwnEntry (releaseReset p s) := by
  have hsampled : (sampledRelease p s).announce = false := by
    unfold sampledRelease startSupply
    split <;> rfl
  rw [releaseReset_eq]
  refine refresh_own_of_none ?_ (by rw [retarget_announce, loadStore_announce, raiseOwn_announce, hsampled])
  simp [ownRecorded, entryAt, sampledRelease, startMeasures, State.underReset, Entry.fields?]

/-- Settles O5: the own entry, the claims and the pull follow their blocks at the end of a step; what a command's effect
leaves of a FAN station's target is that of the view, or is made so by the hand-on. -/
theorem ownEntryKept : Obligations.OwnEntryKept := fun _ _ hs h =>
  step_kept (P := OwnEntry) (fun _ _ h => h.same (by simp [SameOwn]))
    (fun _ h => h.same ⟨⟨rfl, rfl, rfl, rfl⟩, rfl, rfl, rfl, rfl, rfl, rfl, rfl, rfl, rfl⟩)
    (fun k s _ => assertReset_own k s) (fun p s _ => releaseReset_own p s)
    (fun _ _ _ ha hr he hs => exec_own ha hr hs _ he) hs h

end Sys2Proof.Machine
end

section
/-! PROOF. Settles O18: forcing through the end of a step, and the chassis fault condition (R55, R91). -/

namespace Sys2Proof.Machine

open Sys2Proof.Config

variable {s t u : State}

/-! ## Forcing through a departure -/

theorem offerChanged_forced {d l : Nat} (h : Forced d l s) : Forced d l (offerChanged s) := h.same (by simp)

/-- Outside ACTIVE forcing that is on stays on (R91). -/
theorem enterDeparted_forced {d l : Nat} (h : Forced d l s) : Forced d l (enterDeparted s) := by
  have hforcing {v : State} (hv : Forced d l v) (hst : v.st.state = .departed) : Forced d l (updateForcing v) := by
    unfold updateForcing
    rw [if_pos (show forcingNow v = true by simp [forcingNow, hst]), if_pos hv.1]
    split
    · exact hv
    · exact hv
  have hchanged (c : Cause) : Forced d l (changeState .departed c s) := by
    have hrun {v : State} (hv : Forced d l v) : Forced d l (updateGoodRun v) := hv.same (by simp)
    unfold changeState
    dsimp only
    rw [if_neg (by simp)]
    exact hrun (hforcing (h.same (by simp)) (by simp))
  have hdone {v : State} (hv : Forced d l v) : Forced d l (disableOutput (stopEscrow { v with
      dep.timer := none, dep.retry := none, dep.step := none })) := hv.same (by simp)
  exact hdone (hchanged _)

theorem offerDepart_forced {d l : Nat} (h : Forced d l s) : Forced d l (offerDepart s) := by
  have hoffer : Forced d l (offerNormal .depart (offerChanged (handOn s))).1 :=
    (offerChanged_forced (handOn_forced h)).same (by simp)
  unfold offerDepart
  split
  · split <;> (rename_i heq; obtain rfl := offerNormal_of heq)
    · exact enterDeparted_forced hoffer
    · exact hoffer.same rfl
    · exact hoffer
  · exact h

theorem departProgress_forced {d l : Nat} (s0 : State) (h : Forced d l s) : Forced d l (departProgress s0 s) := by
  unfold departProgress
  split
  · split
    · exact h
    · split
      · exact h
      · exact offerDepart_forced (h.same (by simp))
    · refine offerDepart_forced (Forced.same (s := if giftEvent s0 s then giveChunk s else s) ?_ (by simp))
      split
      · exact h.same (by simp)
      · exact h
    · exact offerDepart_forced (h.same (by simp))
    · exact offerDepart_forced h
  · exact h

/-- Forcing that is on stands, with its duty, to the end of every step (R91). -/
theorem forced_finish {d l : Nat} (s0 : State) (h : Forced d l s) : Forced d l (finish s0 s) := by
  have hasked : Forced d l (asked s0 s) := by
    unfold asked
    split
    · exact h.same (by simp)
    · exact h
  have hhanded : Forced d l (handed s0 s) := handOn_forced (departProgress_forced s0 hasked)
  have hsettled : Forced d l (settled s0 s) := by
    unfold settled
    split
    · exact handOn_forced (hhanded.same (by simp))
    · exact hhanded
  exact hsettled.same (by rw [finish_settled]; simp)

/-! ## Forcing that stands as it is -/

@[simp] theorem setDuty_forcing (d : Nat) (s : State) : (setDuty d s).cool.forcing = s.cool.forcing := by
  unfold setDuty
  split <;> rfl

@[simp] theorem rampTo_forcing (s : State) : (rampTo s).cool.forcing = s.cool.forcing := by
  unfold rampTo
  (repeat' split) <;> simp

@[simp] theorem retarget_forcing (s : State) : (retarget s).cool.forcing = s.cool.forcing := by
  unfold retarget
  dsimp only
  (repeat' split) <;> simp

@[simp] theorem propagate_forcing (fuel : Nat) (s : State) : (propagate fuel s).cool.forcing = s.cool.forcing := by
  induction fuel generalizing s with
  | zero => simp [propagate]
  | succ fuel ih =>
    unfold propagate
    dsimp only
    split
    · simp
    · rw [ih]
      simp

@[simp] theorem handOn_forcing (s : State) : (handOn s).cool.forcing = s.cool.forcing := by
  unfold handOn
  rw [propagate_forcing]
  split <;> simp

/-- Outside DEPARTING the end of a step moves no forcing. -/
theorem finish_forcing (s0 : State) (hd : s.st.state ≠ .departing) : (finish s0 s).cool.forcing = s.cool.forcing := by
  have hasked : (asked s0 s).cool = s.cool := by
    unfold asked
    split <;> simp
  have hhanded : (handed s0 s).cool.forcing = s.cool.forcing := by
    unfold handed
    rw [departProgress_of_ne _ _ (by simpa using hd), handOn_forcing, hasked]
  have hsettled : (settled s0 s).cool.forcing = s.cool.forcing := by
    unfold settled
    split <;> simp [hhanded]
  rw [finish_settled, ← hsettled]
  simp

/-! ## The condition -/

/-- A forcing condition puts a FAN station at duty 100 (R91). -/
theorem updateForcing_on (hr : role s = .fan) (hnow : forcingNow s = true) (hf : s.cool.forcing = false) :
    ∃ l, Forced 100 l (updateForcing s) := by
  refine ⟨(setDuty 100 s).cool.lastDuty, ?_⟩
  unfold updateForcing
  rw [if_pos hr, if_pos hnow, if_neg (by simp [hf])]
  refine ⟨rfl, ?_, rfl⟩
  show (setDuty 100 s).cool.duty = 100
  unfold setDuty
  split
  case isTrue h => exact h.symm
  case isFalse => rfl

/-- With no forcing condition forcing goes off (R91). -/
theorem updateForcing_off (hr : role s = .fan) (hnow : forcingNow s = false) :
    (updateForcing s).cool.forcing = false := by
  unfold updateForcing
  rw [if_pos hr, if_neg (by simp [hnow])]
  split
  · simp
  case isFalse hf => simpa using hf

/-- FAULT-ON or FAULT-OFF: the measure over, the condition as it becomes and the notice raised (R55). -/
def faultJudged (on : Bool) (k : NoticeKind) (detail : List Byte) (s : State) : State :=
  updateForcing (raiseOwn k detail { s with view.faultMeasure := none, view.faultSet := on })

theorem faultSet_eq (s : State) :
    faultSet s = faultJudged true .faultOn (bBool s.view.pull ++ addrList 1 (pullers s)) s := rfl

theorem faultClear_eq (s : State) : faultClear s = faultJudged false .faultOff [] s := rfl

theorem faultJudged_kept (on : Bool) (k : NoticeKind) (detail : List Byte) (s : State) :
    LinkKept s (faultJudged on k detail s) ∧ PortKept s (faultJudged on k detail s) ∧
    DurableKept s (faultJudged on k detail s) := by
  refine ⟨?_, ?_, ?_⟩ <;> constructor <;> simp [faultJudged]

@[simp] theorem faultJudged_view (on : Bool) (k : NoticeKind) (detail : List Byte) (s : State) :
    (faultJudged on k detail s).now = s.now ∧ (faultJudged on k detail s).st = s.st ∧
    (faultJudged on k detail s).view.faultSet = on ∧ (faultJudged on k detail s).view.faultMeasure = none ∧
    (faultJudged on k detail s).view.faultLow = s.view.faultLow := by
  simp [faultJudged]

/-- What the step in which the condition changes leaves, and the notice of the change (R55). -/
theorem finish_faultJudged (on : Bool) (k : NoticeKind) (detail : List Byte) (s : State) :
    (finish s (faultJudged on k detail s)).now = s.now ∧ LinkKept s (finish s (faultJudged on k detail s)) ∧
    PortKept s (finish s (faultJudged on k detail s)) ∧ DurableKept s (finish s (faultJudged on k detail s)) ∧
    (finish s (faultJudged on k detail s)).view.faultSet = on ∧
    (finish s (faultJudged on k detail s)).view.faultMeasure = none ∧
    (finish s (faultJudged on k detail s)).view.faultLow = s.view.faultLow ∧
    (s.host.notices.length < noticeCap → ∃ n ∈ (finish s (faultJudged on k detail s)).host.notices, n.kind = k ∧
      n.time = timeMs (finish s (faultJudged on k detail s)).now) := by
  obtain ⟨hlink, hport, hdurable⟩ := faultJudged_kept on k detail s
  have hnow : (finish s (faultJudged on k detail s)).now = s.now := by simp
  refine ⟨hnow, hlink.trans (finish_link _ _), hport.trans (finish_port _ _), hdurable.trans (finish_durable _ _),
    by simp, by simp, by simp, fun hroom => ?_⟩
  refine ⟨{ kind := k, subject := (ownAddr s).val, time := timeMs s.now, detail := detail.take 24 },
    (finish_keeps (.refl (faultJudged on k detail s))).notices.subset ?_, rfl, by rw [hnow]⟩
  have hraised := raise_of_room (k := k) (n := (ownAddr s).val) (d := detail)
    (s := { s with view.faultMeasure := none, view.faultSet := on }) hroom
  have hhost : (faultJudged on k detail s).host =
      (raise k (ownAddr s).val detail { s with view.faultMeasure := none, view.faultSet := on }).host := by
    unfold faultJudged
    rw [(updateForcing_frame _).2.2.2.2.2.2.2.2.2.2.2.2.2.1]
    rfl
  rw [hhost, hraised]
  simp

theorem faultSet_forced (hr : role s = .fan) (hf : s.cool.forcing = false) : ∃ l, Forced 100 l (faultSet s) :=
  updateForcing_on (by simpa [role] using hr) (by simp [forcingNow]) (by simpa using hf)

theorem faultClear_unforced (hr : role s = .fan) (ha : s.st.state = .active)
    (hth : s.cool.thermal ≠ .shutdown) : (faultClear s).cool.forcing = false :=
  updateForcing_off (by simpa [role] using hr) (by simp [forcingNow, ha, hth])

/-- Settles O18: the condition is judged at the measure's end, and the step's end neither moves it nor, outside a
forcing condition of its own, the forcing. -/
theorem faultConditionFollowsLine : Obligations.FaultConditionFollowsLine := by
  unfold Obligations.FaultConditionFollowsLine
  intro s d hd
  obtain ⟨hlinkR, -, hportR, hdurableR⟩ := reach_aside d s
  refine ⟨fun hlow hset => ?set, fun hlow hset => ?clear⟩
  case set =>
    obtain ⟨hnow, hlink, hport, hdurable, hon, hmeasure, hstays, hnotice⟩ := finish_faultJudged true .faultOn
      (bBool (reach d s).view.pull ++ addrList 1 (pullers (reach d s))) (reach d s)
    rw [← faultSet_eq] at hnow hlink hport hdurable hon hmeasure hstays hnotice
    have hexec : exec .faultConditionSet s = .next (finish (reach d s) (faultSet (reach d s))) := by
      simp [exec, execFaultConditionSet, hlow, hset, hd, expiryStep, stepOf]
    refine ⟨_, hexec, hnow, hlinkR.trans hlink, hportR.trans hport, hdurableR.trans hdurable, hon, hmeasure,
      hstays.trans hlow, fun hr hf => ?_, hnotice⟩
    obtain ⟨l, hforced⟩ := faultSet_forced (s := reach d s) hr hf
    obtain ⟨hforcing, hduty, -⟩ := forced_finish (reach d s) hforced
    exact ⟨hduty, hforcing⟩
  case clear =>
    obtain ⟨hnow, hlink, hport, hdurable, hon, hmeasure, hstays, hnotice⟩ :=
      finish_faultJudged false .faultOff [] (reach d s)
    rw [← faultClear_eq] at hnow hlink hport hdurable hon hmeasure hstays hnotice
    have hexec : exec .faultConditionClear s = .next (finish (reach d s) (faultClear (reach d s))) := by
      simp [exec, execFaultConditionClear, hlow, hset, hd, expiryStep, stepOf]
    refine ⟨_, hexec, hnow, hlinkR.trans hlink, hportR.trans hport, hdurableR.trans hdurable, hon, hmeasure,
      hstays.trans hlow, fun hr ha hth => ?_, hnotice⟩
    have hstate : (faultClear (reach d s)).st.state ≠ .departing := by
      rw [faultClear_eq, (faultJudged_view _ _ _ _).2.1]
      simp [ha]
    rw [finish_forcing _ hstate]
    exact faultClear_unforced (s := reach d s) hr ha hth

end Sys2Proof.Machine
end

section
/-! PROOF. Settles O41: a ROLLCALL that waits and its period through the end of a step, and the changes of one peer's
entry. -/

namespace Sys2Proof.Machine

open Sys2Proof.Config

variable {s t u : State} {x : Nat} {w : Prop}

/-! ## A ROLLCALL offered in the step -/

/-- The period restarted at this moment runs until DEPARTED, and where `w` held a ROLLCALL waits (R29, R41). -/
structure Called (x : Nat) (w : Prop) (s : State) : Prop where
  now : s.now + ms 250 = x
  period : s.st.state ≠ .departed → s.view.period = some x
  waits : w → s.link.normal.any isRollcall = true

/-- `t` differs from `s` in nothing that `Called` reads. -/
def SameCall (s t : State) : Prop :=
  t.now = s.now ∧ t.st.state = s.st.state ∧ t.view.period = s.view.period ∧ t.link.normal = s.link.normal

theorem Called.same (h : Called x w s) (e : SameCall s t) : Called x w t := by
  obtain ⟨hnow, hstate, hperiod, hnormal⟩ := e
  exact ⟨by rw [hnow, h.now], fun hd => by rw [hperiod, h.period (by rwa [← hstate])], fun hw => by
    rw [hnormal]; exact h.waits hw⟩

theorem Called.ite {c : Prop} [Decidable c] (ht : Called x w t) (hu : Called x w u) :
    Called x w (if c then t else u) := by
  split
  · exact ht
  · exact hu

theorem kick_called (h : Called x w s) : Called x w (kick s) := h.same (by simp [SameCall])

theorem offerNormal_called (m : Msg) (h : Called x w s) : Called x w (offerNormal m s).1 := by
  have hqueued : Called x w { s with link.normal := s.link.normal ++ [m] } :=
    ⟨h.now, h.period, fun hw => by
      have := h.waits hw
      simp only [List.any_append, this, Bool.true_or]⟩
  unfold offerNormal
  split
  · exact h
  · split
    · exact kick_called hqueued
    · exact h

theorem pumpZone_called (l : List Msg) (h : Called x w s) : Called x w (pumpZone l s) := by
  induction l generalizing s with
  | nil => exact h.same ⟨rfl, rfl, rfl, rfl⟩
  | cons m l ih =>
    unfold pumpZone
    have hm := offerNormal_called m h
    split <;> (rename_i ho; obtain rfl := offerNormal_of ho)
    · exact ih (hm.same ⟨rfl, rfl, rfl, rfl⟩)
    · exact ih (hm.same ⟨rfl, rfl, rfl, rfl⟩)
    · exact hm.same ⟨rfl, rfl, rfl, rfl⟩

theorem sendZone_called (l : List Msg) (h : Called x w s) : Called x w (sendZone l s) := by
  unfold sendZone
  split
  · exact h.same ⟨rfl, rfl, rfl, rfl⟩
  · exact pumpZone_called _ h

theorem abandon_called (r : Reason) (l : List Byte) (h : Called x w s) : Called x w (abandon r l s) := by
  have hsent : Called x w (sendZone [.zoneAbandon (s.zone.proposed.getD 0) r] (dropUnoffered s)) :=
    sendZone_called _ (h.same ⟨rfl, rfl, rfl, rfl⟩)
  exact hsent.same (by simp [SameCall, abandon])

theorem leaveZoning_called (h : Called x w s) : Called x w (leaveZoning s) := by
  have hfree : Called x w (freeLock s) := h.same ⟨rfl, rfl, rfl, rfl⟩
  unfold leaveZoning
  split
  · unfold refuseSet
    split
    · exact sendZone_called _ hfree
    · exact hfree
  · exact .ite h (abandon_called _ _ h)
  · exact .ite h (abandon_called _ _ h)
  all_goals exact h

theorem enterLeaving_called (h : Called x w s) : Called x w (enterLeaving s) := by
  unfold enterLeaving
  split
  · exact (leaveZoning_called h).same ⟨rfl, rfl, rfl, rfl⟩
  · exact h.same ⟨rfl, rfl, rfl, rfl⟩

theorem giveChunk_called (h : Called x w s) : Called x w (giveChunk s) := h.same (by simp [SameCall])

theorem endGift_called (h : Called x w s) : Called x w (endGift s) := .ite (enterLeaving_called h) h

theorem enterGift_called (h : Called x w s) : Called x w (enterGift s) := by
  have hgift : Called x w { s with dep.step := some .gift } := h.same ⟨rfl, rfl, rfl, rfl⟩
  exact .ite (enterLeaving_called hgift) (endGift_called (.ite hgift (giveChunk_called hgift)))

theorem enterDeparted_called (h : Called x w s) : Called x w (enterDeparted s) :=
  ⟨by simpa using h.now, fun hd => absurd (show (enterDeparted s).st.state = .departed by simp [enterDeparted]) hd, fun hw => by simpa using h.waits hw⟩

theorem handOn_called (h : Called x w s) : Called x w (handOn s) := h.same (by simp [SameCall])

theorem replaceRollcall_any (f : Roll) (l : List Msg) : (replaceRollcall f l).any isRollcall = l.any isRollcall := by
  rw [replaceRollcall, List.any_map]
  exact congrArg (List.any l) (funext (isRollcall_replaced f))

theorem offerRollcall_called (f : Roll) (h : Called x w s) : Called x w (offerRollcall f s) := by
  unfold offerRollcall
  split
  · exact h
  · have hperiod : Called x w { s with view.period := some (s.now + ms 250) } :=
      ⟨h.now, fun _ => by rw [h.now], h.waits⟩
    have hjoined : Called x w { s with
        view.period := some (s.now + ms 250), link.normal := s.link.normal ++ [.rollcall f] } :=
      ⟨h.now, hperiod.period, fun _ => by simp [isRollcall]⟩
    dsimp only
    split
    · exact hperiod.same ⟨rfl, rfl, rfl, rfl⟩
    · split
      · exact ⟨h.now, hperiod.period, fun hw => by rw [replaceRollcall_any]; exact h.waits hw⟩
      · exact .ite (kick_called hjoined) hperiod

theorem offerChanged_called (h : Called x w s) : Called x w (offerChanged s) := by
  unfold offerChanged
  split
  · exact offerRollcall_called _ (h.same ⟨rfl, rfl, rfl, rfl⟩)
  · exact h

theorem offerDepart_called (h : Called x w s) : Called x w (offerDepart s) := by
  have hoffer := offerNormal_called .depart (offerChanged_called (handOn_called h))
  unfold offerDepart
  split
  · split <;> (rename_i ho; obtain rfl := offerNormal_of ho)
    · exact enterDeparted_called hoffer
    · exact hoffer.same ⟨rfl, rfl, rfl, rfl⟩
    · exact hoffer
  · exact h

theorem departProgress_called (s0 : State) (h : Called x w s) : Called x w (departProgress s0 s) := by
  unfold departProgress
  split
  · split
    · exact h
    · exact .ite h (offerDepart_called (enterGift_called h))
    · exact offerDepart_called (endGift_called (.ite (giveChunk_called h) h))
    · exact offerDepart_called (enterLeaving_called h)
    · exact offerDepart_called h
  · exact h

theorem offerAsk_called (h : Called x w s) : Called x w (offerAsk s) := by
  have hopened (v : State) (hv : Called x w v) : Called x w (if !s.seat.episode then raiseOwn .seatsShort
      (b2 (min 16 (freshCount s - s.seat.free)) ++ b2 (freshCount v)) v else v) :=
    .ite (hv.same (by simp [SameCall])) hv
  exact offerNormal_called _ (hopened _ (h.same ⟨rfl, rfl, rfl, rfl⟩))

theorem judgeAsk_called (h : Called x w s) : Called x w (judgeAsk s) :=
  .ite (.ite (offerAsk_called h) h) (h.same ⟨rfl, rfl, rfl, rfl⟩)

/-- The period and the ROLLCALL of a step stand at its end, unless the station has departed. -/
theorem finish_called (s0 : State) (h : Called x w s) : Called x w (finish s0 s) := by
  have hhanded : Called x w (handed s0 s) :=
    handOn_called (departProgress_called s0 (.ite (judgeAsk_called h) h))
  have hsettled : Called x w (settled s0 s) := .ite (handOn_called (hhanded.same (by simp [SameCall]))) hhanded
  rw [finish_settled]
  exact (offerChanged_called hsettled).same (by simp [SameCall])

/-- A ROLLCALL offered while frames are queued restarts the period, and waits where the queue has room (R29, R41). -/
theorem offerRollcall_calls (f : Roll) (hs : sending s = true) :
    Called (s.now + ms 250) (s.link.normal.length < normalCap) (offerRollcall f s) := by
  unfold offerRollcall
  rw [if_neg (by simp [hs])]
  dsimp only
  split
  case isTrue hline =>
    refine ⟨rfl, fun _ => rfl, fun _ => ?_⟩
    show s.link.normal.any isRollcall = true
    cases hn : s.link.normal <;> simp_all [rollcallOnLine]
  case isFalse =>
    split
    case isTrue hany => exact ⟨rfl, fun _ => rfl, fun _ => by rw [replaceRollcall_any]; exact hany⟩
    case isFalse =>
      split
      · exact kick_called ⟨rfl, fun _ => rfl, fun _ => by simp [isRollcall]⟩
      case isFalse hfull => exact ⟨rfl, fun _ => rfl, fun hroom => absurd hroom hfull⟩

theorem finish_now (s0 s : State) : (finish s0 s).now = s.now := by simp

/-! ## A change of one peer's entry -/

/-- What reads the view moves no peer's entry. -/
theorem viewChanged_peers (p : Addr) (s : State) : PeersKept s (viewChanged p s) := by
  unfold viewChanged
  split
  · intro a ha
    have hevaluated := (reevaluate_follows (.refl s)).peers a ha
    simpa [entryAt] using hevaluated
  · exact fun _ _ => rfl

@[simp] theorem judgeRecipient_account (p : Addr) (s : State) :
    (judgeRecipient p s).seat.receipts = s.seat.receipts ∧ (judgeRecipient p s).seat.serial = s.seat.serial :=
  ⟨foldl_same (g := (·.seat.receipts)) (by simp) _ s, foldl_same (g := (·.seat.serial)) (by simp) _ s⟩

@[simp] theorem judgeBehind_sets (p : Addr) (s : State) :
    (judgeBehind p s).zone.active = s.zone.active ∧ (judgeBehind p s).zone.gen = s.zone.gen ∧
    (judgeBehind p s).zone.lastProposed = s.zone.lastProposed ∧ (judgeBehind p s).zone.draft = s.zone.draft := by
  unfold judgeBehind
  (repeat' split) <;> simp

theorem viewChanged_aside (p : Addr) (s : State) : Aside s (viewChanged p s) := by
  have hread (v : State) : Aside v (judgeBehind p (implicitDecision p (judgeRecipient p (retarget v)))) :=
    SameAside.aside (by simp [SameAside])
  unfold viewChanged
  split
  · exact Aside.trans (SameAside.aside (by simp [SameAside])) (hread (reevaluate s))
  · exact SameAside.aside (by simp [SameAside])

theorem changeEntry_peer {p : Addr} {e : Entry} {notice : State → State}
    (hnotice : ∀ v, (notice v).view.entries = v.view.entries) (hstraps : ∀ v, (notice v).st.straps = v.st.straps)
    (hp : p ≠ ownAddr s) :
    entryAt (changeEntry p e notice s) p = e ∧
      ∀ a, a ≠ ownAddr s → a ≠ p → entryAt (changeEntry p e notice s) a = entryAt s a := by
  have hset (a : Addr) : entryAt (notice (setEntry p e s)) a = if a = p then e else entryAt s a := by
    rw [entryAt, hnotice]
    by_cases ha : a = p
    · subst ha
      simp
    · have hne : p.val ≠ a.val := fun h => ha (Fin.ext h.symm)
      simp [ha, hne, entryAt]
  have hown : ownAddr (notice (setEntry p e s)) = ownAddr s := by rw [ownAddr, hstraps]; rfl
  have hall (a : Addr) (ha : a ≠ ownAddr s) :
      entryAt (changeEntry p e notice s) a = if a = p then e else entryAt s a := by
    unfold changeEntry
    dsimp only
    split
    · exact hset a
    · rw [viewChanged_peers p _ a (by rwa [hown]), hset]
  exact ⟨by rw [hall p hp, if_pos rfl], fun a ha hne => by rw [hall a ha, if_neg hne]⟩

theorem changeEntry_now {p : Addr} {e : Entry} {notice : State → State} (hnotice : ∀ v, (notice v).now = v.now) :
    (changeEntry p e notice s).now = s.now := by
  unfold changeEntry
  dsimp only
  split <;> simp [hnotice]

theorem changeEntry_aside {p : Addr} {e : Entry} {notice : State → State} (hnotice : ∀ v, Aside v (notice v)) :
    Aside s (changeEntry p e notice s) := by
  have hset : Aside s (notice (setEntry p e s)) :=
    Aside.trans (SameAside.aside (by simp [SameAside])) (hnotice (setEntry p e s))
  unfold changeEntry
  dsimp only
  split
  · exact hset
  · exact hset.trans (viewChanged_aside p _)

theorem raise_aside (k : NoticeKind) (n : Nat) (d : List Byte) (s : State) : Aside s (raise k n d s) :=
  SameAside.aside (by simp [SameAside])

/-- The notice of a changed entry stands at the end of the step (R179). -/
theorem changeEntry_raised {p : Addr} {e : Entry} {k : NoticeKind} {n : Nat} {d : List Byte} (s0 : State)
    (hroom : s.host.notices.length < noticeCap) :
    ∃ y ∈ (finish s0 (changeEntry p e (raise k n d) s)).host.notices, y.kind = k ∧ y.subject = n ∧
      y.detail = d.take 24 := by
  obtain ⟨y, hy, hfields⟩ := raise_mem (s := setEntry p e s) (k := k) (n := n) (d := d) hroom
  have hkept : Keeps (raise k n d (setEntry p e s)) (changeEntry p e (raise k n d) s) := by
    unfold changeEntry
    dsimp only
    split
    · exact .refl _
    · exact viewChanged_keeps (.refl _)
  exact ⟨y, (finish_keeps hkept).notices.subset hy, hfields⟩

/-! ## The timers -/

/-- What the period's end does: the ROLLCALL offered (R41). -/
def rollcallOver (s : State) : State := offerRollcall (ownRoll s) { s with view.period := none }

theorem rollcallOver_called (hs : sending s = true) :
    Called (s.now + ms 250) (s.link.normal.length < normalCap) (rollcallOver s) :=
  offerRollcall_calls (ownRoll s) (s := { s with view.period := none }) hs

theorem rollcallOver_aside (s : State) : Aside s (rollcallOver s) := SameAside.aside (by simp [SameAside, rollcallOver])

@[simp] theorem rollcallOver_frame (s : State) : (rollcallOver s).now = s.now ∧ (rollcallOver s).st = s.st ∧
    (rollcallOver s).view.entries = s.view.entries := by
  simp [rollcallOver]

/-- A PRESENT peer's entry becomes LOST, which is a change of its state (R46). -/
theorem loseEntry_eq {p : Addr} {q : Presence} {h : Nat} {f : Roll} (he : entryAt s p = .known q h f) :
    loseEntry p s = changeEntry p (.known .lost h f) (raise .peerLost p.val (b1 (Role.code f.role))) s := by
  unfold loseEntry
  rw [he]

/-- Settles O41: the period through `Called`; the age by the change of one entry, which nothing that reads the view
moves again. -/
theorem viewTimersEnd : Obligations.ViewTimersEnd := by
  unfold Obligations.ViewTimersEnd
  refine fun s d => ⟨fun hd hs => ?period, fun p h f he hp => ?age⟩
  case period =>
    have hexec : exec .rollcallPeriodExpire s = .next (finish (reach d s) (rollcallOver (reach d s))) := by
      simp only [exec, execRollcallPeriodExpire, hd, expiryStep]
      rfl
    have hcalled := finish_called (reach d s) (rollcallOver_called (s := reach d s) hs)
    have hpeers := (finish_follows (reach d s) (rollcallOver (reach d s))).peers
    refine ⟨_, hexec, by simp, (reach_aside d s).trans ((rollcallOver_aside _).trans (finish_aside _ _)),
      fun hne => ?_, hcalled.waits, fun a ha => ?_⟩
    · rw [hcalled.period hne, finish_now, (rollcallOver_frame _).1]
    · rw [hpeers a (by simpa [ownAddr] using ha)]
      simp [entryAt]
  case age =>
    have hown : p ≠ ownAddr (reach (h + ms 1000) s) := hp
    have hexec : exec (.peerAgeExpire p) s =
        .next (finish (reach (h + ms 1000) s) (loseEntry p (reach (h + ms 1000) s))) := by
      simp [exec, execPeerAgeExpire, ageEnd, he, hp, expiryStep, stepOf]
    rw [loseEntry_eq (s := reach (h + ms 1000) s) he] at hexec
    obtain ⟨hlost, hothers⟩ := changeEntry_peer (s := reach (h + ms 1000) s) (e := .known .lost h f)
      (notice := raise .peerLost p.val (b1 (Role.code f.role))) (by simp) (by simp) hown
    have hchanged := changeEntry_aside (s := reach (h + ms 1000) s) (p := p) (e := .known .lost h f)
      (notice := raise .peerLost p.val (b1 (Role.code f.role))) (raise_aside _ _ _)
    have hstraps := hchanged.2.2.2.straps
    have hfollows := (finish_follows (reach (h + ms 1000) s) (changeEntry p (.known .lost h f)
      (raise .peerLost p.val (b1 (Role.code f.role))) (reach (h + ms 1000) s))).peers
    rw [PeersKept, ownAddr, hstraps] at hfollows
    refine ⟨_, hexec, ?_, (reach_aside _ s).trans (hchanged.trans (finish_aside _ _)), (hfollows p hp).trans hlost,
      fun a ha hne => (hfollows a ha).trans (hothers a ha hne), fun hroom => ?_⟩
    · rw [finish_now, changeEntry_now (by simp)]
      simp
    · obtain ⟨y, hy, hkind, hsubject, -⟩ := changeEntry_raised (s := reach (h + ms 1000) s) (p := p)
        (e := .known .lost h f) (k := .peerLost) (n := p.val) (d := b1 (Role.code f.role)) (reach (h + ms 1000) s) hroom
      exact ⟨y, hy, hkind, hsubject⟩

end Sys2Proof.Machine
end

section
/-! PROOF. Settles O53: no PEER notice follows a change of the view, FORGET-PEER, and the peer heard again. -/

namespace Sys2Proof.Machine

open Sys2Proof.Config

variable {s t u : State}

/-! ## The notices of the chassis view -/

/-- PEER-ARRIVED, PEER-LOST and PEER-GONE (R45 to R47). -/
def NoticeKind.ofPeer (k : NoticeKind) : Prop := k = .peerArrived ∨ k = .peerLost ∨ k = .peerGone

/-- No notice of the chassis view has been raised. -/
def PeersQuiet (s t : State) : Prop := ∀ n ∈ t.host.notices, n.kind.ofPeer → n ∈ s.host.notices

theorem PeersQuiet.refl (s : State) : PeersQuiet s s := fun _ hn _ => hn

theorem PeersQuiet.same (h : PeersQuiet s u) (e : t.host = u.host) : PeersQuiet s t := by
  rw [PeersQuiet, e]
  exact h

theorem PeersQuiet.ite {c : Prop} [Decidable c] (ht : PeersQuiet s t) (hu : PeersQuiet s u) :
    PeersQuiet s (if c then t else u) := by
  split
  · exact ht
  · exact hu

theorem PeersQuiet.foldl {α : Type} {f : State → α → State} (hf : ∀ v x, PeersQuiet s v → PeersQuiet s (f v x))
    (l : List α) (h : PeersQuiet s u) : PeersQuiet s (l.foldl f u) := by
  induction l generalizing u with
  | nil => exact h
  | cons x l ih => exact ih (hf u x h)

/-- A notice of another block. -/
theorem raise_quiet {k : NoticeKind} {n : Nat} {d : List Byte} (h : PeersQuiet s u) (hk : ¬ k.ofPeer) :
    PeersQuiet s (raise k n d u) := by
  intro y hy hpeer
  unfold raise at hy
  split at hy
  · obtain hold | hnew := List.mem_append.mp hy
    · exact h y hold hpeer
    · rw [List.mem_singleton.mp hnew] at hpeer
      exact absurd hpeer hk
  · exact h y hy hpeer

theorem raiseOwn_quiet {k : NoticeKind} {d : List Byte} (h : PeersQuiet s u) (hk : ¬ k.ofPeer) :
    PeersQuiet s (raiseOwn k d u) := raise_quiet h hk

/-! ## The budget and the zoning unit -/

theorem reportRedundancy_quiet (h : PeersQuiet s u) : PeersQuiet s (reportRedundancy u) := by
  refine .ite h (raiseOwn_quiet h ?_)
  split <;> simp [NoticeKind.ofPeer]

theorem reportCoverage_quiet (h : PeersQuiet s u) : PeersQuiet s (reportCoverage u) := by
  refine .ite h ?_
  split
  · exact h
  · exact raiseOwn_quiet h (by simp [NoticeKind.ofPeer])
  · exact raiseOwn_quiet h (by simp [NoticeKind.ofPeer])

theorem raiseExhausted_quiet (h : PeersQuiet s u) : PeersQuiet s (raiseExhausted u) :=
  .ite h (raiseOwn_quiet h (by simp [NoticeKind.ofPeer]))

theorem shedPort_quiet (n : Nat) (h : PeersQuiet s u) : PeersQuiet s (shedPort n u) := by
  have hleft (p : Port) : PeersQuiet s (leaveService n p u) := h.same (by simp)
  unfold shedPort
  split
  · exact h
  · exact .ite (raise_quiet ((hleft _).same rfl) (by simp [NoticeKind.ofPeer])) h

theorem refresh_quiet (h : PeersQuiet s u) : PeersQuiet s (refresh u) := h.same (by simp)

theorem compute_quiet (h : PeersQuiet s u) : PeersQuiet s (compute u) := h.same (by simp)

theorem shedAll_quiet (fuel : Nat) (h : PeersQuiet s u) : PeersQuiet s (shedAll fuel u) := by
  induction fuel generalizing u with
  | zero => exact h
  | succ fuel ih =>
    unfold shedAll
    split
    · split
      · exact h
      · exact ih (compute_quiet (refresh_quiet (shedPort_quiet _ h)))
    · exact h

theorem actUncovered_quiet (h : PeersQuiet s u) : PeersQuiet s (actUncovered u) := by
  unfold actUncovered
  split
  · refine .ite ?_ h
    have hshed := shedAll_quiet u.port.recs.length (refresh_quiet (h.same (t := closeWindow u) (by simp)))
    exact .ite (raiseExhausted_quiet hshed) (reportCoverage_quiet hshed)
  · exact raiseExhausted_quiet h
  · exact raiseExhausted_quiet h
  · exact h

theorem examineGates_quiet (h : PeersQuiet s u) : PeersQuiet s (examineGates u) := h.same (by simp)

theorem reevaluate_quiet (h : PeersQuiet s u) : PeersQuiet s (reevaluate u) := by
  have hcomputed : PeersQuiet s (compute (refresh u)) := h.same (by simp)
  have hreported : PeersQuiet s (if comparing (compute (refresh u)) then
      reportCoverage (reportRedundancy (compute (refresh u))) else compute (refresh u)) :=
    .ite (reportCoverage_quiet (reportRedundancy_quiet hcomputed)) hcomputed
  exact .ite (examineGates_quiet (.ite (actUncovered_quiet hreported) hreported)) h

theorem propagate_quiet (fuel : Nat) (h : PeersQuiet s u) : PeersQuiet s (propagate fuel u) := by
  induction fuel generalizing u with
  | zero => exact refresh_quiet h
  | succ fuel ih => exact .ite (refresh_quiet h) (ih (reevaluate_quiet (h.same (by simp))))

theorem handOn_quiet (h : PeersQuiet s u) : PeersQuiet s (handOn u) :=
  propagate_quiet _ (.ite (h.same (by simp)) h)

theorem zoneResult_quiet {g : Nat} {o : Option Addr} {a b : Nat} {l : List Byte} (h : PeersQuiet s u) :
    PeersQuiet s (zoneResult g o a b l u) := raise_quiet h (by simp [NoticeKind.ofPeer])

theorem abandon_quiet (r : Reason) (l : List Byte) (h : PeersQuiet s u) : PeersQuiet s (abandon r l u) :=
  zoneResult_quiet (h.same (by simp))

theorem implicitDecision_quiet (p : Addr) (h : PeersQuiet s u) : PeersQuiet s (implicitDecision p u) := by
  refine .ite ?_ h
  split
  · exact .ite (h.same (by simp)) (.ite (zoneResult_quiet (h.same (by simp))) h)
  · exact h

theorem judgeBehind_quiet (p : Addr) (h : PeersQuiet s u) : PeersQuiet s (judgeBehind p u) := by
  unfold judgeBehind
  split
  · exact .ite (raise_quiet h (by simp [NoticeKind.ofPeer])) h
  · exact h

/-! ## Seats and the view -/

theorem offerStored_quiet (x : Nat) (h : PeersQuiet s u) : PeersQuiet s (offerStored x u) := h.same (by simp)

theorem judgeEscrow_quiet (e : Escrow) (h : PeersQuiet s u) : PeersQuiet s (judgeEscrow u e) := by
  have hmapped (f : Escrow → Escrow) : PeersQuiet s (mapEscrow e.xfer f u) := h
  exact .ite (.ite (offerStored_quiet _ (raise_quiet (hmapped _) (by simp [NoticeKind.ofPeer]))) h)
    (.ite (raise_quiet (hmapped _) (by simp [NoticeKind.ofPeer])) h)

theorem viewChanged_quiet (p : Addr) (h : PeersQuiet s u) : PeersQuiet s (viewChanged p u) := by
  refine .ite (judgeBehind_quiet p (implicitDecision_quiet p (PeersQuiet.foldl (fun _ e hv => judgeEscrow_quiet e hv) _ ?_))) h
  exact (reevaluate_quiet h).same (by simp)

theorem sendNormal_quiet (m : Msg) (h : PeersQuiet s u) : PeersQuiet s (sendNormal m u) := h.same (by simp)

theorem offerAsk_quiet (h : PeersQuiet s u) : PeersQuiet s (offerAsk u) :=
  sendNormal_quiet _ (.ite (raiseOwn_quiet h (by simp [NoticeKind.ofPeer])) h)

/-! ## The departure -/

theorem enterLeaving_quiet (h : PeersQuiet s u) : PeersQuiet s (enterLeaving u) := by
  have hleft : PeersQuiet s (leaveZoning u) := by
    unfold leaveZoning
    split
    · exact h.same (by simp)
    · exact .ite h (abandon_quiet _ _ h)
    · exact .ite h (abandon_quiet _ _ h)
    all_goals exact h
  exact .ite (hleft.same rfl) (h.same rfl)

theorem giveChunk_quiet (h : PeersQuiet s u) : PeersQuiet s (giveChunk u) := by
  have hgiven (a : Addr) (n : Nat) : PeersQuiet s (makeGive a n none u) :=
    .ite (raiseOwn_quiet (h.same (by simp)) (by simp [NoticeKind.ofPeer])) (h.same (by simp))
  unfold giveChunk
  split
  · exact h
  · exact .ite (hgiven _ _) h

theorem endGift_quiet (h : PeersQuiet s u) : PeersQuiet s (endGift u) := .ite (enterLeaving_quiet h) h

theorem enterGift_quiet (h : PeersQuiet s u) : PeersQuiet s (enterGift u) := by
  have hgift : PeersQuiet s { u with dep.step := some .gift } := h
  exact .ite (enterLeaving_quiet hgift) (endGift_quiet (.ite hgift (giveChunk_quiet hgift)))

theorem changeState_quiet (x : StationState) (c : Cause) (h : PeersQuiet s u) : PeersQuiet s (changeState x c u) := by
  have hk : ¬ NoticeKind.ofPeer .stateChanged := by simp [NoticeKind.ofPeer]
  have hstopped (v : State) (hv : PeersQuiet s v) :
      PeersQuiet s (stopAsking { closeWindow v with budget.retry := none }) := hv
  have hended (v : State) (hv : PeersQuiet s v) : PeersQuiet s (updateGoodRun (updateForcing v)) := hv.same (by simp)
  exact hended _ (.ite (raiseOwn_quiet h hk) (hstopped _ (raiseOwn_quiet h hk)))

theorem setSupply_quiet (x : SupplyState) (c : SupplyCause) (h : PeersQuiet s u) : PeersQuiet s (setSupply x c u) :=
  .ite h (raiseOwn_quiet (.ite h h) (by simp [NoticeKind.ofPeer]))

theorem disableOutput_quiet (h : PeersQuiet s u) : PeersQuiet s (disableOutput u) :=
  .ite (.ite h (setSupply_quiet _ _ h)) h

theorem enterDeparted_quiet (h : PeersQuiet s u) : PeersQuiet s (enterDeparted u) :=
  disableOutput_quiet ((changeState_quiet .departed _ h).same rfl)

theorem offerDepart_quiet (h : PeersQuiet s u) : PeersQuiet s (offerDepart u) := by
  have hoffer : PeersQuiet s (offerNormal .depart (offerChanged (handOn u))).1 := (handOn_quiet h).same (by simp)
  unfold offerDepart
  split
  · split <;> (rename_i ho; obtain rfl := offerNormal_of ho)
    · exact enterDeparted_quiet hoffer
    · exact hoffer.same rfl
    · exact hoffer
  · exact h

theorem departProgress_quiet (s0 : State) (h : PeersQuiet s u) : PeersQuiet s (departProgress s0 u) := by
  unfold departProgress
  split
  · split
    · exact h
    · exact .ite h (offerDepart_quiet (enterGift_quiet h))
    · exact offerDepart_quiet (endGift_quiet (.ite (giveChunk_quiet h) h))
    · exact offerDepart_quiet (enterLeaving_quiet h)
    · exact offerDepart_quiet h
  · exact h

/-- The end of a step raises no notice of the chassis view. -/
theorem finish_quiet (s0 : State) (h : PeersQuiet s u) : PeersQuiet s (finish s0 u) := by
  have hasked : PeersQuiet s (asked s0 u) := .ite (.ite (.ite (offerAsk_quiet h) h) (h.same rfl)) h
  have hhanded : PeersQuiet s (handed s0 u) := handOn_quiet (departProgress_quiet s0 hasked)
  have hsettled : PeersQuiet s (settled s0 u) := .ite (handOn_quiet (examineGates_quiet hhanded)) hhanded
  exact hsettled.same (by rw [finish_settled]; simp)

/-! ## FORGET-PEER -/

/-- The peer that the command's byte names (R49). -/
theorem addrOf_byte (p : Byte) : addrOf (fieldAt [p] 0 1) = addrOf p.toNat := by
  simp [fieldAt, beNat]

theorem judgeForget_range {p : Byte} (h : 32 ≤ p.toNat ∨ p.toNat = (ownAddr s).val) :
    judgeForget [p] s = refuse .range s := by
  unfold judgeForget
  rw [addrOf_byte]
  split
  · rfl
  case h_2 a ha =>
    have hval := addrOf_iff.mp ha
    have hlt := a.isLt
    exact if_pos (Fin.ext (by omega))

theorem judgeForget_peer {p : Byte} {a : Addr} (hp : p.toNat = a.val) (ha : a ≠ ownAddr s) :
    judgeForget [p] s = match entryAt s a with
      | .empty => refuse .wrongState s
      | .known .present _ _ => refuse .wrongState s
      | .known .lost _ _ => changeEntry a .empty id (reply .ok [] s)
      | .known .gone _ _ => changeEntry a .empty id (reply .ok [] s) := by
  unfold judgeForget
  rw [addrOf_byte, addrOf_iff.mpr hp]
  exact if_neg ha

/-- A command refused moves no peer's entry. -/
theorem refused_peers (tag : Byte) (s0 : State) (st : Status) :
    PeersKept s (finish s0 (refuse st (taken tag s))) := fun a ha => by
  rw [(finish_follows s0 (refuse st (taken tag s))).peers a (by simpa [ownAddr, refuse] using ha)]
  simp [entryAt, refuse]

theorem replied_aside (st : Status) (tag : Byte) (s : State) :
    LinkKept s (replied st tag s) ∧ SenseKept s (replied st tag s) ∧ DurableKept s (replied st tag s) := by
  refine ⟨?_, ?_, ?_⟩ <;> constructor <;> simp

theorem changeEntry_quiet {p : Addr} {e : Entry} (h : PeersQuiet s u) : PeersQuiet s (changeEntry p e id u) := by
  have hset : PeersQuiet s (setEntry p e u) := h
  exact .ite hset (viewChanged_quiet p hset)

/-- A LOST or GONE peer's entry becomes EMPTY without a notice of its own (R49). -/
theorem forgotten_finish {a : Addr} (tag : Byte) (s0 : State) (ha : a ≠ ownAddr s) :
    let t := finish s0 (changeEntry a .empty id (replied .ok tag s))
    Replied s t .ok tag [] ∧ LinkKept s t ∧ SenseKept s t ∧ DurableKept s t ∧ entryAt t a = .empty ∧
      (∀ b, b ≠ ownAddr s → b ≠ a → entryAt t b = entryAt s b) ∧
      ∀ n ∈ t.host.notices, n.kind = .peerArrived ∨ n.kind = .peerLost ∨ n.kind = .peerGone → n ∈ s.host.notices := by
  intro t
  obtain ⟨hlink, hsense, hport, hdurable⟩ := (changeEntry_aside (s := replied .ok tag s) (p := a) (e := .empty)
    (notice := id) (fun v => SameAside.aside (by simp [SameAside]))).trans (finish_aside s0 _)
  obtain ⟨rlink, rsense, rdurable⟩ := replied_aside .ok tag s
  have hown : ownAddr (replied .ok tag s) = ownAddr s := by simp [ownAddr]
  obtain ⟨hempty, hothers⟩ := changeEntry_peer (s := replied .ok tag s) (e := .empty) (notice := id) (fun _ => rfl)
    (fun _ => rfl) (by rwa [hown])
  have hstraps := (changeEntry_aside (s := replied .ok tag s) (p := a) (e := .empty)
    (notice := id) (fun v => SameAside.aside (by simp [SameAside]))).2.2.2.straps
  have hpeers := (finish_follows s0 (changeEntry a .empty id (replied .ok tag s))).peers
  rw [PeersKept, ownAddr, hstraps, ← ownAddr, hown] at hpeers
  rw [hown] at hothers
  have hquiet : PeersQuiet s t := finish_quiet s0 (changeEntry_quiet fun n hn _ => by simpa using hn)
  refine ⟨⟨by rw [hport.slot]; rfl, by rw [hport.out]; simp⟩, rlink.trans hlink, rsense.trans hsense,
    rdurable.trans hdurable, (hpeers a ha).trans hempty, fun b hb hne => ?_, hquiet⟩
  rw [hpeers b hb, hothers b hb hne]
  simp [entryAt]

/-- A ROLLCALL of an EMPTY peer raises PEER-ARRIVED with its role and 0 (R45, R49). -/
theorem takeRollcall_empty {src : Addr} {p : List Byte} {g : Roll} (he : entryAt s src = .empty)
    (hg : Roll.read p = some g) : takeRollcall src p s = changeEntry src (.known .present s.now g)
      (raise .peerArrived src.val (b1 (Role.code g.role) ++ b1 0)) s := by
  unfold takeRollcall
  rw [hg]
  simp only [he, heardEntry]
  rfl

/-- Settles O53. -/
theorem forgetPeer : Obligations.ForgetPeer := by
  unfold Obligations.ForgetPeer
  refine ⟨fun s tag p hj => ?_, fun s f l g hrx hkind _ he hg hroom => ?_⟩
  · have htaken := transact_taken (len := 1) (judge := judgeForget) (tag := tag) (l := 1#8) (p := [p]) hj rfl rfl
    have hrefused (st : Status) (hjudge : judgeForget [p] (taken tag s) = refuse st (taken tag s)) :
        ∃ t, exec (.forgetPeer [tag, 1#8, p]) s = .next t ∧ Replied s t st tag [] ∧ PeersKept s t :=
      ⟨_, htaken.trans (by rw [hjudge]), (refused_finish _ st).1, refused_peers tag _ st⟩
    refine ⟨fun h => hrefused _ (judgeForget_range (by simpa [ownAddr] using h)), fun a ha hne => ?_⟩
    have hjudge := judgeForget_peer (s := taken tag s) ha (by simpa [ownAddr] using hne)
    rw [show entryAt (taken tag s) a = entryAt s a by simp [entryAt]] at hjudge
    refine ⟨fun hkept => hrefused _ ?_, fun hgone => ?_⟩
    · obtain he | ⟨h, f, he⟩ := hkept <;> rw [hjudge, he]
    · have hforgotten : judgeForget [p] (taken tag s) = changeEntry a .empty id (replied .ok tag s) := by
        obtain ⟨h, f, he | he⟩ := hgone <;> rw [hjudge, he] <;> rfl
      exact ⟨_, htaken.trans (by rw [hforgotten]), forgotten_finish tag (taken tag s) hne⟩
  · have htaken : takeRollcall f.src f.payload { s with link.rx := l } = changeEntry f.src (.known .present s.now g)
        (raise .peerArrived f.src.val (b1 (Role.code g.role) ++ b1 0)) { s with link.rx := l } :=
      takeRollcall_empty he hg
    have hexec : exec .rollcallTaken s = .next (finish { s with link.rx := l }
        (takeRollcall f.src f.payload { s with link.rx := l })) := by
      simp [exec, execRollcallTaken, takeHead, hrx, hkind, stepOf]
    rw [htaken] at hexec
    obtain ⟨y, hy, hk, hsubject, hdetail⟩ := changeEntry_raised (s := { s with link.rx := l }) (p := f.src)
      (e := .known .present s.now g) (k := .peerArrived) (n := f.src.val) (d := b1 (Role.code g.role) ++ b1 0)
      { s with link.rx := l } hroom
    exact ⟨_, hexec, y, hy, hk, hsubject, hdetail⟩

end Sys2Proof.Machine
end

section
/-! PROOF. Settles O21: the rotor check, its two passes over the table and the ROLLCALL of a change (R41, R95 to R98). -/

namespace Sys2Proof.Machine

open Sys2Proof.Config

variable {s t u : State}

/-! ## What a check leaves, and the change it announces -/

/-- Everything outside the cooling block that a check leaves; a change of a rotor's state is announced from JOIN on
(R41, R98). -/
structure Checked (s t : State) : Prop where
  now : t.now = s.now
  st : t.st = s.st
  link : t.link = s.link
  draws : t.draws = s.draws
  port : t.host.slot = s.host.slot ∧ t.host.cursor = s.host.cursor ∧ t.host.out = s.host.out
  zone : t.zone = s.zone
  seat : t.seat = s.seat
  checkAt : t.cool.checkAt = s.cool.checkAt
  own : (ownRecorded t).isSome = (ownRecorded s).isSome
  announce : s.announce = true → t.announce = true
  changed : (∃ i, rotorStateAt i t ≠ rotorStateAt i s) → (ownRecorded s).isSome → t.announce = true

theorem Checked.refl (s : State) : Checked s s :=
  ⟨rfl, rfl, rfl, rfl, ⟨rfl, rfl, rfl⟩, rfl, rfl, rfl, rfl, id, fun ⟨_, h⟩ => absurd rfl h⟩

theorem Checked.trans (h : Checked s u) (k : Checked u t) : Checked s t where
  now := k.now.trans h.now
  st := k.st.trans h.st
  link := k.link.trans h.link
  draws := k.draws.trans h.draws
  port := ⟨k.port.1.trans h.port.1, k.port.2.1.trans h.port.2.1, k.port.2.2.trans h.port.2.2⟩
  zone := k.zone.trans h.zone
  seat := k.seat.trans h.seat
  checkAt := k.checkAt.trans h.checkAt
  own := k.own.trans h.own
  announce := k.announce ∘ h.announce
  changed := by
    rintro ⟨i, hi⟩ hown
    by_cases hu : rotorStateAt i u = rotorStateAt i s
    · exact k.changed ⟨i, hu ▸ hi⟩ (by rwa [h.own])
    · exact k.announce (h.changed ⟨i, hu⟩ hown)

theorem Checked.foldl {α : Type} {f : State → α → State} (hf : ∀ v x, Checked v (f v x)) (l : List α) (s : State) :
    Checked s (l.foldl f s) := by
  induction l generalizing s with
  | nil => exact .refl s
  | cons x l ih => exact (hf s x).trans (ih _)

theorem Sighted.ownSome (h : Sighted s t) : (ownRecorded t).isSome = (ownRecorded s).isSome := by
  rw [ownRecorded, isSome_fields, sighted_ownAddr h, h.own, ← isSome_fields, ownRecorded]

/-- What the judgement of one rotor leaves. -/
structure RotorJudged (i : Nat) (g : Rotor → Rotor) (s t : State) : Prop where
  cool : t.cool = { s.cool with rotors := s.cool.rotors.modify i g }
  now : t.now = s.now
  st : t.st = s.st
  link : t.link = s.link
  draws : t.draws = s.draws
  port : t.host.slot = s.host.slot ∧ t.host.cursor = s.host.cursor ∧ t.host.out = s.host.out
  zone : t.zone = s.zone
  seat : t.seat = s.seat
  view : t.view = s.view
  announce : t.announce = s.announce

theorem judgePresence_judged (i : Nat) (b : Bool) (x : Nat) (s : State) :
    RotorJudged i (Rotor.sensed b s.now) s (judgePresence i b x s) := by
  refine ⟨judgePresence_cool i b x s, by simp, by simp, by simp, by simp, by simp, by simp, by simp, by simp, ?_⟩
  unfold judgePresence
  (repeat' split) <;> simp [setRotor]

theorem measureRotor_judged (i p x : Nat) (s : State) :
    RotorJudged i (Rotor.measured p x) s (measureRotor i p x s) := by
  refine ⟨measureRotor_cool i p x s, by simp, by simp, by simp, by simp, by simp, by simp, by simp, by simp, ?_⟩
  unfold measureRotor
  dsimp only
  (repeat' split) <;> simp [setRotor]

theorem RotorJudged.own {i : Nat} {g : Rotor → Rotor} (h : RotorJudged i g s t) : ownRecorded t = ownRecorded s := by
  simp only [ownRecorded, entryAt, ownAddr, h.st, h.view]

/-- The change of a rotor's state is announced; a judgement that leaves the state announces nothing (R41, R98). -/
theorem rotorEvent_checked {i : Nat} {f : State → State} {g : Rotor → Rotor} (h : RotorJudged i g s (f s)) :
    Checked s (rotorEvent i f s) := by
  have hrotors : (rotorEvent i f s).cool.rotors = (f s).cool.rotors := by simp
  have hown : (ownRecorded (rotorEvent i f s)).isSome = (ownRecorded s).isSome := by
    rw [← h.own]
    unfold rotorEvent
    dsimp only
    split
    · rfl
    · exact (propagate_sighted rounds (reevaluate_sighted (retarget_sighted (noteChange_sighted (.refl _))))).ownSome
  have hannounce (ha : (noteChange (f s)).announce = true) (hne : rotorStateAt i (f s) ≠ rotorStateAt i s) :
      (rotorEvent i f s).announce = true := by
    unfold rotorEvent
    dsimp only
    rw [if_neg hne]
    exact (propagate_sighted rounds (reevaluate_sighted (retarget_sighted (.refl (noteChange (f s)))))).announce ha
  refine
    { now := by simp [h.now], st := by simp [h.st], link := by simp [h.link], draws := by simp [h.draws]
      port := by simp [h.port], zone := by simp [h.zone], seat := by simp [h.seat], checkAt := by simp [h.cool]
      own := hown, announce := fun ha => ?_, changed := ?_ }
  · by_cases hsame : rotorStateAt i (f s) = rotorStateAt i s
    · rw [rotorEvent_of_same i f s hsame, h.announce, ha]
    · exact hannounce (by simp [noteChange, h.announce, ha]) hsame
  · rintro ⟨j, hj⟩ hsome
    refine hannounce (by simp [noteChange, h.own, hsome]) fun hsame => hj ?_
    rw [rotorStateAt, hrotors, ← rotorStateAt]
    by_cases hij : i = j
    · rw [← hij, hsame]
    · simp [rotorStateAt, h.cool, hij]

/-! ## The two passes -/

/-- A measurement judged by the duty and the last duty change before the check, or discarded (R95). -/
def Rotor.checked (pulses expected lastDuty now : Nat) (r : Rotor) : Rotor :=
  if skipsRotor now lastDuty r then r else r.measured pulses expected

/-- The measurement of one rotor in a check. -/
def measureOne (pulses : List Nat) (expected lastDuty : Nat) (s : State) (i : Nat) : State :=
  match s.cool.rotors[i]? with
  | none => s
  | some r => if skipsRotor s.now lastDuty r then s
      else rotorEvent i (measureRotor i (pulses[i]?.getD 0) expected) s

/-- The presence of one rotor in a check. -/
def judgeOne (present : List Bool) (expected : Nat) (s : State) (i : Nat) : State :=
  rotorEvent i (judgePresence i (present[i]?.getD false) expected) s

theorem checkRotors_eq (r : RotorPins) (s : State) : checkRotors r s =
    let v := (List.range s.cool.rotors.length).foldl
      (judgeOne r.present (expectedSpeed s.st.straps s.cool.duty)) { s with cool.checkAt := some (s.now + ms 1000) }
    (List.range v.cool.rotors.length).foldl
      (measureOne r.pulses (expectedSpeed s.st.straps s.cool.duty) s.cool.lastDuty) v := rfl

theorem judgeOne_checked (present : List Bool) (expected : Nat) (s : State) (i : Nat) :
    Checked s (judgeOne present expected s i) := rotorEvent_checked (judgePresence_judged _ _ _ s)

theorem measureOne_checked (pulses : List Nat) (expected lastDuty : Nat) (s : State) (i : Nat) :
    Checked s (measureOne pulses expected lastDuty s i) := by
  unfold measureOne
  split
  · exact .refl s
  · split
    · exact .refl s
    · exact rotorEvent_checked (measureRotor_judged _ _ _ s)

theorem judgeOne_rotors (present : List Bool) (expected : Nat) (s : State) (i : Nat) :
    (judgeOne present expected s i).cool.rotors =
      s.cool.rotors.modify i (Rotor.sensed (present[i]?.getD false) s.now) := by
  simp [judgeOne, judgePresence_cool]

theorem measureOne_rotors (pulses : List Nat) (expected lastDuty : Nat) (s : State) (i : Nat) :
    (measureOne pulses expected lastDuty s i).cool.rotors =
      s.cool.rotors.modify i (Rotor.checked (pulses[i]?.getD 0) expected lastDuty s.now) := by
  unfold measureOne
  split
  case h_1 h => rw [List.modify_eq_self (by simpa using h)]
  case h_2 r h =>
    rw [modify_eq_set h]
    split
    case isTrue hskip => rw [Rotor.checked, if_pos hskip, set_self h]
    case isFalse hskip => simp [Rotor.checked, hskip, measureRotor_cool, modify_eq_set h]

/-- A check judges each rotor's presence and then, by the duty and the last duty change before it, measures it. -/
theorem checkRotors_rotors (r : RotorPins) (s : State) (i : Nat) : (checkRotors r s).cool.rotors[i]? =
    s.cool.rotors[i]?.map fun x => ((x.sensed (r.present[i]?.getD false) s.now).checked (r.pulses[i]?.getD 0)
      (expectedSpeed s.st.straps s.cool.duty) s.cool.lastDuty s.now) := by
  obtain ⟨hnow, hpresence⟩ := rotors_pass (now := s.now) (s := { s with cool.checkAt := some (s.now + ms 1000) })
    (f := judgeOne r.present (expectedSpeed s.st.straps s.cool.duty))
    (g := fun i => Rotor.sensed (r.present[i]?.getD false) s.now)
    (fun v i hv => ⟨(judgeOne_checked _ _ v i).now.trans hv, by rw [judgeOne_rotors, hv]⟩) rfl s.cool.rotors.length
  have hmeasure := (rotors_pass (now := s.now) (f := measureOne r.pulses (expectedSpeed s.st.straps s.cool.duty) s.cool.lastDuty)
    (g := fun i => Rotor.checked (r.pulses[i]?.getD 0) (expectedSpeed s.st.straps s.cool.duty) s.cool.lastDuty s.now)
    (fun v i hv => ⟨(measureOne_checked _ _ _ v i).now.trans hv, by rw [measureOne_rotors, hv]⟩) hnow
    ((List.range s.cool.rotors.length).foldl (judgeOne r.present (expectedSpeed s.st.straps s.cool.duty))
      { s with cool.checkAt := some (s.now + ms 1000) }).cool.rotors.length).2 i
  have hbeyond {l : List Rotor} {f : Rotor → Rotor} :
      (if i < l.length then l[i]?.map f else l[i]?) = l[i]?.map f := by
    split
    · rfl
    case isFalse h => simp [List.getElem?_eq_none (Nat.le_of_not_lt h)]
  rw [checkRotors_eq, hmeasure, hbeyond, hpresence, hbeyond, Option.map_map]
  rfl

theorem checkRotors_checked (r : RotorPins) (s : State) :
    Checked { s with cool.checkAt := some (s.now + ms 1000) } (checkRotors r s) := by
  rw [checkRotors_eq]
  exact (Checked.foldl (judgeOne_checked _ _) _ _).trans (Checked.foldl (measureOne_checked _ _ _) _ _)

theorem checkRotors_length (r : RotorPins) (s : State) :
    (checkRotors r s).cool.rotors.length = s.cool.rotors.length := by
  have hiff (i : Nat) : (checkRotors r s).cool.rotors.length ≤ i ↔ s.cool.rotors.length ≤ i := by
    rw [← List.getElem?_eq_none_iff, checkRotors_rotors, Option.map_eq_none_iff, List.getElem?_eq_none_iff]
  exact le_antisymm ((hiff _).mpr le_rfl) ((hiff _).mp le_rfl)

/-! ## The ROLLCALL of a step's change -/

/-- A change announced at a station that asks for no seat: the step's ROLLCALL waits, where the queue has room, and the
period starts again (R29, R41). -/
theorem finish_announced (s0 : State) (hd : s.st.state ≠ .departing) (ha : s.announce = true) (hs : sending s = true)
    (hcalm : isShort s = false) :
    Called (s.now + ms 250) (s.link.normal.length < normalCap) (finish s0 s) := by
  obtain ⟨hlink, -, hst⟩ := asked_of_calm s0 hcalm
  have hnow : (asked s0 s).now = s.now := by
    unfold asked
    split <;> simp
  have hsettled : (settled s0 s).link = s.link ∧ (settled s0 s).st = s.st ∧ (settled s0 s).now = s.now := by
    unfold settled handed
    rw [departProgress_of_ne _ _ (by rwa [hst])]
    split <;> simp [hlink, hnow]
  obtain ⟨klink, kst, know⟩ := hsettled
  have hcalled := offerRollcall_calls (ownRoll (settled s0 s)) (s := { settled s0 s with announce := false })
    (by rw [sending]; simpa [kst, sending] using hs)
  rw [finish_settled, offerChanged, if_pos ((settled_sighted s0 hd).announce ha)]
  rw [klink, know] at hcalled
  exact hcalled.same (by simp [SameCall])

/-! ## One record through a check -/

theorem checked_of_absent {pulses expected lastDuty now : Nat} {x : Rotor} (h : x.state = .absent) :
    x.checked pulses expected lastDuty now = x := by
  unfold Rotor.checked Rotor.measured
  split
  · rfl
  · simp [h]

/-- A rotor that is present keeps its record through the judgement of presence (R97). -/
theorem sensed_of_present {now : Nat} {x : Rotor} (h : x.state ≠ .absent) : x.sensed true now = x := by
  cases hs : x.state <;> simp_all [Rotor.sensed]

/-- A rotor that has come back is in its own skip period (R95, R97). -/
theorem checked_sensed_back {pulses expected lastDuty now : Nat} {x : Rotor} (h : x.state = .absent) :
    (x.sensed true now).checked pulses expected lastDuty now =
      { x with state := .ok, low := 0, good := 0, skipEnd := some (now + ms 3000) } := by
  have hback : x.sensed true now = { x with state := .ok, low := 0, good := 0, skipEnd := some (now + ms 3000) } := by
    simp [Rotor.sensed, h]
  rw [hback, Rotor.checked, if_pos (by simp [skipsRotor, ms])]

/-- A measurement that is taken of a rotor that is present (R95). -/
theorem checked_sensed_present {pulses expected lastDuty now : Nat} {x : Rotor} (h : x.state ≠ .absent)
    (hskip : skipsRotor now lastDuty x = false) :
    (x.sensed true now).checked pulses expected lastDuty now = x.measured pulses expected := by
  rw [sensed_of_present h, Rotor.checked, if_neg (by simp [hskip])]

/-- Settles O21: a record is what the two passes make of it, and a change of state is announced. -/
theorem rotorCheckJudges : Obligations.RotorCheckJudges := by
  unfold Obligations.RotorCheckJudges
  intro r s d hfan hne hd
  have hchecked := checkRotors_checked r (reach d s)
  have hrotors := checkRotors_rotors r (reach d s)
  obtain ⟨rlink, -, rport, rdurable⟩ := reach_aside d s
  have hexec : exec (.rotorCheck r) s = .next (finish (reach d s) (checkRotors r (reach d s))) := by
    simp [exec, execRotorCheck, during, hfan, hne, hd, expiryStep, stepOf]
  have hnow : (finish (reach d s) (checkRotors r (reach d s))).now = max s.now d := by
    rw [finish_now, hchecked.now]
    rfl
  have hkept : LinkKept (reach d s) (checkRotors r (reach d s)) ∧ PortKept (reach d s) (checkRotors r (reach d s)) ∧
      DurableKept (reach d s) (checkRotors r (reach d s)) := by
    refine ⟨?_, ⟨hchecked.port.1, hchecked.port.2.1, hchecked.port.2.2⟩, ?_⟩ <;> constructor <;>
      simp [hchecked.link, hchecked.draws, hchecked.st, hchecked.zone, hchecked.seat]
  obtain ⟨klink, kport, kdurable⟩ := hkept
  have hkeep : (finish (reach d s) (checkRotors r (reach d s))).cool.rotors =
      (checkRotors r (reach d s)).cool.rotors := by simp
  refine ⟨_, hexec, hnow, rlink.trans (klink.trans (finish_link _ _)), rport.trans (kport.trans (finish_port _ _)),
    rdurable.trans (kdurable.trans (finish_durable _ _)), ?_, by rw [hkeep, checkRotors_length]; rfl, ?_, ?_⟩
  · rw [hnow]
    simp [hchecked.checkAt]
  · rintro ⟨i, x, y, hx, hy, hxy⟩ hsend hdep hown
    rw [hkeep] at hy
    have hstate : (checkRotors r (reach d s)).st = s.st := hchecked.st
    have hchange : rotorStateAt i (checkRotors r (reach d s)) ≠ rotorStateAt i s := by
      rw [rotorStateAt, rotorStateAt, hx, hy]
      simpa using Ne.symm hxy
    have hannounce := hchecked.changed ⟨i, hchange⟩ (Option.isSome_iff_ne_none.mpr hown)
    have hcalled := finish_announced (reach d s) (s := checkRotors r (reach d s)) (by rwa [hstate]) hannounce
      (by rw [sending, hstate]; exact hsend)
      (by simp [isShort, role, hstate, show s.st.straps.role = .fan from hfan])
    rw [hchecked.link] at hcalled
    have hstill : (finish (reach d s) (checkRotors r (reach d s))).st.state ≠ .departed := by
      rw [((finish_follows (reach d s) (checkRotors r (reach d s))).still (by rwa [hstate])).1, hstate]
      intro h
      simp [sending, h] at hsend
    exact ⟨by rw [hcalled.period hstill, finish_now], hcalled.waits⟩
  · intro i x hx
    rw [hkeep, hnow, hrotors, show (reach d s).cool.rotors[i]? = some x from hx]
    have hreach : (reach d s).now = max s.now d := rfl
    simp only [Option.map_some, Option.some.injEq, hreach, expectedSpeed, reach_frame]
    refine ⟨fun hp ha => ?_, fun hp ha => ?_, fun hp ha => ?_, fun hp ha hskip => ?_, fun hp ha hskip hlow => ?_,
      fun hp ha hskip hlow hc => ?_, fun hp ha hskip hlow hc => ?_, fun hp ha hskip hlow => ?_,
      fun hp ha hskip hlow hc => ?_, fun hp ha hskip hlow hc => ?_⟩
    all_goals rw [hp]
    · have hgone : x.sensed false (max s.now d) = { x with state := .absent, low := 0, good := 0, speed := 0 } := by
        cases hs : x.state <;> simp_all [Rotor.sensed]
      rw [hgone, checked_of_absent rfl]
    · have hstays : x.sensed false (max s.now d) = x := by simp [Rotor.sensed, ha]
      rw [hstays, checked_of_absent ha]
    · exact checked_sensed_back ha
    · rw [sensed_of_present ha]
      exact if_pos hskip
    all_goals
      rw [checked_sensed_present (by simp [ha]) hskip]
      unfold Rotor.measured
      simp only [ha, hlow, decide_true, decide_false, if_true]
    · simp
    · rw [if_neg (by omega)]
    · rw [if_pos (by omega)]
    · simp [hc]
    · simp [hc]

end Sys2Proof.Machine
end

section
/-! PROOF. Settles O38: the readers of a ROLLCALL's fields and what they give back composed, and the frames of the chassis
view taken from the receive queue. -/

namespace Sys2Proof.Machine

open Sys2Proof.Config

variable {s t u v : State} {p l : List Byte} {i n m : Nat}

/-! ## Fields and the bytes they are read from -/

theorem foldl_be (l : List Byte) (a : Nat) :
    l.foldl (fun a b => 256 * a + b.toNat) a = 256 ^ l.length * a + beNat l := by
  induction l generalizing a with
  | nil => simp [beNat]
  | cons b l ih =>
    rw [beNat, List.foldl_cons, List.foldl_cons, ih, ih (256 * 0 + b.toNat)]
    simp only [List.length_cons, pow_succ]
    ring

theorem beNat_lt (l : List Byte) : beNat l < 256 ^ l.length := by
  induction l with
  | nil => simp [beNat]
  | cons b l ih =>
    have hb := b.isLt
    rw [beNat, List.foldl_cons, foldl_be, List.length_cons, pow_succ]
    nlinarith

theorem fieldAt_lt (p : List Byte) (i n : Nat) : fieldAt p i n < 256 ^ n :=
  (beNat_lt _).trans_le (Nat.pow_le_pow_right (by norm_num) (List.length_take_le n _))

theorem length_slice (h : i + n ≤ p.length) : ((p.drop i).take n).length = n := by
  simp
  omega

/-- Neighbouring runs of bytes are one run. -/
theorem slice_append {j : Nat} (h : j = i + n) :
    (p.drop i).take n ++ (p.drop j).take m = (p.drop i).take (n + m) := by
  rw [List.take_add, List.drop_drop, h]

theorem byte_eq (x : Byte) (h : n % 256 = x.toNat) : BitVec.ofNat 8 n = x :=
  BitVec.eq_of_toNat_eq (by simpa using h)

theorem b1_beNat (h : l.length = 1) : b1 (beNat l) = l := by
  obtain ⟨x, rfl⟩ := List.length_eq_one_iff.mp h
  simp [b1, beNat]

theorem b2_beNat (h : l.length = 2) : b2 (beNat l) = l := by
  obtain ⟨x, y, rfl⟩ := List.length_eq_two.mp h
  have hx := x.isLt
  have hy := y.isLt
  simp only [b2, beNat, List.foldl_cons, List.foldl_nil]
  rw [byte_eq x (by omega), byte_eq y (by omega)]

theorem b4_beNat (h : l.length = 4) : b4 (beNat l) = l := by
  match l, h with
  | [x, y, z, w], _ =>
    have hx := x.isLt
    have hy := y.isLt
    have hz := z.isLt
    have hw := w.isLt
    simp only [b4, b2, beNat, List.foldl_cons, List.foldl_nil, List.cons_append, List.nil_append]
    rw [byte_eq x (by omega), byte_eq y (by omega), byte_eq z (by omega), byte_eq w (by omega)]

theorem b1_fieldAt (h : i + 1 ≤ p.length) : b1 (fieldAt p i 1) = (p.drop i).take 1 := b1_beNat (length_slice h)

theorem b2_fieldAt (h : i + 2 ≤ p.length) : b2 (fieldAt p i 2) = (p.drop i).take 2 := b2_beNat (length_slice h)

theorem b4_fieldAt (h : i + 4 ≤ p.length) : b4 (fieldAt p i 4) = (p.drop i).take 4 := b4_beNat (length_slice h)

/-! ## What each reader refuses -/

theorem sendingOfCode_none : ∀ {n : Nat}, sendingOfCode n = none ↔ n < 2 ∨ 5 < n
  | 0 | 1 | 2 | 3 | 4 | 5 => by simp [sendingOfCode]
  | n + 6 => by simp [sendingOfCode]

theorem roleOfCode_none : ∀ {n : Nat}, Role.ofCode n = none ↔ 3 < n
  | 0 | 1 | 2 | 3 => by simp [Role.ofCode]
  | n + 4 => by simp [Role.ofCode]

theorem thermalOfCode_none : ∀ {n : Nat}, Thermal.ofCode n = none ↔ 2 < n
  | 0 | 1 | 2 => by simp [Thermal.ofCode]
  | n + 3 => by simp [Thermal.ofCode]

theorem lockOfCode_none : ∀ {n : Nat}, Lock.ofCode n = none ↔ 5 < n
  | 0 | 1 | 2 | 3 | 4 | 5 => by simp [Lock.ofCode]
  | n + 6 => by simp [Lock.ofCode]

theorem addrOf_none : addrOf n = none ↔ 31 < n := by
  simp [addrOf]
  omega

theorem inRange_none {lo hi : Nat} : inRange lo hi n = none ↔ n < lo ∨ hi < n := by
  simp [inRange]
  omega

theorem roleField_none {own : Bool} {lo hi : Nat} :
    roleField own lo hi n = none ↔ (own = true ∧ (n < lo ∨ hi < n)) ∨ (own = false ∧ n ≠ 0xFF) := by
  cases own
  · by_cases hn : n = 0xFF <;> simp [roleField, noneByte, hn]
  · simp [roleField, inRange_none]

theorem beInt16_eq (h : l.length = 2) :
    beInt16 l = if beNat l < 32768 then (beNat l : Int) else (beNat l : Int) - 65536 := by
  have hlt : beNat l < 65536 := by simpa [h] using beNat_lt l
  rw [beInt16, BitVec.toInt_eq_toNat_cond, BitVec.toNat_ofNat, Nat.mod_eq_of_lt hlt]
  split <;> split <;> omega

theorem hottestOf_none (h : l.length = 2) :
    hottestOf l = none ↔ beNat l ≠ 0x8000 ∧ 150 < beNat l ∧ beNat l < 65536 - 40 := by
  have hlt : beNat l < 65536 := by simpa [h] using beNat_lt l
  have hsigned := beInt16_eq h
  unfold hottestOf
  split
  · simp [*]
  · split at hsigned <;> split <;> simp <;> omega

theorem longForm_none {lock : Lock} : longForm p lock = none ↔ (p.length = 23 ∧ lock ≠ .free) ∨
    (p.length ≠ 23 ∧ (lock = .free ∨ 31 < fieldAt p 23 1 ∨ fieldAt p 24 4 = 0)) := by
  have hlt : fieldAt p 24 4 < 4294967296 := fieldAt_lt p 24 4
  have haddr := addrOf_none (n := fieldAt p 23 1)
  have hgen := inRange_none (n := fieldAt p 24 4) (lo := 1) (hi := max32)
  unfold longForm
  by_cases hlen : p.length = 23
  · by_cases hfree : lock = .free <;> simp [hlen, hfree]
  · by_cases hfree : lock = .free
    · simp [hlen, hfree]
    · cases ha : addrOf (fieldAt p 23 1) <;> cases hg : inRange 1 max32 (fieldAt p 24 4) <;>
        simp [hlen, hfree] <;> simp [ha, hg, max32] at haddr hgen <;> omega

/-! ## What each reader gives back -/

theorem code_of_sendingOfCode {x : StationState} (h : sendingOfCode n = some x) : x.code = n := by
  unfold sendingOfCode at h
  split at h <;> cases h <;> rfl

theorem code_of_roleOfCode {x : Role} (h : Role.ofCode n = some x) : Role.code x = n := by
  unfold Role.ofCode at h
  split at h <;> cases h <;> rfl

theorem code_of_thermalOfCode {x : Thermal} (h : Thermal.ofCode n = some x) : x.code = n := by
  unfold Thermal.ofCode at h
  split at h <;> cases h <;> rfl

theorem code_of_lockOfCode {x : Lock} (h : Lock.ofCode n = some x) : x.code = n := by
  unfold Lock.ofCode at h
  split at h <;> cases h <;> rfl

theorem inRange_some {lo hi x : Nat} : inRange lo hi n = some x ↔ (lo ≤ n ∧ n ≤ hi) ∧ n = x := by
  simp [inRange]

theorem bOpt_of_roleField {own : Bool} {lo hi : Nat} {x : Option Nat} (h : roleField own lo hi n = some x) :
    bOpt x = b1 n := by
  unfold roleField at h
  split at h
  · obtain ⟨y, hy, rfl⟩ := Option.map_eq_some_iff.mp h
    rw [← (inRange_some.mp hy).2, bOpt]
  · split at h
    case isTrue hnone => cases h; rw [hnone, bOpt]
    case isFalse => cases h

theorem supplyCode_of_ofCode (h : n ≤ 4) : (SupplyState.ofCode n).map SupplyState.code = some n := by
  interval_cases n <;> rfl

/-- The supply state read is spelt by the byte it is read from. -/
theorem bOpt_of_supplyField {own : Bool} {x : Option Nat} (h : roleField own 0 4 n = some x) :
    bOpt ((x.bind SupplyState.ofCode).map SupplyState.code) = b1 n := by
  rw [← bOpt_of_roleField h]
  unfold roleField at h
  split at h
  · obtain ⟨y, hy, rfl⟩ := Option.map_eq_some_iff.mp h
    obtain ⟨hrange, rfl⟩ := inRange_some.mp hy
    rw [Option.bind_some, supplyCode_of_ofCode hrange.2]
  · split at h <;> cases h
    rfl

theorem flags_spelt (h : n ≤ 3) :
    (if decide (n % 2 = 1) = true then 1 else 0) + (if decide (n / 2 = 1) = true then 2 else 0) = n := by
  interval_cases n <;> rfl

theorem bTemp_of_hottestOf {x : Option Int} (hlen : l.length = 2) (h : hottestOf l = some x) : bTemp x = l := by
  have hlt : beNat l < 2 ^ 16 := by simpa [hlen] using beNat_lt l
  unfold hottestOf at h
  split at h
  case isTrue hinvalid => cases h; rw [bTemp, ← hinvalid, b2_beNat hlen]
  case isFalse =>
    split at h <;> cases h
    rw [bTemp, b2i, beInt16, BitVec.ofInt_toInt, BitVec.toNat_ofNat, Nat.mod_eq_of_lt hlt, b2_beNat hlen]

/-- The bytes that follow the lock spell the originator and the generation of the long form. -/
theorem longForm_spelt {lock : Lock} {x : Option Addr × Option Nat} (hlen : p.length = 23 ∨ p.length = 28)
    (h : longForm p lock = some x) :
    (if lock = .free then [] else bOpt (x.1.map (·.val)) ++ b4 (x.2.getD 0)) = (p.drop 23).take 5 := by
  unfold longForm at h
  split at h
  case isTrue hshort =>
    split at h
    case isTrue hfree => rw [if_pos hfree, List.drop_eq_nil_of_le hshort.le, List.take_nil]
    case isFalse => cases h
  case isFalse hlong =>
    have hlen : p.length = 28 := hlen.resolve_left hlong
    split at h
    case isTrue => cases h
    case isFalse hfree =>
      split at h
      case h_1 a g ha hg =>
        cases h
        have hval : bOpt (some a.val) = b1 (fieldAt p 23 1) := by rw [bOpt, addrOf_iff.mp ha]
        rw [if_neg hfree, Option.map_some, hval, Option.getD_some, ← (inRange_some.mp hg).2, b1_fieldAt (by omega),
          b4_fieldAt (by omega), slice_append rfl]
      case h_2 => cases h

/-! ## The payload read -/

/-- A reader that goes on is refused where it is or where what follows it is. -/
theorem bind_none_iff {α β : Type} {x : Option α} {f : α → Option β} {A B : Prop} (hx : x = none ↔ A)
    (hf : ∀ a, x = some a → (f a = none ↔ B)) : x >>= f = none ↔ A ∨ B := by
  cases x with
  | none => simpa using .inl (hx.mp rfl)
  | some a => simpa [← hx] using hf a rfl

/-- A ROLLCALL is refused exactly where one of its readers refuses its field (R42, R45). -/
theorem read_none (hlen : 23 ≤ p.length) : Roll.read p = none ↔
    (fieldAt p 0 1 < 2 ∨ 5 < fieldAt p 0 1) ∨ 3 < fieldAt p 1 1 ∨ 2 < fieldAt p 2 1 ∨
    (fieldAt p 3 1 < 0 ∨ 3 < fieldAt p 3 1) ∨
    (fieldAt p 4 2 ≠ 0x8000 ∧ 150 < fieldAt p 4 2 ∧ fieldAt p 4 2 < 65536 - 40) ∨
    (fieldAt p 6 1 < 30 ∨ 100 < fieldAt p 6 1) ∨
    ((fieldAt p 1 1 = 2 ∧ (fieldAt p 7 1 < 30 ∨ 100 < fieldAt p 7 1)) ∨ (fieldAt p 1 1 ≠ 2 ∧ fieldAt p 7 1 ≠ 0xFF)) ∨
    ((fieldAt p 1 1 = 2 ∧ (fieldAt p 8 1 < 0 ∨ 8 < fieldAt p 8 1)) ∨ (fieldAt p 1 1 ≠ 2 ∧ fieldAt p 8 1 ≠ 0xFF)) ∨
    ((fieldAt p 1 1 = 3 ∧ (fieldAt p 9 1 < 0 ∨ 4 < fieldAt p 9 1)) ∨ (fieldAt p 1 1 ≠ 3 ∧ fieldAt p 9 1 ≠ 0xFF)) ∨
    (fieldAt p 10 2 < 0 ∨ 2700 < fieldAt p 10 2) ∨ (fieldAt p 12 2 < 0 ∨ 2700 < fieldAt p 12 2) ∨
    (fieldAt p 14 2 < 0 ∨ 3000 < fieldAt p 14 2) ∨ (fieldAt p 16 2 < 0 ∨ 4096 < fieldAt p 16 2) ∨
    5 < fieldAt p 22 1 ∨ ((p.length = 23 ∧ fieldAt p 22 1 ≠ 0) ∨
      (p.length ≠ 23 ∧ (fieldAt p 22 1 = 0 ∨ 31 < fieldAt p 23 1 ∨ fieldAt p 24 4 = 0))) ∨ False := by
  refine bind_none_iff sendingOfCode_none fun _ _ => bind_none_iff roleOfCode_none fun role hrole =>
    bind_none_iff thermalOfCode_none fun _ _ => bind_none_iff inRange_none fun _ _ =>
    bind_none_iff (hottestOf_none (length_slice (by omega))) fun _ _ => bind_none_iff inRange_none fun _ _ =>
    bind_none_iff ?duty fun _ _ => bind_none_iff ?failed fun _ _ => bind_none_iff ?supply fun _ _ =>
    bind_none_iff inRange_none fun _ _ => bind_none_iff inRange_none fun _ _ => bind_none_iff inRange_none fun _ _ =>
    bind_none_iff inRange_none fun _ _ => bind_none_iff lockOfCode_none fun lock hlock => bind_none_iff ?long fun _ _ =>
    by simp
  case long =>
    rw [longForm_none, ← code_of_lockOfCode hlock]
    cases lock <;> simp [Lock.code]
  all_goals
    rw [roleField_none, ← code_of_roleOfCode hrole]
    cases role <;> simp [Role.code]

/-- A ROLLCALL read is spelt by the bytes it is read from (R42). -/
theorem bytes_of_read {g : Roll} (hlen : p.length = 23 ∨ p.length = 28) (h : Roll.read p = some g) : g.bytes = p := by
  unfold Roll.read at h
  obtain ⟨state, hstate, h⟩ := Option.bind_eq_some_iff.mp h
  obtain ⟨role, hrole, h⟩ := Option.bind_eq_some_iff.mp h
  obtain ⟨thermal, hthermal, h⟩ := Option.bind_eq_some_iff.mp h
  obtain ⟨flags, hflags, h⟩ := Option.bind_eq_some_iff.mp h
  obtain ⟨hottest, hhottest, h⟩ := Option.bind_eq_some_iff.mp h
  obtain ⟨demand, hdemand, h⟩ := Option.bind_eq_some_iff.mp h
  obtain ⟨duty, hduty, h⟩ := Option.bind_eq_some_iff.mp h
  obtain ⟨failed, hfailed, h⟩ := Option.bind_eq_some_iff.mp h
  obtain ⟨supply, hsupply, h⟩ := Option.bind_eq_some_iff.mp h
  obtain ⟨claim, hclaim, h⟩ := Option.bind_eq_some_iff.mp h
  obtain ⟨tent, htent, h⟩ := Option.bind_eq_some_iff.mp h
  obtain ⟨offer, hoffer, h⟩ := Option.bind_eq_some_iff.mp h
  obtain ⟨giveable, hgiveable, h⟩ := Option.bind_eq_some_iff.mp h
  obtain ⟨lock, hlock, h⟩ := Option.bind_eq_some_iff.mp h
  obtain ⟨long, hlong, h⟩ := Option.bind_eq_some_iff.mp h
  cases h
  obtain ⟨hrange, rfl⟩ := inRange_some.mp hflags
  obtain ⟨-, rfl⟩ := inRange_some.mp hdemand
  obtain ⟨-, rfl⟩ := inRange_some.mp hclaim
  obtain ⟨-, rfl⟩ := inRange_some.mp htent
  obtain ⟨-, rfl⟩ := inRange_some.mp hoffer
  obtain ⟨-, rfl⟩ := inRange_some.mp hgiveable
  have hwhole : (p.drop 0).take (23 + 5) = p := by rw [List.drop_zero, List.take_of_length_le (by omega)]
  rw [Roll.bytes]
  dsimp only
  rw [code_of_sendingOfCode hstate, code_of_roleOfCode hrole, code_of_thermalOfCode hthermal,
    flags_spelt hrange.2, bTemp_of_hottestOf (length_slice (by omega)) hhottest, bOpt_of_roleField hduty,
    bOpt_of_roleField hfailed, bOpt_of_supplyField hsupply, code_of_lockOfCode hlock, longForm_spelt hlen hlong]
  rw [b1_fieldAt (by omega), b1_fieldAt (by omega), b1_fieldAt (by omega), b1_fieldAt (by omega),
    b1_fieldAt (by omega), b1_fieldAt (by omega), b1_fieldAt (by omega), b1_fieldAt (by omega), b1_fieldAt (by omega),
    b2_fieldAt (by omega), b2_fieldAt (by omega), b2_fieldAt (by omega), b2_fieldAt (by omega), b4_fieldAt (by omega)]
  exact (by simp only [slice_append] : _ = (p.drop 0).take (23 + 5)).trans hwhole

/-! ## Frames taken -/

/-- The head of the receive queue is taken: the rest waits, and of the view only its sender's entry and the own entry may
change. -/
structure FrameTaken (src : Addr) (l : List RxFrame) (s t : State) : Prop where
  rx : t.link.rx = l
  sense : SenseKept s t
  port : PortKept s t
  durable : DurableKept s t
  others : ∀ a, a ≠ ownAddr s → a ≠ src → entryAt t a = entryAt s a

/-- What is not read again is aside. -/
theorem aside_refl (s : State) : Aside s s := SameAside.aside (by simp [SameAside])

/-- What was taken before the end of the step is what the step has taken; the sender's entry stays. -/
theorem finish_taken {src : Addr} {q : List RxFrame} (s0 : State) (hsrc : src ≠ ownAddr s)
    (haside : Aside { s with link.rx := q } v)
    (hothers : ∀ a, a ≠ ownAddr s → a ≠ src → entryAt v a = entryAt s a) :
    FrameTaken src q s (finish s0 v) ∧ entryAt (finish s0 v) src = entryAt v src := by
  obtain ⟨hlink, hsense, hport, hdurable⟩ := haside.trans (finish_aside s0 v)
  have hpeers := (finish_follows s0 v).peers
  rw [PeersKept, ownAddr, haside.2.2.2.straps] at hpeers
  exact ⟨⟨hlink.rx, ⟨hsense.readings, hsense.hottest, hsense.demand, hsense.forced, hsense.counts, hsense.thermal,
    hsense.rotors, hsense.timers, hsense.fault⟩, ⟨hport.slot, hport.cursor, hport.out⟩, ⟨hdurable.settings,
    hdurable.straps, hdurable.active, hdurable.gen, hdurable.lastProposed, hdurable.draft, hdurable.receipts,
    hdurable.serial⟩, fun a ha hne => (hpeers a ha).trans (hothers a ha hne)⟩, hpeers src hsrc⟩

/-- A frame that leaves the view as it was. -/
theorem unchanged_taken {src : Addr} {q : List RxFrame} (s0 : State) (hsrc : src ≠ ownAddr s) :
    FrameTaken src q s (finish s0 { s with link.rx := q }) ∧
      entryAt (finish s0 { s with link.rx := q }) src = entryAt s src :=
  finish_taken s0 hsrc (aside_refl _) fun _ _ _ => rfl

/-- A frame that gives its sender the entry `e`. -/
theorem changed_taken {src : Addr} {q : List RxFrame} {e : Entry} {notice : State → State} (s0 : State)
    (hsrc : src ≠ ownAddr s) (hnotice : ∀ v, (notice v).view.entries = v.view.entries) (haside : ∀ v, Aside v (notice v)) :
    FrameTaken src q s (finish s0 (changeEntry src e notice { s with link.rx := q })) ∧
      entryAt (finish s0 (changeEntry src e notice { s with link.rx := q })) src = e := by
  obtain ⟨hentry, hothers⟩ := changeEntry_peer (s := { s with link.rx := q }) (e := e) hnotice
    (fun v => (haside v).2.2.2.straps) hsrc
  obtain ⟨htaken, hsender⟩ := finish_taken s0 hsrc (changeEntry_aside (s := { s with link.rx := q }) haside) hothers
  exact ⟨htaken, hsender.trans hentry⟩

/-- The event of the kind at the head of the receive queue takes it (R36). -/
theorem takeHead_head {k : Kind} {f : RxFrame} {q : List RxFrame} {act : RxFrame → State → State}
    (hrx : s.link.rx = f :: q) (hk : f.kind = k) :
    takeHead k act s = .next (finish { s with link.rx := q } (act f { s with link.rx := q })) := by
  simp [takeHead, hrx, hk, stepOf]

theorem arrived_kept (src : Addr) (was : Entry) (g : Roll) (s : State) :
    (arrived src was g s).view.entries = s.view.entries ∧ Aside s (arrived src was g s) := by
  unfold arrived
  split
  · exact ⟨by simp, raise_aside _ _ _ _⟩
  · split
    · exact ⟨rfl, aside_refl _⟩
    · exact ⟨by simp, raise_aside _ _ _ _⟩
  · exact ⟨by simp, raise_aside _ _ _ _⟩
  · exact ⟨by simp, raise_aside _ _ _ _⟩

/-- A peer heard is PRESENT; its age goes on (R45, R46). -/
theorem heardEntry_present (was : Entry) (now : Nat) (g : Roll) : ∃ h, heardEntry was now g = .known .present h g ∧
    ∀ p h' g', was = .known p h' g' → h = h' := by
  cases was with
  | empty => exact ⟨now, rfl, fun _ _ _ h => by cases h⟩
  | known q h f => exact ⟨h, rfl, fun _ _ _ he => by cases he; rfl⟩

theorem rollcall_taken {f : RxFrame} {q : List RxFrame} (hrx : s.link.rx = f :: q) (hsrc : f.src ≠ ownAddr s)
    (hk : f.kind = .rollcall) : ∃ t, exec .rollcallTaken s = .next t ∧ FrameTaken f.src q s t ∧
      (Roll.read f.payload = none → entryAt t f.src = entryAt s f.src) ∧
      (∀ g, Roll.read f.payload = some g → ∃ h, entryAt t f.src = .known .present h g ∧
        ∀ p h' g', entryAt s f.src = .known p h' g' → h = h') := by
  refine ⟨_, takeHead_head hrx hk, ?_⟩
  unfold takeRollcall
  cases hread : Roll.read f.payload with
  | none =>
    obtain ⟨htaken, hentry⟩ := unchanged_taken (q := q) { s with link.rx := q } hsrc
    exact ⟨htaken, fun _ => hentry, fun _ h => by cases h⟩
  | some g =>
    obtain ⟨h, hheard, hage⟩ := heardEntry_present (entryAt s f.src) s.now g
    obtain ⟨htaken, hentry⟩ := changed_taken (q := q) (e := heardEntry (entryAt s f.src) s.now g)
      { s with link.rx := q } hsrc
      (fun v => (arrived_kept f.src (entryAt s f.src) g v).1) (fun v => (arrived_kept f.src (entryAt s f.src) g v).2)
    refine ⟨htaken, fun h => by (cases h), fun _ hg => ?_⟩
    cases hg
    exact ⟨h, hentry.trans hheard, hage⟩

theorem supplyDrop_taken {f : RxFrame} {q : List RxFrame} (hrx : s.link.rx = f :: q) (hsrc : f.src ≠ ownAddr s)
    (hk : f.kind = .supplyDrop) : ∃ t, exec .supplyDropTaken s = .next t ∧ FrameTaken f.src q s t ∧
      (entryAt s f.src = .empty → entryAt t f.src = .empty) ∧
      (∀ p h g, entryAt s f.src = .known p h g → entryAt t f.src =
        if g.role = .supply then .known p h { g with offer := 0, supply := some .warning } else .known p h g) := by
  refine ⟨_, takeHead_head hrx hk, ?_⟩
  unfold takeDrop
  rw [show entryAt { s with link.rx := q } f.src = entryAt s f.src from rfl]
  have hsame := unchanged_taken (q := q) { s with link.rx := q } hsrc
  cases he : entryAt s f.src with
  | empty => exact ⟨hsame.1, fun _ => hsame.2.trans he, fun _ _ _ h => by cases h⟩
  | known p h g =>
    dsimp only
    split
    case isTrue hsupply =>
      obtain ⟨htaken, hentry⟩ := changed_taken (q := q) (e := .known p h { g with offer := 0, supply := some .warning })
        (notice := id) { s with link.rx := q } hsrc (fun _ => rfl) aside_refl
      refine ⟨htaken, fun h => by (cases h), fun _ _ _ heq => ?_⟩
      cases heq
      rw [if_pos hsupply]
      exact hentry
    case isFalse hother =>
      refine ⟨hsame.1, fun h => by (cases h), fun _ _ _ heq => ?_⟩
      cases heq
      rw [if_neg hother]
      exact hsame.2.trans he

theorem depart_taken {f : RxFrame} {q : List RxFrame} (hrx : s.link.rx = f :: q) (hsrc : f.src ≠ ownAddr s)
    (hk : f.kind = .depart) : ∃ t, exec .departTaken s = .next t ∧ FrameTaken f.src q s t ∧
      (entryAt s f.src = .empty → entryAt t f.src = .empty) ∧
      (∀ p h g, entryAt s f.src = .known p h g → entryAt t f.src = .known .gone h g) := by
  refine ⟨_, takeHead_head hrx hk, ?_⟩
  unfold takeDepart
  rw [show entryAt { s with link.rx := q } f.src = entryAt s f.src from rfl]
  have hsame := unchanged_taken (q := q) { s with link.rx := q } hsrc
  have hgone (h : Nat) (g : Roll) := changed_taken (q := q) (e := .known .gone h g) { s with link.rx := q } hsrc
    (notice := raise .peerGone f.src.val (b1 (Role.code g.role))) (by simp) (raise_aside _ _ _)
  cases he : entryAt s f.src with
  | empty => exact ⟨hsame.1, fun _ => hsame.2.trans he, fun _ _ _ h => by cases h⟩
  | known p h g =>
    cases p with
    | gone => exact ⟨hsame.1, fun h => by (cases h), fun _ _ _ heq => by cases heq; exact hsame.2.trans he⟩
    | present => exact ⟨(hgone h g).1, fun h => by (cases h), fun _ _ _ heq => by cases heq; exact (hgone h g).2⟩
    | lost => exact ⟨(hgone h g).1, fun h => by (cases h), fun _ _ _ heq => by cases heq; exact (hgone h g).2⟩

/-- Settles O38: the checks from what each reader refuses, the record from the bytes it is spelt by, and each frame as one
change of its sender's entry. -/
theorem viewFramesTaken : Obligations.ViewFramesTaken := by
  unfold Obligations.ViewFramesTaken
  refine ⟨fun p hlen => (read_none (by omega)).trans (by grind), fun p g hlen => bytes_of_read hlen,
    fun s f l hrx hsrc => ⟨fun hk => ?_, fun hk => ?_, fun hk => ?_⟩⟩
  · obtain ⟨t, hexec, htaken, hentry⟩ := rollcall_taken hrx hsrc hk
    exact ⟨t, hexec, htaken.rx, htaken.sense, htaken.port, htaken.durable, htaken.others, hentry⟩
  · obtain ⟨t, hexec, htaken, hentry⟩ := supplyDrop_taken hrx hsrc hk
    exact ⟨t, hexec, htaken.rx, htaken.sense, htaken.port, htaken.durable, htaken.others, hentry⟩
  · obtain ⟨t, hexec, htaken, hentry⟩ := depart_taken hrx hsrc hk
    exact ⟨t, hexec, htaken.rx, htaken.sense, htaken.port, htaken.durable, htaken.others, hentry⟩

end Sys2Proof.Machine
end

section
/-! PROOF. Settles O26, first part: what the power budget unit reads at an address, and the capacity, the running sum and
the coverage that are computed from it. -/

namespace Sys2Proof.Machine

open Sys2Proof.Config

variable {s t u : State} {v : List (Option Eff)} {a : Addr}

/-! ## The effective values read -/

theorem effAt_live (h : s.budget.heldView = none) : effAt s a = (entryAt s a).eff := by
  simp [effAt, budgetView, h, liveView, entryAt]

theorem effAt_held (h : s.budget.heldView = some v) (ha : a ≠ ownAddr s) : effAt s a = (v[a.val]?).join := by
  have hval : (ownAddr s).val ≠ a.val := fun he => ha (Fin.ext he.symm)
  simp [effAt, budgetView, h, hval]

theorem effAt_held_own (h : s.budget.heldView = some v) (hlen : v.length = 32) :
    effAt s (ownAddr s) = (entryAt s (ownAddr s)).eff := by
  simp [effAt, budgetView, h, hlen]

/-! ## Sums over the addresses -/

/-- A sum over the values read is a sum over the addresses, absent values adding nothing. -/
theorem sum_zipIdx (F : Option Eff → Nat → Nat) (v : List (Option Eff)) :
    (v.zipIdx.map fun x => F x.1 x.2).sum = ∑ i ∈ Finset.range v.length, F (v[i]?).join i := by
  induction v using List.reverseRecOn with
  | nil => simp
  | append_singleton v x ih =>
    rw [List.zipIdx_append, List.map_append, List.sum_append, ih, List.length_append, List.length_singleton,
      Finset.sum_range_succ]
    congr 1
    · refine Finset.sum_congr rfl fun i hi => ?_
      rw [List.getElem?_append_left (Finset.mem_range.mp hi)]
    · simp

theorem sum_addresses (F : Option Eff → Nat → Nat) (hnone : ∀ i, F none i = 0) (hlen : (budgetView s).length ≤ 32) :
    ((budgetView s).zipIdx.map fun x => F x.1 x.2).sum = ∑ a : Addr, F (effAt s a) a.val := by
  rw [sum_zipIdx F]
  have hrange : Finset.range (budgetView s).length ⊆ Finset.range 32 := Finset.range_subset_range.mpr hlen
  rw [Finset.sum_subset hrange fun i _ hi => ?_, Finset.sum_range]
  · rfl
  · rw [List.getElem?_eq_none (by simpa using hi)]
    exact hnone i

/-! ## Usable capacity (R60) -/

/-- The offer that a value read brings to the usable capacity. -/
def suppliedBy : Option Eff → Nat
  | none => 0
  | some x => if x.role = .supply then x.offer else 0

theorem suppliedAt_eq (s : State) (a : Addr) : suppliedAt s a = suppliedBy (effAt s a) := by
  unfold suppliedAt suppliedBy
  split <;> simp_all

/-- Each counted supply brings its own offer; nothing else is counted. -/
theorem countedOffers_eq (v : List (Option Eff)) : countedOffers v = (v.map suppliedBy).filter (0 < ·) := by
  induction v with
  | nil => rfl
  | cons e v ih =>
    rw [countedOffers] at ih ⊢
    cases e with
    | none => simpa [suppliedBy] using ih
    | some x => by_cases hx : x.role = .supply <;> by_cases ho : 0 < x.offer <;> simp [suppliedBy, hx, ho, ih]

theorem sum_positive (l : List Nat) : (l.filter (0 < ·)).sum = l.sum := by
  induction l with
  | nil => rfl
  | cons n l ih => rcases Nat.eq_zero_or_pos n with hn | hn <;> simp [hn, ih]

theorem length_positive (l : List Nat) : (l.filter (0 < ·)).length = (l.map fun n => if 0 < n then 1 else 0).sum := by
  induction l with
  | nil => rfl
  | cons n l ih => rcases Nat.eq_zero_or_pos n with hn | hn <;> simp [hn, ih, Nat.add_comm]

theorem maxOf_le {l : List Nat} {c : Nat} : maxOf l ≤ c ↔ ∀ x ∈ l, x ≤ c := by
  have hfrom (m : Nat) : l.foldl max m ≤ c ↔ m ≤ c ∧ ∀ x ∈ l, x ≤ c := by
    induction l generalizing m with
    | nil => simp
    | cons n l ih => simp [ih, and_assoc]
  exact (hfrom 0).trans (and_iff_right (Nat.zero_le c))

theorem map_zipIdx (f : Option Eff → Nat) (v : List (Option Eff)) : v.map f = v.zipIdx.map fun x => f x.1 := by
  rw [← List.zipIdx_map_fst 0 v, List.map_map, List.zipIdx_map_fst]
  rfl

theorem countedOffers_sum (hlen : (budgetView s).length ≤ 32) :
    (countedOffers (budgetView s)).sum = ∑ a, suppliedAt s a := by
  rw [countedOffers_eq, sum_positive, map_zipIdx, sum_addresses (fun e _ => suppliedBy e) (fun _ => rfl) hlen]
  simp only [suppliedAt_eq]

theorem countedOffers_length (hlen : (budgetView s).length ≤ 32) :
    (countedOffers (budgetView s)).length = (Finset.univ.filter fun a => 0 < suppliedAt s a).card := by
  rw [countedOffers_eq, length_positive, List.map_map, map_zipIdx,
    sum_addresses (fun e _ => ((fun n => if 0 < n then 1 else 0) ∘ suppliedBy) e) (fun _ => rfl) hlen,
    Finset.card_filter]
  simp only [suppliedAt_eq, Function.comp_apply]

theorem countedOffers_max (hlen : (budgetView s).length ≤ 32) :
    maxOf (countedOffers (budgetView s)) = Finset.univ.sup (suppliedAt s) := by
  refine eq_of_forall_ge_iff fun c => ?_
  rw [maxOf_le, Finset.sup_le_iff, countedOffers_eq]
  constructor
  · intro h a _
    rcases Nat.eq_zero_or_pos (suppliedAt s a) with hzero | hpos
    · omega
    · rw [suppliedAt_eq, effAt] at hpos ⊢
      cases he : (budgetView s)[a.val]? with
      | none => simp [he, suppliedBy] at hpos
      | some e =>
        rw [he] at hpos
        exact h _ (List.mem_filter.mpr ⟨List.mem_map_of_mem (List.mem_of_getElem? he), by simpa using hpos⟩)
  · intro h x hx
    obtain ⟨e, he, rfl⟩ := List.mem_map.mp (List.mem_filter.mp hx).1
    obtain ⟨i, hi, rfl⟩ := List.mem_iff_getElem.mp he
    have := h ⟨i, by omega⟩ (Finset.mem_univ _)
    rwa [suppliedAt_eq, effAt, List.getElem?_eq_getElem hi] at this

theorem sup_le_sum (f : Addr → Nat) : Finset.univ.sup f ≤ ∑ a, f a :=
  Finset.sup_le fun a _ => Finset.single_le_sum (fun _ _ => Nat.zero_le _) (Finset.mem_univ a)

/-! ## Running sum and coverage (R68) -/

/-- What a value read at `i` adds to the running sum of a station of role `r` at `own`. -/
def claimUpTo (r : Role) (own : Nat) (e : Option Eff) (i : Nat) : Nat :=
  match e with
  | none => 0
  | some x => if x.role ≠ .supply ∧ (coverageClass x.role < coverageClass r ∨ (x.role = r ∧ i ≤ own)) then x.claim else 0

theorem rankClass_eq (r : Role) : rankClass r = if r = .supply then none else some (coverageClass r) := by
  cases r <;> rfl

theorem coverageClass_inj {q r : Role} : coverageClass q = coverageClass r ↔ q = r := by
  cases q <;> cases r <;> simp [coverageClass]

theorem runningSum_eq {r : Role} (hr : r ≠ .supply) (own : Nat) (v : List (Option Eff)) :
    runningSum v r own = (v.zipIdx.map fun x => claimUpTo r own x.1 x.2).sum := by
  unfold runningSum
  rw [rankClass_eq, if_neg hr]
  refine congrArg List.sum (List.map_congr_left fun ⟨e, i⟩ _ => ?_)
  cases e with
  | none => rfl
  | some x => by_cases hx : x.role = .supply <;> simp [rankClass_eq, claimUpTo, hx, ranksUpTo, coverageClass_inj]

theorem runningSum_addresses (hr : role s ≠ .supply) (hlen : (budgetView s).length ≤ 32) :
    runningSum (budgetView s) (role s) (ownAddr s).val = ∑ a, claimAhead s a := by
  rw [runningSum_eq hr, sum_addresses (claimUpTo (role s) (ownAddr s).val) (fun _ => rfl) hlen]
  refine Finset.sum_congr rfl fun a _ => ?_
  unfold claimUpTo claimAhead
  split <;> simp_all

theorem coverageOf_eq (r : Role) (sum margined : Nat) :
    coverageOf r sum margined = if r = .supply then .none else if sum ≤ margined then .covered else .uncovered := by
  cases r <;> rfl

/-! ## What is computed (R60, R68) -/

theorem compute_counted (hlen : (budgetView s).length ≤ 32) :
    (compute s).budget.counted = (Finset.univ.filter fun a => 0 < suppliedAt s a).card := countedOffers_length hlen

theorem compute_usable_n (hlen : (budgetView s).length ≤ 32) (hmode : s.st.straps.redund = .n) :
    (compute s).budget.usable = ∑ a, suppliedAt s a ∧ (compute s).budget.redundant = true := by
  simp only [compute, usableOf, hmode]
  exact ⟨countedOffers_sum hlen, trivial⟩

/-- With two supplies counted the largest offer is set aside. -/
theorem compute_usable_two (hlen : (budgetView s).length ≤ 32) (hmode : s.st.straps.redund = .nPlusOne)
    (htwo : 2 ≤ (compute s).budget.counted) :
    (compute s).budget.usable + Finset.univ.sup (suppliedAt s) = ∑ a, suppliedAt s a ∧
      (compute s).budget.redundant = true := by
  have hcount : 2 ≤ (countedOffers (budgetView s)).length := htwo
  have hle := sup_le_sum (suppliedAt s)
  simp only [compute, usableOf, hmode, if_pos hcount, countedOffers_sum hlen, countedOffers_max hlen]
  exact ⟨by omega, trivial⟩

theorem compute_usable_one (hlen : (budgetView s).length ≤ 32) (hmode : s.st.straps.redund = .nPlusOne)
    (hone : (compute s).budget.counted ≤ 1) :
    (compute s).budget.usable = ∑ a, suppliedAt s a ∧ (compute s).budget.redundant = false := by
  have hcount : ¬ 2 ≤ (countedOffers (budgetView s)).length := Nat.not_le.mpr (Nat.lt_succ_of_le hone)
  simp only [compute, usableOf, hmode, if_neg hcount]
  exact ⟨countedOffers_sum hlen, trivial⟩

theorem compute_coverage (s : State) : (compute s).budget.coverage = if role s = .supply then .none
    else if (compute s).budget.runSum ≤ (compute s).budget.margined then .covered else .uncovered := coverageOf_eq _ _ _

theorem compute_runSum (hr : role s ≠ .supply) (hlen : (budgetView s).length ≤ 32) :
    (compute s).budget.runSum = ∑ a, claimAhead s a := runningSum_addresses hr hlen

end Sys2Proof.Machine
end

section
/-! PROOF. Settles O26, second part: the shed order, one port shed, and the shedding of a re-evaluation. -/

namespace Sys2Proof.Machine

open Sys2Proof.Config

variable {s t u : State} {n m : Nat} {p q : Port} {l : List Port}

theorem inService_iff : p.inService = true ↔ p.state = .lighting ∨ p.state = .lit := by simp [Port.inService]

theorem inService_false : p.inService = false ↔ p.state ≠ .lighting ∧ p.state ≠ .lit := by simp [Port.inService]

theorem inService_shed (h : p.state = .shed) : p.inService = false := by simp [Port.inService, h]

/-! ## The shed order (R138) -/

/-- Port `n`, with record `q`, is in service and goes before every other port of the table that is. -/
def ShedFirst (l : List Port) (n : Nat) (q : Port) : Prop :=
  l[n]? = some q ∧ q.inService = true ∧ ∀ m p, l[m]? = some p → p.inService = true → m ≠ n → shedBefore n q m p

theorem shedBefore_asymm (h : shedBefore n p m q) : ¬ shedBefore m q n p := by
  unfold shedBefore at *
  omega

/-- One more port of the table is looked at: it goes before what leads so far unless its priority is higher. -/
def laterFirst (best : Option (Nat × Nat)) (x : Port × Nat) : Option (Nat × Nat) :=
  if x.1.inService then
    match best with
    | none => some (x.1.rank, x.2)
    | some b => if b.1 ≤ x.1.rank then some (x.1.rank, x.2) else best
  else best

/-- What leads after a table has been looked at. -/
def leader (l : List Port) : Option (Nat × Nat) := l.zipIdx.foldl laterFirst none

theorem firstToShed_eq (s : State) : firstToShed s = (leader s.port.recs).map (·.2) := rfl

theorem leader_append (l : List Port) (p : Port) : leader (l ++ [p]) = laterFirst (leader l) (p, l.length) := by
  simp [leader, List.zipIdx_append]

theorem getElem?_concat (h : (l ++ [p])[m]? = some q) : l[m]? = some q ∨ (m = l.length ∧ q = p) := by
  rw [List.getElem?_append] at h
  split at h
  · exact .inl h
  · rw [List.getElem?_singleton] at h
    split at h
    · cases h
      exact .inr ⟨by omega, rfl⟩
    · cases h

theorem ShedFirst.concat (h : ShedFirst l n q) (hp : p.inService = true → p.rank < q.rank) : ShedFirst (l ++ [p]) n q := by
  obtain ⟨hq, hin, hfirst⟩ := h
  refine ⟨by rw [List.getElem?_append_left (List.getElem?_eq_some_iff.mp hq).1, hq], hin, fun m r hm hr hne => ?_⟩
  obtain hold | ⟨rfl, rfl⟩ := getElem?_concat hm
  · exact hfirst m r hold hr hne
  · exact .inl (hp hr)

theorem shedFirst_last (hp : p.inService = true)
    (hle : ∀ (m : Nat) (r : Port), l[m]? = some r → r.inService = true → r.rank ≤ p.rank) : ShedFirst (l ++ [p]) l.length p := by
  refine ⟨by simp, hp, fun m r hm hr hne => ?_⟩
  obtain hold | ⟨rfl, -⟩ := getElem?_concat hm
  · obtain hlt | heq := Nat.lt_or_eq_of_le (hle m r hold hr)
    · exact .inl hlt
    · exact .inr ⟨heq, (List.getElem?_eq_some_iff.mp hold).1⟩
  · exact absurd rfl hne

theorem ShedFirst.rank_le (h : ShedFirst l n q) (hm : l[m]? = some p) (hp : p.inService = true) : p.rank ≤ q.rank := by
  obtain ⟨hq, hin, hfirst⟩ := h
  by_cases hne : m = n
  · rw [hne, hq] at hm
    cases hm
    exact le_rfl
  · obtain hlt | heq := hfirst m p hm hp hne
    · exact hlt.le
    · exact heq.1.le

/-- `best` is what leads in a table: nothing where no port is in service, else the rank and the number of the first in
shed order. -/
def Leads (l : List Port) : Option (Nat × Nat) → Prop
  | none => ∀ (m : Nat) (p : Port), l[m]? = some p → p.inService = false
  | some b => ∃ q, ShedFirst l b.2 q ∧ q.rank = b.1

theorem Leads.concat {best : Option (Nat × Nat)} (h : Leads l best) (p : Port) :
    Leads (l ++ [p]) (laterFirst best (p, l.length)) := by
  unfold laterFirst
  split
  case isFalse hp =>
    cases best with
    | none =>
      intro m r hm
      obtain hold | ⟨-, rfl⟩ := getElem?_concat hm
      · exact h m r hold
      · simpa using hp
    | some b =>
      obtain ⟨q, hq, hrank⟩ := h
      exact ⟨q, hq.concat fun hin => absurd hin hp, hrank⟩
  case isTrue hp =>
    cases best with
    | none => exact ⟨p, shedFirst_last hp fun m r hm hr => absurd hr (by simp [h m r hm]), rfl⟩
    | some b =>
      obtain ⟨q, hq, hrank⟩ := h
      dsimp only
      split
      case isTrue hle =>
        exact ⟨p, shedFirst_last hp fun m r hm hr => (hq.rank_le hm hr).trans (hrank.trans_le hle), rfl⟩
      case isFalse hlt => exact ⟨q, hq.concat fun _ => by omega, hrank⟩

theorem leads_leader (l : List Port) : Leads l (leader l) := by
  induction l using List.reverseRecOn with
  | nil => simp [leader, Leads]
  | append_singleton l p ih =>
    rw [leader_append]
    exact ih.concat p

theorem firstToShed_none (h : firstToShed s = none) (hp : portAt s n = some p) : p.inService = false := by
  have hlead := leads_leader s.port.recs
  rw [Option.map_eq_none_iff.mp ((firstToShed_eq s).symm.trans h)] at hlead
  exact hlead n p hp

theorem shedFirst_of_firstToShed (h : firstToShed s = some n) : ∃ q, ShedFirst s.port.recs n q := by
  have hlead := leads_leader s.port.recs
  obtain ⟨b, hb, rfl⟩ := Option.map_eq_some_iff.mp ((firstToShed_eq s).symm.trans h)
  rw [hb] at hlead
  obtain ⟨q, hq, -⟩ := hlead
  exact ⟨q, hq⟩

theorem firstToShed_iff : firstToShed s = some n ↔ ∃ q, ShedFirst s.port.recs n q := by
  refine ⟨shedFirst_of_firstToShed, fun ⟨q, hq, hin, hfirst⟩ => ?_⟩
  cases hlead : firstToShed s with
  | none => simp [firstToShed_none hlead hq] at hin
  | some m =>
    obtain ⟨p, hp, hpin, hpfirst⟩ := shedFirst_of_firstToShed hlead
    by_cases hne : n = m
    · rw [hne]
    · exact absurd (hfirst m p hp hpin (Ne.symm hne)) (shedBefore_asymm (hpfirst n q hq hin hne))

/-! ## One port shed (R138) -/

theorem darkenFilter_recs (n : Nat) (q : Port) (s : State) :
    ∃ f : Filter, (darkenFilter n q s).port.recs = s.port.recs.set n { q with filter := f } := by
  unfold darkenFilter
  split
  · exact ⟨_, rfl⟩
  · exact ⟨_, rfl⟩
  · exact ⟨_, rfl⟩
  · exact ⟨_, rfl⟩

/-- The load of a QUEUED port does not wait any more (R163). -/
theorem darkenFilter_unqueued (s : State) (hq : q.filter.state = .queued) : n ∉ (darkenFilter n q s).filt.queue := by
  unfold darkenFilter
  rw [hq]
  simp

theorem shedPort_eq (hp : portAt s n = some p) (hin : p.inService = true) :
    shedPort n s = raise .portShed n (reqDetail p ++ b1 p.state.code)
      { leaveService n { p with state := .shed, timer := none } s with
        port.queue := { port := n, fresh := false } :: s.port.queue } := by
  have hqueue (r : Port) : (leaveService n r s).port.queue = s.port.queue := darkenFilter_queue _ _ _
  simp only [shedPort, hp, hin, if_true, hqueue]

/-- What a port keeps on being shed, and what it loses (R138, R162). -/
structure ShedAs (p p' : Port) : Prop where
  state : p'.state = .shed
  timer : p'.timer = none
  req : p'.req = p.req
  seat : p'.seat = p.seat
  node : p'.node = none

theorem shedPort_recs (hp : portAt s n = some p) (hin : p.inService = true) :
    ∃ p', (shedPort n s).port.recs = s.port.recs.set n p' ∧ ShedAs p p' := by
  obtain ⟨f, hf⟩ := darkenFilter_recs n { p with state := .shed, timer := none, node := none } s
  refine ⟨{ p with state := .shed, timer := none, node := none, filter := f }, ?_, rfl, rfl, rfl, rfl, rfl⟩
  rw [shedPort_eq hp hin]
  simpa [leaveService] using hf

theorem shedPort_at (hp : portAt s n = some p) (hin : p.inService = true) :
    ∃ p', portAt (shedPort n s) n = some p' ∧ ShedAs p p' := by
  obtain ⟨p', hrecs, hshed⟩ := shedPort_recs hp hin
  refine ⟨p', ?_, hshed⟩
  rw [portAt, hrecs, List.getElem?_set_self (List.getElem?_eq_some_iff.mp hp).1]

theorem shedPort_other (hp : portAt s n = some p) (hin : p.inService = true) (hne : m ≠ n) :
    portAt (shedPort n s) m = portAt s m := by
  obtain ⟨p', hrecs, -⟩ := shedPort_recs hp hin
  rw [portAt, hrecs, List.getElem?_set_ne (Ne.symm hne), portAt]

theorem shedPort_queued (hp : portAt s n = some p) (hin : p.inService = true) :
    (shedPort n s).port.queue = { port := n, fresh := false } :: s.port.queue := by
  rw [shedPort_eq hp hin]
  simp

theorem shedPort_unqueued (hp : portAt s n = some p) (hin : p.inService = true) (hq : p.filter.state = .queued) :
    n ∉ (shedPort n s).filt.queue := by
  have hleft : n ∉ (leaveService n { p with state := .shed, timer := none } s).filt.queue := darkenFilter_unqueued s hq
  rw [shedPort_eq hp hin]
  simpa using hleft

theorem shedPort_raised (hp : portAt s n = some p) (hin : p.inService = true) (hroom : s.host.notices.length < noticeCap) :
    ∃ x ∈ (shedPort n s).host.notices, x.kind = .portShed ∧ x.subject = n ∧ x.detail = reqDetail p ++ b1 p.state.code := by
  rw [shedPort_eq hp hin]
  obtain ⟨x, hx, hkind, hsubject, hdetail⟩ := raise_mem (k := .portShed) (n := n)
    (d := reqDetail p ++ b1 p.state.code) (s := { leaveService n { p with state := .shed, timer := none } s with
      port.queue := { port := n, fresh := false } :: s.port.queue }) (by simpa using hroom)
  refine ⟨x, hx, hkind, hsubject, hdetail.trans (List.take_of_length_le ?_)⟩
  unfold reqDetail
  split <;> simp [b1]

/-! ## The shedding (R70) -/

/-- One port is shed and the claim recomputed. -/
def shedOne (n : Nat) (s : State) : State := compute (refresh (shedPort n s))

theorem portAt_shedOne (m n : Nat) (s : State) : portAt (shedOne n s) m = portAt (shedPort n s) m := by
  simp [portAt, shedOne]

theorem role_refresh (s : State) : role (refresh s) = role s := by simp [role]

theorem role_shedOne (n : Nat) (s : State) : role (shedOne n s) = role s := by simp [role, shedOne]

theorem shedAll_succ {k : Nat} (hc : s.budget.coverage = .uncovered) (hn : firstToShed s = some n) :
    shedAll (k + 1) s = shedAll k (shedOne n s) := by
  rw [shedAll, if_pos hc, hn]
  rfl

theorem shedAll_covered (k : Nat) (hc : s.budget.coverage ≠ .uncovered) : shedAll k s = s := by
  cases k with
  | zero => rfl
  | succ k => rw [shedAll, if_neg hc]

theorem shedAll_none (k : Nat) (hn : firstToShed s = none) : shedAll k s = s := by
  cases k with
  | zero => rfl
  | succ k => rw [shedAll, hn]; exact ite_self s

/-- The shedding either does nothing more, or sheds the first port in shed order. -/
theorem shedAll_cases (k : Nat) (s : State) : shedAll k s = s ∨ ∃ j n q, k = j + 1 ∧ s.budget.coverage = .uncovered ∧
    ShedFirst s.port.recs n q ∧ shedAll k s = shedAll j (shedOne n s) := by
  cases k with
  | zero => exact .inl rfl
  | succ j =>
    by_cases hc : s.budget.coverage = .uncovered
    · cases hn : firstToShed s with
      | none => exact .inl (shedAll_none _ hn)
      | some n =>
        obtain ⟨q, hq⟩ := firstToShed_iff.mp hn
        exact .inr ⟨j, n, q, rfl, hc, hq, shedAll_succ hc hn⟩
    · exact .inl (shedAll_covered _ hc)

/-- A port out of service is left as it is. -/
theorem shedAll_out (k : Nat) (hp : portAt s n = some p) (hout : p.inService = false) :
    portAt (shedAll k s) n = some p := by
  induction k generalizing s with
  | zero => exact hp
  | succ k ih =>
    obtain hsame | ⟨j, m, q, hj, -, ⟨hq, hin, -⟩, hstep⟩ := shedAll_cases (k + 1) s
    · rw [hsame, hp]
    · obtain rfl := Nat.succ_injective hj
      have hne : n ≠ m := by
        rintro rfl
        rw [portAt, hq] at hp
        cases hp
        simp [hin] at hout
      rw [hstep]
      exact ih (by rw [portAt_shedOne, shedPort_other hq hin hne, hp])

/-- The first port in shed order is shed, where anything is. -/
theorem shedAll_first {k : Nat} (hc : s.budget.coverage = .uncovered) (hn : firstToShed s = some n) :
    ∃ p, portAt (shedAll (k + 1) s) n = some p ∧ p.state = .shed := by
  obtain ⟨q, hq, hin, -⟩ := firstToShed_iff.mp hn
  obtain ⟨p, hp, hshed⟩ := shedPort_at hq hin
  rw [shedAll_succ hc hn]
  exact ⟨p, shedAll_out k ((portAt_shedOne n n s).trans hp) (inService_shed hshed.state), hshed.state⟩

/-- A port is shed only after all that go before it in shed order. -/
theorem shedAll_order (k : Nat) (hp : portAt s n = some p) (hpin : p.inService = true) (hq : portAt s m = some q)
    (hqin : q.inService = true) (hbefore : shedBefore n p m q)
    (hshed : ∃ q', portAt (shedAll k s) m = some q' ∧ q'.state = .shed) :
    ∃ p', portAt (shedAll k s) n = some p' ∧ p'.state = .shed := by
  have hstill (h : shedAll k s = s) : False := by
    obtain ⟨q', hq', hstate⟩ := hshed
    rw [h, hq] at hq'
    cases hq'
    simp [inService_shed hstate] at hqin
  induction k generalizing s with
  | zero => exact (hstill rfl).elim
  | succ k ih =>
    obtain hsame | ⟨j, i, r, hj, hc, ⟨hr, hrin, hfirst⟩, hstep⟩ := shedAll_cases (k + 1) s
    · exact (hstill hsame).elim
    · obtain rfl := Nat.succ_injective hj
      by_cases hin : i = n
      · subst hin
        exact shedAll_first hc (firstToShed_iff.mpr ⟨r, hr, hrin, hfirst⟩)
      · have hne : m ≠ i := by
          rintro rfl
          rw [portAt, hr] at hq
          cases hq
          exact shedBefore_asymm hbefore (hfirst n p hp hpin (Ne.symm hin))
        have hq' : portAt (shedOne i s) m = some q := by rw [portAt_shedOne, shedPort_other hr hrin hne, hq]
        rw [hstep] at hshed ⊢
        refine ih (by rw [portAt_shedOne, shedPort_other hr hrin (Ne.symm hin), hp]) hq' hshed fun h => ?_
        obtain ⟨q'', hq'', hstate⟩ := hshed
        rw [h, hq'] at hq''
        cases hq''
        simp [inService_shed hstate] at hqin

/-- As many sheds as there are ports in service are enough. -/
theorem shedAll_ends {k : Nat} (hk : s.port.recs.countP Port.inService ≤ k) :
    (shedAll k s).budget.coverage ≠ .uncovered ∨ ∀ n p, portAt (shedAll k s) n = some p → p.inService = false := by
  induction k generalizing s with
  | zero =>
    refine .inr fun n p hp => ?_
    have hnone := List.countP_eq_zero.mp (Nat.le_zero.mp hk) p (List.mem_of_getElem? hp)
    simpa using hnone
  | succ k ih =>
    by_cases hc : s.budget.coverage = .uncovered
    · cases hn : firstToShed s with
      | none => exact .inr fun n p hp => firstToShed_none hn (by rwa [shedAll_none _ hn] at hp)
      | some n =>
        obtain ⟨q, hq, hin, -⟩ := firstToShed_iff.mp hn
        obtain ⟨p, hrecs, hshed⟩ := shedPort_recs hq hin
        obtain ⟨hlt, hget⟩ := List.getElem?_eq_some_iff.mp hq
        have hone : (shedOne n s).port.recs = s.port.recs.set n p := by rw [← hrecs]; simp [shedOne]
        rw [shedAll_succ hc hn]
        refine ih ?_
        rw [hone, List.countP_set hlt, hget, hin, inService_shed hshed.state]
        simp
        omega
    · exact .inl (by rwa [shedAll_covered _ hc])

theorem compute_ranked (hr : role s ≠ .supply) : (compute s).budget.coverage ≠ .none := by
  rw [compute_coverage, if_neg hr]
  split <;> simp

/-- A station that is ranked stays COVERED or UNCOVERED. -/
theorem shedAll_ranked (k : Nat) (hr : role s ≠ .supply) (hc : s.budget.coverage ≠ .none) :
    (shedAll k s).budget.coverage ≠ .none := by
  induction k generalizing s with
  | zero => exact hc
  | succ k ih =>
    obtain hsame | ⟨j, n, q, hj, -, -, hstep⟩ := shedAll_cases (k + 1) s
    · rwa [hsame]
    · obtain rfl := Nat.succ_injective hj
      rw [hstep]
      exact ih (by rwa [role_shedOne]) (compute_ranked (by simpa [role] using hr))

/-! ## The shedding of a re-evaluation (R56, R69, R70) -/

@[simp] theorem refresh_coverage (s : State) : (refresh s).budget.coverage = s.budget.coverage := by
  unfold refresh
  dsimp only
  split
  · rfl
  · split <;> rfl

theorem reportRedundancy_coverage (s : State) : (reportRedundancy s).budget.coverage = s.budget.coverage := by
  unfold reportRedundancy
  split <;> simp

theorem reportCoverage_coverage (s : State) : (reportCoverage s).budget.coverage = s.budget.coverage := by
  unfold reportCoverage
  split
  · rfl
  · split <;> simp_all

theorem raiseExhausted_coverage (s : State) : (raiseExhausted s).budget.coverage = s.budget.coverage := by
  unfold raiseExhausted
  split <;> simp

theorem examineGates_coverage (s : State) : (examineGates s).budget.coverage = s.budget.coverage := by
  unfold examineGates
  split
  · rfl
  · split <;> rfl

/-- What a re-evaluation has computed and reported. -/
def reported (s : State) : State := reportCoverage (reportRedundancy (compute (refresh s)))

/-- What a LINE station's shedding starts from: the window closed (R70, R76). -/
def sheddingFrom (s : State) : State := refresh (closeWindow (reported s))

theorem reported_kept (s : State) : (reported s).port = s.port ∧ (reported s).st = s.st ∧
    (reported s).budget.coverage = (compute (refresh s)).budget.coverage := by
  simp [reported, reportCoverage_coverage, reportRedundancy_coverage]

theorem sheddingFrom_kept (s : State) : (sheddingFrom s).port = s.port ∧ (sheddingFrom s).st = s.st ∧
    (sheddingFrom s).budget.coverage = (compute (refresh s)).budget.coverage := by
  obtain ⟨hport, hst, hcoverage⟩ := reported_kept s
  have hclosed : (closeWindow (reported s)).budget.coverage = (reported s).budget.coverage := rfl
  simp [sheddingFrom, hport, hst, hclosed, hcoverage]

/-- An ACTIVE LINE station's re-evaluation leaves the ports and the coverage that the shedding leaves. -/
theorem reevaluate_sheds (hr : role s = .line) (ha : s.st.state = .active) :
    (reevaluate s).port = (shedAll s.port.recs.length (sheddingFrom s)).port ∧
    (reevaluate s).budget.coverage = (shedAll s.port.recs.length (sheddingFrom s)).budget.coverage := by
  obtain ⟨hport, hst, hcoverage⟩ := reported_kept s
  obtain ⟨hport', hst', hcoverage'⟩ := sheddingFrom_kept s
  have hcomparing (v : State) (h : v.st = s.st) : comparing v = true := by simp [comparing, h, ha]
  have hrole : role (reported s) = .line := by rw [role, hst]; exact hr
  have hgates : reevaluate s = examineGates (if comparing (reported s) ∧ (reported s).budget.coverage = .uncovered then
      actUncovered (reported s) else reported s) := by
    simp only [reevaluate, evaluating, ha, hcomparing (compute (refresh s)) (by simp), if_true, reported]
    rfl
  rw [hgates, (examineGates_frame _).2.2.2.2.2.2.2.2.2.1, examineGates_coverage]
  split
  case isTrue hact =>
    simp only [actUncovered, hrole, hst, ha, if_true, hport]
    rw [← sheddingFrom]
    split
    · exact ⟨by simp, raiseExhausted_coverage _⟩
    · exact ⟨by simp, reportCoverage_coverage _⟩
  case isFalse hkept =>
    have hc : (sheddingFrom s).budget.coverage ≠ .uncovered := fun h =>
      hkept ⟨hcomparing _ hst, by rw [hcoverage, ← hcoverage', h]⟩
    rw [shedAll_covered _ hc, hport, hport', hcoverage, hcoverage']
    exact ⟨rfl, rfl⟩

/-- Settles O26: the capacity and the coverage as sums over the addresses, the shedding by induction over its sheds. -/
theorem powerBudgetComputed : Obligations.PowerBudgetComputed := by
  unfold Obligations.PowerBudgetComputed
  refine ⟨fun s a h => ?live, fun s v a h hlen => ⟨effAt_held h, fun ha => ?held⟩, fun s hlen => ⟨compute_counted hlen,
    compute_usable_n hlen, compute_usable_two hlen, compute_usable_one hlen, fun hr => ?supply, fun hr => ?ranked⟩,
    fun s n => ?first, fun s n p hp hin => ?shed, fun k n s => shedAll_succ, fun s t hr ha ht => ?reevaluated⟩
  case live =>
    rw [effAt_live h]
    rcases entryAt s a with _ | ⟨_ | _ | _, _, f⟩
    · rfl
    · rfl
    · by_cases hf : f.role = .supply <;> simp [Entry.eff, hf]
    · rfl
  case held =>
    subst ha
    rw [effAt_held_own h hlen, effAt_live (s := { s with budget.heldView := none }) rfl]
    rfl
  case supply => rw [compute_coverage, if_pos hr]
  case ranked =>
    rw [compute_coverage, if_neg hr, compute_runSum hr hlen]
    exact ⟨rfl, rfl⟩
  case first =>
    simp only [firstToShed_iff, ShedFirst, inService_iff]
    rfl
  case shed =>
    rw [← inService_iff] at hin
    obtain ⟨p', hp', hshed⟩ := shedPort_at hp hin
    exact ⟨⟨p', hp', hshed.state, hshed.timer, hshed.req, hshed.seat, hshed.node⟩, fun m hne => shedPort_other hp hin hne,
      shedPort_queued hp hin, by simp, by simp, shedPort_unqueued hp hin, shedPort_raised hp hin⟩
  case reevaluated =>
    subst ht
    obtain ⟨hport, hst, hcoverage⟩ := sheddingFrom_kept s
    obtain ⟨hports, hcover⟩ := reevaluate_sheds hr ha
    have hat (v w : State) (h : v.port = w.port) (i : Nat) : portAt v i = portAt w i := by rw [portAt, portAt, h]
    simp only [hat _ _ hports, hcover, ← inService_iff]
    refine ⟨?ends, fun hc => ?kept, fun hc n q hn hq => ?firstShed, fun n m p q hp hpin hq hqin hbefore => ?order⟩
    case ends =>
      have hfuel : (sheddingFrom s).port.recs.countP Port.inService ≤ s.port.recs.length := by
        rw [hport]
        exact List.countP_le_length
      refine (shedAll_ends hfuel).imp (fun hc => ?_) fun h n p hp => inService_false.mp (h n p hp)
      have hline : role (sheddingFrom s) = .line := by rw [role, hst]; exact hr
      have hcomputed : (compute (refresh s)).budget.coverage ≠ .none := compute_ranked (by simp [role_refresh, hr])
      have hranked := shedAll_ranked s.port.recs.length (s := sheddingFrom s) (by simp [hline]) (hcoverage ▸ hcomputed)
      cases h : (shedAll s.port.recs.length (sheddingFrom s)).budget.coverage <;> simp_all
    case kept =>
      rw [hports, shedAll_covered _ (by rwa [hcoverage]), hport]
      exact ⟨rfl, rfl⟩
    case firstShed =>
      obtain ⟨r, hr', -⟩ := firstToShed_iff.mp hn
      have hlength : s.port.recs.length = (s.port.recs.length - 1) + 1 := by
        have := (List.getElem?_eq_some_iff.mp hr').1
        omega
      have hfirst : firstToShed (sheddingFrom s) = some n := by rw [firstToShed_eq, hport, ← firstToShed_eq, hn]
      rw [← hcoverage] at hc
      obtain ⟨p, hp, hshed⟩ := shedAll_first (k := s.port.recs.length - 1) hc hfirst
      rw [hlength, hp] at hq
      cases hq
      exact hshed
    case order =>
      exact shedAll_order _ ((hat _ _ hport n).trans hp) hpin ((hat _ _ hport m).trans hq) hqin hbefore

end Sys2Proof.Machine
end

section
/-! PROOF. What a SUPPLY station keeps of its offer, its good run, its overload and its output enable, as one relation
between two states that each operation of the model extends (R58, R59, R100, R105, R107). -/

namespace Sys2Proof.Machine

open Sys2Proof.Config

variable {s t u : State}

/-! ## The figures of the power budget that no reaction moves -/

@[simp] theorem reportRedundancy_figures (s : State) : (reportRedundancy s).budget.offer = s.budget.offer ∧
    (reportRedundancy s).budget.derate = s.budget.derate := by
  unfold reportRedundancy
  split <;> simp

@[simp] theorem reportCoverage_figures (s : State) : (reportCoverage s).budget.offer = s.budget.offer ∧
    (reportCoverage s).budget.derate = s.budget.derate := by
  unfold reportCoverage
  (repeat' split) <;> simp

@[simp] theorem raiseExhausted_figures (s : State) : (raiseExhausted s).budget.offer = s.budget.offer ∧
    (raiseExhausted s).budget.derate = s.budget.derate := by
  unfold raiseExhausted
  split <;> simp

@[simp] theorem compute_figures (s : State) : (compute s).budget.offer = s.budget.offer ∧
    (compute s).budget.derate = s.budget.derate := ⟨rfl, rfl⟩

@[simp] theorem closeWindow_figures (s : State) : (closeWindow s).budget.offer = s.budget.offer ∧
    (closeWindow s).budget.derate = s.budget.derate := ⟨rfl, rfl⟩

@[simp] theorem shedAll_figures (fuel : Nat) (s : State) : (shedAll fuel s).budget.offer = s.budget.offer ∧
    (shedAll fuel s).budget.derate = s.budget.derate := by
  induction fuel generalizing s with
  | zero => exact ⟨rfl, rfl⟩
  | succ fuel ih =>
    unfold shedAll
    (repeat' split) <;> simp [ih]

@[simp] theorem actUncovered_figures (s : State) : (actUncovered s).budget.offer = s.budget.offer ∧
    (actUncovered s).budget.derate = s.budget.derate := by
  unfold actUncovered
  dsimp only
  (repeat' split) <;> simp

@[simp] theorem reevaluate_figures (s : State) : (reevaluate s).budget.offer = s.budget.offer ∧
    (reevaluate s).budget.derate = s.budget.derate := by
  unfold reevaluate
  dsimp only
  (repeat' split) <;> simp

@[simp] theorem propagate_figures (fuel : Nat) (s : State) : (propagate fuel s).budget.offer = s.budget.offer ∧
    (propagate fuel s).budget.derate = s.budget.derate := by
  induction fuel generalizing s with
  | zero => simp [propagate]
  | succ fuel ih =>
    unfold propagate
    dsimp only
    split <;> simp [ih]

@[simp] theorem handOn_figures (s : State) : (handOn s).budget.offer = s.budget.offer ∧
    (handOn s).budget.derate = s.budget.derate := by
  unfold handOn
  split <;> simp

@[simp] theorem viewChanged_figures (p : Addr) (s : State) : (viewChanged p s).budget.offer = s.budget.offer ∧
    (viewChanged p s).budget.derate = s.budget.derate := by
  unfold viewChanged
  split <;> simp

@[simp] theorem rotorEvent_figures (i : Nat) (f : State → State) (s : State) :
    (rotorEvent i f s).budget.offer = (f s).budget.offer ∧ (rotorEvent i f s).budget.derate = (f s).budget.derate := by
  unfold rotorEvent
  dsimp only
  split <;> simp

@[simp] theorem removeEntry_figures (n : Nat) (s : State) : (removeEntry n s).budget.offer = s.budget.offer ∧
    (removeEntry n s).budget.derate = s.budget.derate := by
  unfold removeEntry
  split <;> simp [dropEntry]

@[simp] theorem emptyQueue_figures (s : State) : (emptyQueue s).budget.offer = s.budget.offer ∧
    (emptyQueue s).budget.derate = s.budget.derate :=
  ⟨foldl_same (g := (·.budget.offer)) (by simp) _ s, foldl_same (g := (·.budget.derate)) (by simp) _ s⟩

@[simp] theorem darkenAll_figures (s : State) : (darkenAll s).budget.offer = s.budget.offer ∧
    (darkenAll s).budget.derate = s.budget.derate :=
  ⟨foldl_same (g := (·.budget.offer)) (by simp) _ s, foldl_same (g := (·.budget.derate)) (by simp) _ s⟩

@[simp] theorem forceDeparture_figures (s : State) : (forceDeparture s).budget.offer = s.budget.offer ∧
    (forceDeparture s).budget.derate = s.budget.derate := by
  unfold forceDeparture
  dsimp only
  split <;> split <;> simp

/-! ## The relation -/

/-- The offer is that of the supply state and the derate (R59). -/
def OfferHold (s : State) : Prop :=
  role s = .supply → s.budget.offer = offerOf (ratedOutput s.st.straps) s.budget.derate s.sup.state

/-- The good-run measure is on exactly while its conditions hold (R100). -/
def RunHold (s : State) : Prop := role s = .supply → (s.sup.goodRun ≠ .off ↔ goodRunHolds s = true)

/-- There is an overload run or episode in GOOD alone (R107). -/
def OverloadHold (s : State) : Prop :=
  role s = .supply → s.sup.state ≠ .good → s.sup.overRun = none ∧ s.sup.overEpisode = false

/-- The output enable is high from JOINING to DEPARTING alone (R105). -/
def EnableHold (s : State) : Prop := role s = .supply → s.sup.enable = true → sending s = true

/-- What an operation between `s` and `t` has kept of the offer and the overload. The temperature, the derate and the
load code are the sample's to change. -/
structure SuppliesMost (s t : State) : Prop where
  straps : t.st.straps = s.st.straps
  hottest : t.cool.hottest = s.cool.hottest
  derate : t.budget.derate = s.budget.derate
  load : t.sup.loadCode = s.sup.loadCode
  offer : OfferHold s → OfferHold t
  overload : OverloadHold s → OverloadHold t

/-- What an operation has kept, the good run and the output enable among it. A transition judges the run afresh, and the
enable goes low only after the entry into DEPARTED (R100, R102, R105). -/
structure Supplies (s t : State) : Prop extends SuppliesMost s t where
  run : RunHold s → RunHold t
  enable : EnableHold s → EnableHold t

theorem Supplies.hold (h : Supplies s t) (hs : SupplyHold s) : SupplyHold t :=
  ⟨h.offer hs.offer, h.run hs.run, h.overload hs.overload, h.enable hs.enable⟩

theorem Supplies.refl (s : State) : Supplies s s := ⟨⟨rfl, rfl, rfl, rfl, id, id⟩, id, id⟩

theorem SuppliesMost.trans (h : SuppliesMost s u) (k : SuppliesMost u t) : SuppliesMost s t :=
  ⟨k.straps.trans h.straps, k.hottest.trans h.hottest, k.derate.trans h.derate, k.load.trans h.load,
    k.offer ∘ h.offer, k.overload ∘ h.overload⟩

theorem Supplies.trans (h : Supplies s u) (k : Supplies u t) : Supplies s t :=
  ⟨h.toSuppliesMost.trans k.toSuppliesMost, k.run ∘ h.run, k.enable ∘ h.enable⟩

theorem Supplies.ite {c : Prop} [Decidable c] (ht : Supplies s t) (hu : Supplies s u) :
    Supplies s (if c then t else u) := by
  split
  · exact ht
  · exact hu

theorem Supplies.foldl {α : Type} {f : State → α → State} (hf : ∀ v x, Supplies v (f v x)) (l : List α) (s : State) :
    Supplies s (l.foldl f s) := by
  induction l generalizing s with
  | nil => exact .refl s
  | cons x l ih => exact (hf s x).trans (ih _)

/-- `t` differs from `s` in nothing that `Supplies` reads. -/
def SameSupply (s t : State) : Prop :=
  t.st.straps = s.st.straps ∧ t.st.state = s.st.state ∧ t.cool.hottest = s.cool.hottest ∧
  t.budget.offer = s.budget.offer ∧ t.budget.derate = s.budget.derate ∧ t.sup = s.sup

theorem sending_of_state (h : t.st.state = s.st.state) : sending t = sending s := by rw [sending, h, sending]

theorem goodRunHolds_of_eq (hstraps : t.st.straps = s.st.straps) (hstate : t.st.state = s.st.state)
    (hlines : t.sup.inOk = s.sup.inOk ∧ t.sup.outOk = s.sup.outOk ∧ t.sup.earlyWarn = s.sup.earlyWarn)
    (henable : t.sup.enable = s.sup.enable) : goodRunHolds t = goodRunHolds s := by
  obtain ⟨hin, hout, hwarn⟩ := hlines
  rw [goodRunHolds, role, hstraps, hstate, hin, hout, hwarn, henable, goodRunHolds, role]

theorem RunHold.same (h : RunHold s) (hrun : t.sup.goodRun = s.sup.goodRun) (hstraps : t.st.straps = s.st.straps)
    (hstate : t.st.state = s.st.state)
    (hlines : t.sup.inOk = s.sup.inOk ∧ t.sup.outOk = s.sup.outOk ∧ t.sup.earlyWarn = s.sup.earlyWarn)
    (henable : t.sup.enable = s.sup.enable) : RunHold t := by
  rwa [RunHold, goodRunHolds_of_eq hstraps hstate hlines henable, hrun, role, hstraps, ← role]

theorem SameSupply.supplies (h : SameSupply s t) : Supplies s t := by
  obtain ⟨hstraps, hstate, hhot, hoffer, hderate, hsup⟩ := h
  have hrole : role t = role s := by rw [role, hstraps, role]
  refine ⟨⟨hstraps, hhot, hderate, by rw [hsup], fun h => ?_, fun h => ?_⟩, fun h => ?_, fun h => ?_⟩
  · rwa [OfferHold, hrole, hoffer, hstraps, hderate, hsup]
  · rwa [OverloadHold, hrole, hsup]
  · exact h.same (by rw [hsup]) hstraps hstate ⟨by rw [hsup], by rw [hsup], by rw [hsup]⟩ (by rw [hsup])
  · rwa [EnableHold, hrole, hsup, sending_of_state hstate]

/-! ## The supply monitor -/

/-- Once judged, the measure is on exactly while its conditions hold (R100). -/
theorem updateGoodRun_run (s : State) : RunHold (updateGoodRun s) := by
  intro _
  unfold updateGoodRun
  split
  case isTrue hholds =>
    split
    · exact ⟨fun _ => hholds, fun _ => by simp⟩
    case h_2 hrun => exact ⟨fun _ => hholds, fun _ => by simp [hrun]⟩
    case h_3 hrun => exact ⟨fun _ => hholds, fun _ => by simp [hrun]⟩
  case isFalse hholds => exact ⟨fun h => absurd rfl h, fun h => absurd h hholds⟩

@[simp] theorem updateGoodRun_sup (s : State) : (updateGoodRun s).sup.loadCode = s.sup.loadCode ∧
    (updateGoodRun s).sup.state = s.sup.state ∧ (updateGoodRun s).sup.enable = s.sup.enable ∧
    (updateGoodRun s).sup.inOk = s.sup.inOk ∧ (updateGoodRun s).sup.outOk = s.sup.outOk ∧
    (updateGoodRun s).sup.earlyWarn = s.sup.earlyWarn ∧ (updateGoodRun s).sup.outputLost = s.sup.outputLost ∧
    (updateGoodRun s).sup.overRun = s.sup.overRun ∧ (updateGoodRun s).sup.overEpisode = s.sup.overEpisode := by
  unfold updateGoodRun
  (repeat' split) <;> simp

/-- A change of what the measure is judged by, and its judgement: the lines and the output enable. -/
theorem supplyLine_supplies {x : Supply} (hload : x.loadCode = s.sup.loadCode) (hstate : x.state = s.sup.state)
    (hover : x.overRun = s.sup.overRun ∧ x.overEpisode = s.sup.overEpisode)
    (henable : x.enable = true → s.sup.enable = true ∨ sending s = true) :
    Supplies s (updateGoodRun { s with sup := x }) := by
  obtain ⟨hrun, hepisode⟩ := hover
  refine ⟨⟨by simp, by simp, by simp, by simp [hload], fun h => ?_, fun h => ?_⟩, fun _ => updateGoodRun_run _, fun h => ?_⟩
  · simpa [OfferHold, role, hstate] using h
  · simpa [OverloadHold, role, hstate, hrun, hepisode] using h
  · intro hr hon
    have hsend : sending s = true := (henable (by simpa using hon)).elim (h (by simpa [role] using hr)) id
    rwa [sending_of_state (s := s) (by simp)]

theorem updateGoodRun_supplies (s : State) : Supplies s (updateGoodRun s) :=
  supplyLine_supplies rfl rfl ⟨rfl, rfl⟩ .inl

/-- A change of the supply state recomputes the offer and, out of GOOD, ends the overload (R59, R107). -/
theorem setSupply_supplies (x : SupplyState) (c : SupplyCause) (s : State) : Supplies s (setSupply x c s) := by
  unfold setSupply
  dsimp only
  split
  case isTrue => exact .refl s
  case isFalse =>
    split
    case isTrue hgood =>
      refine ⟨⟨by simp, by simp, by simp [updateOffer], by simp, fun _ _ => ?_, fun _ _ h => ?_⟩, fun h => ?_, fun h => ?_⟩
      · simp [updateOffer]
      · simp [hgood] at h
      · exact h.same (by simp) (by simp) (by simp) (by simp) (by simp)
      · simpa [EnableHold, role, sending] using h
    case isFalse =>
      refine ⟨⟨by simp, by simp, by simp [updateOffer], by simp, fun _ _ => ?_, fun _ _ _ => ?_⟩, fun h => ?_, fun h => ?_⟩
      · simp [updateOffer]
      · simp
      · exact h.same (by simp) (by simp) (by simp) (by simp) (by simp)
      · simpa [EnableHold, role, sending] using h

theorem sendDrop_supplies (s : State) : Supplies s (sendDrop s) := SameSupply.supplies (by simp [SameSupply])

theorem moveDropped_supplies (x : SupplyState) (c : SupplyCause) (s : State) :
    Supplies s (sendDrop (setSupply x c s)) := (setSupply_supplies x c s).trans (sendDrop_supplies _)

theorem inputRose_supplies (s : State) : Supplies s (inputRose s) := by
  unfold inputRose
  (repeat' split) <;> first | exact .refl s | exact setSupply_supplies _ _ s

theorem inputFell_supplies (s : State) : Supplies s (inputFell s) := by
  unfold inputFell
  (repeat' split) <;> first | exact .refl s | exact setSupply_supplies _ _ s | exact moveDropped_supplies _ _ s

theorem warned_supplies (s : State) : Supplies s (warned s) := by
  unfold warned
  (repeat' split) <;> first | exact .refl s | exact moveDropped_supplies _ _ s

theorem outputWentLost_supplies (s : State) : Supplies s (outputWentLost s) := by
  unfold outputWentLost
  (repeat' split) <;> first | exact .refl s | exact setSupply_supplies _ _ s | exact moveDropped_supplies _ _ s

theorem goodRunDone_supplies (s : State) : Supplies s (goodRunDone s) := by
  unfold goodRunDone
  (repeat' split) <;> first | exact .refl s | exact setSupply_supplies _ _ s

theorem supplyDeparting_supplies (s : State) : Supplies s (supplyDeparting s) := by
  unfold supplyDeparting
  refine .ite (Supplies.trans ?_ (sendDrop_supplies _)) (.refl s)
  split
  · exact setSupply_supplies _ _ s
  all_goals exact .refl s

/-- Entry to JOINING raises the output enable; the measure is judged again after it (R100, R105). -/
theorem enabled_supplies (h : sending s = true) : Supplies s (updateGoodRun (enableOutput s)) := by
  unfold enableOutput
  split
  · exact supplyLine_supplies rfl rfl ⟨rfl, rfl⟩ fun _ => .inr h
  · exact updateGoodRun_supplies s

theorem disabled_most (s : State) : SuppliesMost s { s with sup.enable := false } := ⟨rfl, rfl, rfl, rfl, id, id⟩

/-- Where no good run can hold, the enable goes low with the measure off already (R100, R105). -/
theorem disabled_supplies (h : goodRunState s.st.state = false) : Supplies s { s with sup.enable := false } :=
  ⟨disabled_most s, fun hrun hr => by simpa [goodRunHolds, h] using hrun hr, fun _ _ hon => nomatch hon⟩

end Sys2Proof.Machine
end


section
/-! PROOF. `Supplies` through the transitions of the station state, departure, SHUTDOWN and the end of a step. -/

namespace Sys2Proof.Machine

open Sys2Proof.Config

variable {s t u : State}

/-! ## The reactions that leave the supply monitor and the station state -/

theorem reevaluate_supplies (s : State) : Supplies s (reevaluate s) := SameSupply.supplies (by simp [SameSupply])

theorem handOn_supplies (s : State) : Supplies s (handOn s) := SameSupply.supplies (by simp [SameSupply])

theorem examineGates_supplies (s : State) : Supplies s (examineGates s) := SameSupply.supplies (by simp [SameSupply])

theorem offerChanged_supplies (s : State) : Supplies s (offerChanged s) := SameSupply.supplies (by simp [SameSupply])

theorem beginWrites_supplies (s : State) : Supplies s (beginWrites s) := SameSupply.supplies (by simp [SameSupply])

theorem judgeAsk_supplies (s : State) : Supplies s (judgeAsk s) := SameSupply.supplies (by simp [SameSupply])

theorem judgeAllEscrow_supplies (s : State) : Supplies s (judgeAllEscrow s) :=
  SameSupply.supplies (by simp [SameSupply])

theorem stopEscrow_supplies (s : State) : Supplies s (stopEscrow s) := SameSupply.supplies (by simp [SameSupply])

theorem forceDeparture_supplies (s : State) : Supplies s (forceDeparture s) :=
  SameSupply.supplies (by simp [SameSupply])

theorem emptyQueue_supplies (s : State) : Supplies s (emptyQueue s) := SameSupply.supplies (by simp [SameSupply])

theorem dimAll_supplies (s : State) : Supplies s (dimAll s) := SameSupply.supplies (by simp [SameSupply])

theorem darkenAll_supplies (s : State) : Supplies s (darkenAll s) := SameSupply.supplies (by simp [SameSupply])

theorem updateForcing_supplies (s : State) : Supplies s (updateForcing s) := SameSupply.supplies (by simp [SameSupply])

theorem enterLeaving_supplies (s : State) : Supplies s (enterLeaving s) := SameSupply.supplies (by simp [SameSupply])

theorem enterGift_supplies (s : State) : Supplies s (enterGift s) := SameSupply.supplies (by simp [SameSupply])

theorem giveChunk_supplies (s : State) : Supplies s (giveChunk s) := SameSupply.supplies (by simp [SameSupply])

theorem endGift_supplies (s : State) : Supplies s (endGift s) := SameSupply.supplies (by simp [SameSupply])

theorem resendAll_supplies (s : State) : Supplies s (resendAll s) := SameSupply.supplies (by simp [SameSupply])

theorem silenceUnarmed_supplies (s : State) : Supplies s (silenceUnarmed s) := SameSupply.supplies ⟨rfl, rfl, rfl, rfl, rfl, rfl⟩

theorem withDep_supplies (d : Departure) (s : State) : Supplies s { s with dep := d } :=
  SameSupply.supplies ⟨rfl, rfl, rfl, rfl, rfl, rfl⟩

theorem withDrops_supplies (n : Nat) (s : State) : Supplies s { s with st.drops := n } :=
  SameSupply.supplies ⟨rfl, rfl, rfl, rfl, rfl, rfl⟩

theorem withPwroff_supplies (s : State) : Supplies s { s with st.pwroff := true } :=
  SameSupply.supplies ⟨rfl, rfl, rfl, rfl, rfl, rfl⟩

theorem withLink_supplies (l : Link) (s : State) : Supplies s { s with link := l } :=
  SameSupply.supplies ⟨rfl, rfl, rfl, rfl, rfl, rfl⟩

/-! ## Transitions -/

/-- A transition up to the good run, which is judged last. -/
def turned (x : StationState) (c : Cause) (s : State) : State :=
  let v := raiseOwn .stateChanged (b1 s.st.state.code ++ b1 x.code ++ b1 c.code)
    { s with
      st.state := x
      st.joinTimer := if x = .joining then some (s.now + ms 1000) else none
      st.pend := if x = .joining then s.st.pend else .none
      st.ready := decide (x = .departed)
      view.period := if x = .departed then none else s.view.period
      budget.heldView := if x = .isolated then some (liveView s) else none }
  updateForcing (if x = .active then v else stopAsking { closeWindow v with budget.retry := none })

theorem changeState_eq (x : StationState) (c : Cause) (s : State) : changeState x c s = updateGoodRun (turned x c s) :=
  rfl

theorem turned_kept (x : StationState) (c : Cause) (s : State) : (turned x c s).st.straps = s.st.straps ∧
    (turned x c s).st.state = x ∧ (turned x c s).cool.hottest = s.cool.hottest ∧
    (turned x c s).budget.offer = s.budget.offer ∧ (turned x c s).budget.derate = s.budget.derate ∧
    (turned x c s).sup = s.sup := by
  unfold turned
  dsimp only
  split <;> simp

@[simp] theorem changeState_figures (x : StationState) (c : Cause) (s : State) :
    (changeState x c s).budget.offer = s.budget.offer ∧ (changeState x c s).budget.derate = s.budget.derate ∧
    (changeState x c s).sup.loadCode = s.sup.loadCode ∧ (changeState x c s).sup.state = s.sup.state ∧
    (changeState x c s).sup.enable = s.sup.enable ∧ (changeState x c s).sup.inOk = s.sup.inOk ∧
    (changeState x c s).sup.overRun = s.sup.overRun ∧ (changeState x c s).sup.overEpisode = s.sup.overEpisode := by
  obtain ⟨-, -, -, hoffer, hderate, hsup⟩ := turned_kept x c s
  simp [changeState_eq, hoffer, hderate, hsup]

theorem changeState_most (x : StationState) (c : Cause) (s : State) : SuppliesMost s (changeState x c s) := by
  refine ⟨by simp, by simp, by simp, by simp, fun h => ?_, fun h => ?_⟩
  · simpa [OfferHold, role] using h
  · simpa [OverloadHold, role] using h

/-- Every transition judges the good run afresh (R100). -/
theorem changeState_run (x : StationState) (c : Cause) (s : State) : RunHold (changeState x c s) := updateGoodRun_run _

/-- A transition into a state from JOINING to DEPARTING keeps the enable where it was high. -/
theorem changeState_sending {x : StationState} {c : Cause} (h : sending (changeState x c s) = true) :
    Supplies s (changeState x c s) :=
  ⟨changeState_most x c s, fun _ => changeState_run x c s, fun _ _ _ => h⟩

theorem isolate_supplies (c : Cause) (s : State) : Supplies s (isolate c s) := by
  have hturn : Supplies s (changeState .isolated c { s with st.drops := 0 }) :=
    (withDrops_supplies 0 s).trans (changeState_sending (by simp [sending]))
  unfold isolate
  split
  · exact hturn
  · exact hturn
  all_goals exact .refl s

theorem enterActive_supplies (s : State) : Supplies s (enterActive s) :=
  (changeState_sending (by simp [sending])).trans (judgeAllEscrow_supplies _)

theorem enterJoining_supplies (c : Cause) (s : State) : Supplies s (enterJoining c s) := by
  have hjoining : sending (changeState .joining c { s with st.drops := 0 }) = true := by simp [sending]
  exact (((withDrops_supplies 0 s).trans (changeState_sending hjoining)).trans (enabled_supplies hjoining)).trans
    (reevaluate_supplies _)

/-! ## Departure -/

/-- What the entry into DEPARTING does after SUPPLY-DROP: the forced departure, the dimming of the ports, or the
zoning unit's leave. -/
def leave (forced : Bool) (s : State) : State :=
  if forced then forceDeparture s
  else if role s = .line then { dimAll (emptyQueue s) with dep.step := some .dimmingWait }
  else enterLeaving s

/-- The transition into DEPARTING with SUPPLY-DROP. -/
def departingBegun (c : Cause) (s : State) : State :=
  let s := changeState .departing c s
  supplyDeparting { s with
    dep := { kind := .orderly, step := none, timer := some (s.now + ms 10000), zoningAsked := false, ahead := 0,
             retry := none } }

theorem enterDeparting_eq (c : Cause) (b : Bool) (s : State) :
    enterDeparting c b s = leave b (departingBegun c s) := by
  unfold enterDeparting leave departingBegun
  dsimp only

theorem leave_supplies (b : Bool) (s : State) : Supplies s (leave b s) := by
  have hdim : Supplies s { dimAll (emptyQueue s) with dep.step := some .dimmingWait } :=
    ((emptyQueue_supplies s).trans (dimAll_supplies _)).trans (withDep_supplies _ _)
  exact .ite (forceDeparture_supplies s) (.ite hdim (enterLeaving_supplies s))

/-- After the transition into DEPARTING the station's parts follow it: SUPPLY-DROP, the ports, the zoning unit. -/
theorem enterDeparting_after (c : Cause) (b : Bool) (s : State) :
    Supplies (changeState .departing c s) (enterDeparting c b s) := by
  rw [enterDeparting_eq]
  exact ((withDep_supplies _ _).trans (supplyDeparting_supplies _)).trans (leave_supplies b _)

theorem enterDeparting_supplies (c : Cause) (b : Bool) (s : State) : Supplies s (enterDeparting c b s) :=
  (changeState_sending (by simp [sending])).trans (enterDeparting_after c b s)

theorem disableOutput_supplies (h : goodRunState s.st.state = false) : Supplies s (disableOutput s) := by
  refine .ite ?_ (.refl s)
  exact .ite (disabled_supplies h) ((disabled_supplies h).trans (setSupply_supplies _ _ _))

theorem setSupply_enable (x : SupplyState) (c : SupplyCause) (s : State) :
    (setSupply x c s).sup.enable = s.sup.enable := by
  unfold setSupply
  dsimp only
  (repeat' split) <;> simp

theorem disableOutput_enable (h : role s = .supply) : (disableOutput s).sup.enable = false := by
  unfold disableOutput
  rw [if_pos h]
  dsimp only
  split
  · rfl
  · exact setSupply_enable _ _ _

/-- DEPARTED is entered with the output enable low (R102, R105). -/
theorem enterDeparted_supplies (s : State) : Supplies s (enterDeparted s) := by
  have hturn (c : Cause) (d : Departure) :
      Supplies (changeState .departed c s) (stopEscrow { changeState .departed c s with dep := d }) :=
    (withDep_supplies d _).trans (stopEscrow_supplies _)
  have hoff (c : Cause) (d : Departure) : Supplies (changeState .departed c s)
      (disableOutput (stopEscrow { changeState .departed c s with dep := d })) :=
    (hturn c d).trans (disableOutput_supplies (by simp [goodRunState]))
  have hlow : EnableHold (enterDeparted s) := fun hr hon => by
    have hrole : role s = .supply := by simpa [role] using hr
    rw [enterDeparted, disableOutput_enable (by simpa [role] using hrole)] at hon
    cases hon
  exact ⟨(changeState_most _ _ s).trans (hoff _ _).toSuppliesMost, fun _ => (hoff _ _).run (changeState_run _ _ s),
    fun _ => hlow⟩

theorem offerDepart_supplies (s : State) : Supplies s (offerDepart s) := by
  have hoffer : Supplies s (offerNormal .depart (offerChanged (handOn s))).1 :=
    SameSupply.supplies (by simp [SameSupply])
  unfold offerDepart
  split
  · split <;> (rename_i heq; obtain rfl := offerNormal_of heq)
    · exact hoffer.trans (enterDeparted_supplies _)
    · exact hoffer.trans (withDep_supplies _ _)
    · exact hoffer
  · exact .refl s

theorem departProgress_supplies (s0 s : State) : Supplies s (departProgress s0 s) := by
  unfold departProgress
  split
  · split
    · exact .refl s
    · exact .ite (.refl s) ((enterGift_supplies s).trans (offerDepart_supplies _))
    · exact ((Supplies.ite (giveChunk_supplies s) (.refl s)).trans (endGift_supplies _)).trans (offerDepart_supplies _)
    · exact (enterLeaving_supplies s).trans (offerDepart_supplies _)
    · exact offerDepart_supplies s
  · exact .refl s

/-! ## SHUTDOWN -/

theorem shutdownRole_most (s : State) : SuppliesMost s (shutdownRole s) := by
  unfold shutdownRole
  split
  · exact ((withPwroff_supplies s).trans (darkenAll_supplies _)).toSuppliesMost
  · exact (withPwroff_supplies s).toSuppliesMost
  · exact (updateForcing_supplies s).toSuppliesMost
  · exact ((withPwroff_supplies s).toSuppliesMost.trans (disabled_most _)).trans
      (moveDropped_supplies .failed .shutdown _).toSuppliesMost

/-- SHUTDOWN drives the output enable low (R87, R102). -/
theorem shutdownRole_enable (h : role s = .supply) : (shutdownRole s).sup.enable = false := by
  simp [shutdownRole, h, supplyShutdown, setSupply_enable]

/-- Where no good run can hold, the role actions keep its measure, which is off. -/
theorem shutdownRole_supplies (h : goodRunState s.st.state = false) : Supplies s (shutdownRole s) := by
  refine ⟨shutdownRole_most s, fun hrun hr => ?_, fun _ hr hon => ?_⟩
  · have hrole : role s = .supply := by simpa [role] using hr
    have hgood : (shutdownRole s).sup.goodRun = s.sup.goodRun := by
      simp only [shutdownRole, hrole, supplyShutdown, sendDrop_frame]
      unfold setSupply
      dsimp only
      (repeat' split) <;> simp
    have hoff := hrun hrole
    rw [hgood, hoff]
    simp [goodRunHolds, h]
  · rw [shutdownRole_enable (by simpa [role] using hr)] at hon
    cases hon

/-- SHUTDOWN entered by a station that departs: the transition judges the run that the role actions have ended. -/
theorem shutdownDeparting_supplies (c : Cause) (b : Bool) (s : State) :
    Supplies s (enterDeparting c b (shutdownRole s)) := by
  have hafter := enterDeparting_after c b (shutdownRole s)
  exact ⟨((shutdownRole_most s).trans (changeState_most _ _ _)).trans hafter.toSuppliesMost,
    fun _ => hafter.run (changeState_run _ _ _), fun _ => hafter.enable fun _ _ => by simp [sending]⟩

theorem enterShutdown_supplies (s : State) : Supplies s (enterShutdown s) := by
  have hst : (shutdownRole s).st.state = s.st.state := by simp
  have hrole : role (shutdownRole s) = role s := by simp [role]
  unfold enterShutdown
  dsimp only
  split
  case h_1 => exact shutdownDeparting_supplies _ _ s
  case h_2 => exact shutdownDeparting_supplies _ _ s
  case h_3 => exact shutdownDeparting_supplies _ _ s
  case h_4 hd =>
    have hkept := shutdownRole_supplies (s := s) (by rw [← hst, hd]; rfl)
    exact .ite (hkept.trans (forceDeparture_supplies _)) hkept
  case h_5 hd =>
    have hkept := shutdownRole_supplies (s := s) (by rw [← hst, hd]; rfl)
    refine ⟨hkept.toSuppliesMost.trans ((withLink_supplies _ _).toSuppliesMost.trans (changeState_most _ _ _)),
      fun _ => changeState_run _ _ _, fun _ hr hon => ?_⟩
    have henable : (shutdownRole s).sup.enable = true := by simpa using hon
    rw [shutdownRole_enable (by simpa [role] using hr)] at henable
    cases henable
  case h_6 hd => exact shutdownRole_supplies (by rw [← hst, hd]; rfl)
  case h_7 hd => exact shutdownRole_supplies (by rw [← hst, hd]; rfl)

/-! ## The return from DEPARTED, and the end of a step -/

theorem rejoin_supplies (c : Cause) (s : State) : Supplies s (rejoin c s) := by
  have hback (v : State) : Supplies v (if v.st.clash then changeState .isolated c { v with st.drops := 0 }
      else enterJoining c (silenceUnarmed v)) :=
    .ite ((withDrops_supplies 0 v).trans (changeState_sending (by simp [sending])))
      ((silenceUnarmed_supplies v).trans (enterJoining_supplies c _))
  exact ((withDep_supplies _ s).trans (hback _)).trans (resendAll_supplies _)

theorem finish_supplies (s0 s : State) : Supplies s (finish s0 s) := by
  have hasked : Supplies s (asked s0 s) := .ite (judgeAsk_supplies s) (.refl s)
  have hhanded : Supplies s (handed s0 s) := (hasked.trans (departProgress_supplies s0 _)).trans (handOn_supplies _)
  have hsettled : Supplies s (settled s0 s) :=
    .ite ((hhanded.trans (examineGates_supplies _)).trans (handOn_supplies _)) hhanded
  exact (hsettled.trans (offerChanged_supplies _)).trans (beginWrites_supplies _)

end Sys2Proof.Machine
end

section
/-! PROOF. `Supplies` through the effects of the commands: the line, the view, the pins, the ports and the host. -/

namespace Sys2Proof.Machine

open Sys2Proof.Config

variable {s t u : State}

/-! ## Frames and the line -/

@[simp] theorem frameReported_blocks (m : Msg) (s : State) :
    (frameReported m s).budget = s.budget ∧ (frameReported m s).sup = s.sup := by
  unfold frameReported
  (repeat' split) <;> simp

@[simp] theorem reportExhausted_blocks (s : State) :
    (reportExhausted s).budget = s.budget ∧ (reportExhausted s).sup = s.sup := by
  unfold reportExhausted
  split <;> simp

theorem withSettings_supplies (q : Settings) (s : State) : Supplies s { s with st.settings := q } :=
  SameSupply.supplies ⟨rfl, rfl, rfl, rfl, rfl, rfl⟩

theorem kick_supplies (s : State) : Supplies s (kick s) := SameSupply.supplies (by simp [SameSupply])

theorem raiseOwn_supplies (n : NoticeKind) (d : List Byte) (s : State) : Supplies s (raiseOwn n d s) :=
  SameSupply.supplies (by simp [SameSupply])

theorem frameReported_supplies (m : Msg) (s : State) : Supplies s (frameReported m s) :=
  SameSupply.supplies (by simp [SameSupply])

theorem countDrop_supplies (s : State) : Supplies s (countDrop s) :=
  .ite ((withDrops_supplies _ s).trans (isolate_supplies _ _)) (withDrops_supplies _ s)

theorem dropFrame_supplies (q : TxQueue) (s : State) : Supplies s (dropFrame q s) := by
  unfold dropFrame
  split
  · exact ((withLink_supplies _ s).trans (countDrop_supplies _)).trans (kick_supplies _)
  · exact (((withLink_supplies _ s).trans (frameReported_supplies _ _)).trans (countDrop_supplies _)).trans
      (kick_supplies _)

theorem backOff_supplies (q : TxQueue) (s : State) : Supplies s (backOff q s) :=
  SameSupply.supplies (by simp [SameSupply, backOff])

theorem endJam_supplies (q : Option TxQueue) (s : State) : Supplies s (endJam q s) := by
  have hidle : Supplies s { s with link.idleFrom := s.now, link.ownUntil := some s.now } := withLink_supplies _ s
  unfold endJam
  split
  · exact SameSupply.supplies (by simp [SameSupply])
  · exact .ite (hidle.trans (backOff_supplies _ _)) (hidle.trans (dropFrame_supplies _ _))

theorem frameSent_supplies (q : TxQueue) (s : State) : Supplies s (frameSent q s) := by
  refine SameSupply.supplies ?_
  unfold frameSent
  split
  · simp [SameSupply]
  · dsimp only
    split <;> simp [SameSupply]

theorem addressClash_supplies (s : State) : Supplies s (addressClash s) := by
  have hclash : Supplies s { s with st.clash := true } := SameSupply.supplies ⟨rfl, rfl, rfl, rfl, rfl, rfl⟩
  exact .ite (.refl s) ((hclash.trans (isolate_supplies _ _)).trans (raiseOwn_supplies _ _ _))

theorem peerHeard_supplies (a : Addr) (s : State) : Supplies s (peerHeard a s) := by
  have hheard : Supplies s { refreshAge a s with
      st.silence := some ((refreshAge a s).now + ms 2000), st.silenceArmed := anyPeerPresent (refreshAge a s) } :=
    SameSupply.supplies (by simp [SameSupply])
  exact .ite (hheard.trans (enterJoining_supplies _ _)) hheard

theorem deliver_supplies (dest : Nat) (src : Addr) (code : Nat) (p : List Byte) (s : State) :
    Supplies s (deliver dest src code p s) := by
  refine SameSupply.supplies ?_
  unfold deliver offerReceived
  (repeat' split) <;> simp [SameSupply]

theorem receive_supplies (a : Activity) (s : State) : Supplies s (receive a s) := by
  unfold receive
  split
  · exact withLink_supplies _ s
  · exact withLink_supplies _ s
  · exact withLink_supplies _ s
  · exact .ite (addressClash_supplies s) ((peerHeard_supplies _ s).trans (deliver_supplies _ _ _ _ _))

/-! ## The view -/

theorem viewChanged_supplies (p : Addr) (s : State) : Supplies s (viewChanged p s) :=
  SameSupply.supplies (by simp [SameSupply])

theorem changeEntry_supplies {notice : State → State} (hnotice : ∀ v, Supplies v (notice v)) (p : Addr) (e : Entry)
    (s : State) : Supplies s (changeEntry p e notice s) := by
  have hset : Supplies s (notice (setEntry p e s)) :=
    (SameSupply.supplies ⟨rfl, rfl, rfl, rfl, rfl, rfl⟩ : Supplies s (setEntry p e s)).trans (hnotice _)
  exact .ite hset (hset.trans (viewChanged_supplies p _))

theorem raise_supplies (n : NoticeKind) (a : Nat) (d : List Byte) (s : State) : Supplies s (raise n a d s) :=
  SameSupply.supplies (by simp [SameSupply])

theorem arrived_supplies (src : Addr) (was : Entry) (f : Roll) (s : State) : Supplies s (arrived src was f s) := by
  refine SameSupply.supplies ?_
  unfold arrived
  (repeat' split) <;> simp [SameSupply]

theorem takeRollcall_supplies (src : Addr) (p : List Byte) (s : State) : Supplies s (takeRollcall src p s) := by
  unfold takeRollcall
  split
  · exact .refl s
  · exact changeEntry_supplies (arrived_supplies _ _ _) _ _ s

theorem takeDrop_supplies (src : Addr) (s : State) : Supplies s (takeDrop src s) := by
  unfold takeDrop
  split
  · exact .refl s
  · exact .ite (changeEntry_supplies .refl _ _ s) (.refl s)

theorem takeDepart_supplies (src : Addr) (s : State) : Supplies s (takeDepart src s) := by
  unfold takeDepart
  split
  · exact .refl s
  · exact .refl s
  · exact changeEntry_supplies (raise_supplies _ _ _) _ _ s

theorem loseEntry_supplies (p : Addr) (s : State) : Supplies s (loseEntry p s) := by
  unfold loseEntry
  split
  · exact .refl s
  · exact changeEntry_supplies (raise_supplies _ _ _) _ _ s

/-! ## The station's own events -/

theorem judgedOpen_supplies (s : State) : Supplies s (judgedOpen s) := by
  have hopen : Supplies s { s with st.ejectMeasure := none, st.ejectOpen := true } :=
    SameSupply.supplies ⟨rfl, rfl, rfl, rfl, rfl, rfl⟩
  unfold judgedOpen
  dsimp only
  split
  · exact hopen.trans (enterDeparting_supplies _ _ _)
  · exact hopen.trans (enterDeparting_supplies _ _ _)
  · exact .ite (SameSupply.supplies ⟨rfl, rfl, rfl, rfl, rfl, rfl⟩) hopen
  all_goals exact hopen

theorem judgedClosed_supplies (s : State) : Supplies s (judgedClosed s) := by
  have hclosed : Supplies s { s with st.ejectMeasure := none, st.ejectOpen := false } :=
    SameSupply.supplies ⟨rfl, rfl, rfl, rfl, rfl, rfl⟩
  unfold judgedClosed
  dsimp only
  split
  · exact .ite (SameSupply.supplies ⟨rfl, rfl, rfl, rfl, rfl, rfl⟩) hclosed
  · exact .ite hclosed (hclosed.trans (rejoin_supplies _ _))
  all_goals exact hclosed

theorem joiningOver_supplies (s : State) : Supplies s (joiningOver s) := by
  unfold joiningOver
  split
  · exact enterActive_supplies s
  · exact enterDeparting_supplies _ _ s
  · exact enterDeparting_supplies _ _ s

theorem silenceExpired_supplies (s : State) : Supplies s (silenceExpired s) := by
  have hoff : Supplies s { s with st.silence := none, st.silenceArmed := false } :=
    SameSupply.supplies ⟨rfl, rfl, rfl, rfl, rfl, rfl⟩
  exact .ite (hoff.trans (isolate_supplies _ _)) hoff

/-! ## Cooling and the supply's own events -/

theorem rotorEvent_supplies {f : State → State} (hf : ∀ v, SameSupply v (f v)) (i : Nat) (s : State) :
    Supplies s (rotorEvent i f s) := by
  refine (hf s).supplies.trans (SameSupply.supplies ?_)
  unfold rotorEvent
  dsimp only
  split <;> simp [SameSupply]

theorem checkRotors_supplies (r : RotorPins) (s : State) : Supplies s (checkRotors r s) := by
  have hchecked : Supplies s { s with cool.checkAt := some (s.now + ms 1000) } :=
    SameSupply.supplies ⟨rfl, rfl, rfl, rfl, rfl, rfl⟩
  refine (hchecked.trans (.foldl (fun v i => ?_) _ _)).trans (.foldl (fun v i => ?_) _ _)
  · exact rotorEvent_supplies (fun w => by simp [SameSupply, judgePresence_cool]) i v
  · split
    · exact .refl v
    · exact .ite (.refl v) (rotorEvent_supplies (fun w => by simp [SameSupply, measureRotor_cool]) i v)

theorem stepDown_supplies (s : State) : Supplies s (stepDown s) := SameSupply.supplies (by simp [SameSupply])

theorem retarget_supplies (s : State) : Supplies s (retarget s) := SameSupply.supplies (by simp [SameSupply])

theorem forceFans_supplies (b : Bool) (s : State) : Supplies s (forceFans b s) := by
  have hforced : Supplies s (updateDemand { s with cool.forced := b }) :=
    SameSupply.supplies ⟨rfl, rfl, rfl, rfl, rfl, rfl⟩
  exact .ite (hforced.trans (retarget_supplies _)) hforced

/-- A change of the lost-output measure and of the recorded loss is none that the good run is judged by. -/
theorem outputLost_supplies (s : State) :
    Supplies s (outputWentLost { s with sup.lostMeasure := none, sup.outputLost := true }) := by
  have hlost : Supplies s { s with sup.lostMeasure := none, sup.outputLost := true } :=
    ⟨⟨rfl, rfl, rfl, rfl, id, id⟩, fun h => h.same rfl rfl rfl ⟨rfl, rfl, rfl⟩ rfl, id⟩
  exact hlost.trans (outputWentLost_supplies _)

/-- A run that completes was on, and its conditions still hold (R100). -/
theorem goodRunOver_supplies (h : s.sup.goodRun ≠ .off) : Supplies s (goodRunDone { s with sup.goodRun := .complete }) := by
  have hcomplete : Supplies s { s with sup.goodRun := .complete } :=
    ⟨⟨rfl, rfl, rfl, rfl, id, id⟩, fun hrun hr => ⟨fun _ => (hrun hr).mp h, fun _ => by simp⟩, id⟩
  exact hcomplete.trans (goodRunDone_supplies _)

theorem inOkChanged_supplies (b : Bool) (s : State) :
    Supplies s (if b then inputRose (updateGoodRun { s with sup.inOk := b })
      else inputFell (updateGoodRun { s with sup.inOk := b })) := by
  have hline : Supplies s (updateGoodRun { s with sup.inOk := b }) := supplyLine_supplies rfl rfl ⟨rfl, rfl⟩ .inl
  exact .ite (hline.trans (inputRose_supplies _)) (hline.trans (inputFell_supplies _))

theorem outOkChanged_supplies (b : Bool) (s : State) : Supplies s (updateGoodRun
    (if b then { s with sup.outOk := true, sup.lostMeasure := none, sup.outputLost := false }
      else { s with sup.outOk := false, sup.lostMeasure := some (s.now + ms 5) })) := by
  split
  · exact supplyLine_supplies rfl rfl ⟨rfl, rfl⟩ .inl
  · exact supplyLine_supplies rfl rfl ⟨rfl, rfl⟩ .inl

theorem earlyWarnChanged_supplies (b : Bool) (s : State) :
    Supplies s (if b then warned (updateGoodRun { s with sup.earlyWarn := b })
      else updateGoodRun { s with sup.earlyWarn := b }) := by
  have hline : Supplies s (updateGoodRun { s with sup.earlyWarn := b }) := supplyLine_supplies rfl rfl ⟨rfl, rfl⟩ .inl
  exact .ite (hline.trans (warned_supplies _)) hline

/-! ## Admission and the ports -/

theorem recheck_supplies (s : State) : Supplies s (recheck s) := by
  refine SameSupply.supplies ?_
  unfold recheck
  split
  · simp [SameSupply]
  · (repeat' split) <;> simp [SameSupply]

theorem windowOver_supplies (s : State) : Supplies s (windowOver s) :=
  .ite ((reevaluate_supplies s).trans (recheck_supplies _)) (reevaluate_supplies s)

theorem becomeLit_supplies (n : Nat) (s : State) : Supplies s (becomeLit n s) := by
  refine SameSupply.supplies ?_
  unfold becomeLit
  split <;> simp [SameSupply]

theorem dimmingOver_supplies (n : Nat) (s : State) : Supplies s (dimmingOver n s) := by
  refine SameSupply.supplies ?_
  unfold dimmingOver
  (repeat' split) <;> simp [SameSupply]

/-! ## The host's commands -/

theorem reply_supplies (st : Status) (d : List Byte) (s : State) : Supplies s (reply st d s) :=
  SameSupply.supplies (by simp [SameSupply, reply])

theorem refuse_supplies (st : Status) (s : State) : Supplies s (refuse st s) :=
  SameSupply.supplies (by simp [SameSupply, refuse])

theorem judgeSet_supplies (p : List Byte) (s : State) : Supplies s (judgeSet p s) := by
  have hwritten (n : Nat) (v : State) : Supplies v (settingWritten n v) := by
    refine SameSupply.supplies ?_
    unfold settingWritten
    split <;> exact ⟨rfl, rfl, rfl, rfl, rfl, rfl⟩
  unfold judgeSet
  dsimp only
  refine .ite (refuse_supplies _ s) (.ite (refuse_supplies _ s) ?_)
  split
  · exact refuse_supplies _ s
  · exact ((withSettings_supplies _ s).trans (hwritten _ _)).trans (reply_supplies _ _ _)

theorem judgeForce_supplies (p : List Byte) (s : State) : Supplies s (judgeForce p s) := by
  unfold judgeForce
  split
  · exact (forceFans_supplies _ s).trans (reply_supplies _ _ _)
  · exact (forceFans_supplies _ s).trans (reply_supplies _ _ _)
  · exact refuse_supplies _ s

theorem joinUp_supplies (s : State) : Supplies s (joinUp s) := by
  have hown : Supplies s (silenceUnarmed (buildOwn { s with link := startLink s.now s.link })) :=
    SameSupply.supplies (by simp [SameSupply, silenceUnarmed])
  exact (hown.trans (enterJoining_supplies _ _)).trans (resendAll_supplies _)

theorem reportExhausted_supplies (s : State) : Supplies s (reportExhausted s) := SameSupply.supplies (by simp [SameSupply])

theorem judgeJoin_supplies (p : List Byte) (s : State) : Supplies s (judgeJoin p s) := by
  unfold judgeJoin
  refine .ite (refuse_supplies _ s) ?_
  split
  · exact ((reply_supplies _ _ s).trans (joinUp_supplies _)).trans (reportExhausted_supplies _)
  · exact .ite (refuse_supplies _ s)
      (((reply_supplies _ _ s).trans (rejoin_supplies _ _)).trans (reportExhausted_supplies _))
  all_goals exact refuse_supplies _ s

theorem judgeDepart_supplies (p : List Byte) (s : State) : Supplies s (judgeDepart p s) := by
  unfold judgeDepart
  split
  · exact (reply_supplies _ _ s).trans (enterDeparting_supplies _ _ _)
  · exact (reply_supplies _ _ s).trans (enterDeparting_supplies _ _ _)
  · exact SameSupply.supplies (by simp [SameSupply, reply])
  all_goals exact refuse_supplies _ s

/-- LINK-RESTART starts the measure afresh: its conditions are judged again (R21, R100). -/
theorem restart_supplies (s : State) : Supplies s (restart s) := by
  have hcleared : Supplies s (silenceUnarmed (restartZoning (restartCleared s))) :=
    SameSupply.supplies (by simp [SameSupply, restartCleared, silenceUnarmed])
  have hjoined : Supplies s (restartJoined s) := hcleared.trans (enterJoining_supplies _ _)
  have hrun (v : State) : Supplies v (restartGoodRun v) := supplyLine_supplies rfl rfl ⟨rfl, rfl⟩ .inl
  have hdue (v : State) : Supplies v (rollcallDue v) := SameSupply.supplies ⟨rfl, rfl, rfl, rfl, rfl, rfl⟩
  rw [restart_eq]
  exact (((hjoined.trans (retarget_supplies _)).trans (hrun _)).trans (resendAll_supplies _)).trans (hdue _)

theorem judgeRestart_supplies (p : List Byte) (s : State) : Supplies s (judgeRestart p s) := by
  unfold judgeRestart
  split
  · exact (reply_supplies _ _ s).trans (restart_supplies _)
  · exact (reply_supplies _ _ s).trans (restart_supplies _)
  · exact .ite (refuse_supplies _ s) ((reply_supplies _ _ s).trans (restart_supplies _))
  all_goals exact refuse_supplies _ s

theorem judgeForget_supplies (p : List Byte) (s : State) : Supplies s (judgeForget p s) := by
  have hforgotten (a : Addr) : Supplies s (changeEntry a .empty id (reply .ok [] s)) :=
    (reply_supplies _ _ s).trans (changeEntry_supplies .refl _ _ _)
  unfold judgeForget
  split
  · exact refuse_supplies _ s
  · refine .ite (refuse_supplies _ s) ?_
    split
    · exact refuse_supplies _ s
    · exact refuse_supplies _ s
    · exact hforgotten _
    · exact hforgotten _

/-- A command on one port, whatever it does there. -/
theorem onPort_supplies {act : Port → State → State} (hact : ∀ p v, Supplies v (act p v)) (b : Bool) (n : Nat)
    (s : State) : Supplies s (onPort b n act s) := by
  refine .ite (refuse_supplies _ s) (.ite (refuse_supplies _ s) ?_)
  split
  · exact refuse_supplies _ s
  · exact hact _ s

theorem judgeRequest_supplies (p : List Byte) (s : State) : Supplies s (judgeRequest p s) :=
  onPort_supplies (fun q v => .ite (refuse_supplies _ v)
    (.ite (SameSupply.supplies (by simp [SameSupply, requestPort, reply])) (refuse_supplies _ v))) _ _ s

theorem cancelled_supplies (n : Nat) (s : State) : Supplies s (reply .ok [] (darkenPort n (removeEntry n s))) :=
  SameSupply.supplies (by simp [SameSupply, reply])

theorem judgeCancel_supplies (p : List Byte) (s : State) : Supplies s (judgeCancel p s) :=
  onPort_supplies (fun _ v => .ite (cancelled_supplies _ v) (refuse_supplies _ v)) _ _ s

theorem judgeRelease_supplies (p : List Byte) (s : State) : Supplies s (judgeRelease p s) := by
  have hdim (n : Nat) (v : State) : Supplies v (reply .ok [] (dimPort .released n v)) :=
    SameSupply.supplies (by simp [SameSupply, reply])
  unfold judgeRelease
  refine onPort_supplies (fun q v => ?_) _ _ s
  split
  · exact hdim _ v
  · exact hdim _ v
  · exact cancelled_supplies _ v
  all_goals exact refuse_supplies _ v

theorem setNode_supplies (n : Nat) (node : Option Nat) (q : Port) (s : State) : Supplies s (setNode n node q s) := by
  refine SameSupply.supplies ?_
  unfold setNode filterReply
  split <;> simp [SameSupply, reply]

theorem judgeAttach_supplies (p : List Byte) (s : State) : Supplies s (judgeAttach p s) :=
  onPort_supplies (fun q v => .ite (refuse_supplies _ v) (.ite (setNode_supplies _ _ q v) (refuse_supplies _ v))) _ _ s

theorem judgeDetach_supplies (p : List Byte) (s : State) : Supplies s (judgeDetach p s) :=
  onPort_supplies (fun q v => .ite (setNode_supplies _ _ q v) (refuse_supplies _ v)) _ _ s

theorem judgeInstall_supplies (p : List Byte) (s : State) : Supplies s (judgeInstall p s) :=
  .ite (refuse_supplies _ s) (.ite (refuse_supplies _ s) (.ite (refuse_supplies _ s)
    (SameSupply.supplies (by simp [SameSupply]))))

theorem judgeWithdraw_supplies (p : List Byte) (s : State) : Supplies s (judgeWithdraw p s) :=
  .ite (refuse_supplies _ s) (.ite (refuse_supplies _ s) (SameSupply.supplies (by simp [SameSupply])))

theorem judgeReclaim_supplies (p : List Byte) (s : State) : Supplies s (judgeReclaim p s) := by
  unfold judgeReclaim
  dsimp only
  split
  · exact refuse_supplies _ s
  · exact .ite (SameSupply.supplies (by simp [SameSupply])) (refuse_supplies _ s)

theorem onDraft_supplies {act : State → State} (hact : ∀ v, Supplies v (act v)) (s : State) :
    Supplies s (onDraft act s) := .ite (refuse_supplies _ s) (.ite (refuse_supplies _ s) (hact s))

theorem draftReply_supplies (s : State) : Supplies s (draftReply s) := reply_supplies _ _ s

theorem addMember_supplies (e : ZEntry) (s : State) : Supplies s (addMember e s) :=
  .ite (refuse_supplies _ s) (.ite (draftReply_supplies s) (.ite (refuse_supplies _ s)
    (SameSupply.supplies (by simp [SameSupply, draftReply, reply]))))

theorem removeMember_supplies (e : ZEntry) (s : State) : Supplies s (removeMember e s) :=
  .ite (refuse_supplies _ s) (SameSupply.supplies (by simp [SameSupply, draftReply, reply]))

theorem judgePublish_supplies (p : List Byte) (s : State) : Supplies s (judgePublish p s) := by
  have hpublish (v : State) : Supplies v (publish v) := by
    refine SameSupply.supplies ?_
    unfold publish
    dsimp only
    split <;> simp [SameSupply]
  exact .ite (refuse_supplies _ s) (.ite (refuse_supplies _ s) (.ite (refuse_supplies _ s) (.ite (refuse_supplies _ s)
    ((reply_supplies _ _ s).trans (hpublish _)))))

theorem readFrom_supplies (tb : Table) (i : Nat) (s : State) : Supplies s (readFrom tb i s) :=
  SameSupply.supplies (by simp [SameSupply, readFrom, reply])

theorem judgeReadTable_supplies (p : List Byte) (s : State) : Supplies s (judgeReadTable p s) := by
  have hclear (st : Status) : Supplies s (refuse st (clearCursor s)) :=
    SameSupply.supplies (by simp [SameSupply, refuse])
  unfold judgeReadTable
  dsimp only
  split
  · exact hclear _
  · exact .ite (hclear _) (.ite (hclear _) (readFrom_supplies _ _ s))

theorem judgeReadNext_supplies (p : List Byte) (s : State) : Supplies s (judgeReadNext p s) := by
  unfold judgeReadNext
  split
  · exact refuse_supplies _ s
  · exact .ite (reply_supplies _ _ s) (readFrom_supplies _ _ s)

theorem judgeReadNotice_supplies (p : List Byte) (s : State) : Supplies s (judgeReadNotice p s) :=
  SameSupply.supplies (by simp [SameSupply, judgeReadNotice, reply])

theorem judgeReadCounters_supplies (p : List Byte) (s : State) : Supplies s (judgeReadCounters p s) := by
  unfold judgeReadCounters
  split
  · exact reply_supplies _ _ s
  · exact SameSupply.supplies (by simp [SameSupply, reply])
  · exact refuse_supplies _ s

/-! ## The other timers -/

theorem judgeUnanswered_supplies (x : Nat) (s : State) : Supplies s (judgeUnanswered x s) := by
  refine SameSupply.supplies ?_
  unfold judgeUnanswered
  (repeat' split) <;> simp [SameSupply]

theorem spacingOver_supplies (s : State) : Supplies s (spacingOver s) :=
  .ite (.ite (SameSupply.supplies (by simp [SameSupply])) (SameSupply.supplies (by simp [SameSupply])))
    (SameSupply.supplies (by simp [SameSupply]))

theorem guardOver_supplies (s : State) : Supplies s (guardOver s) :=
  .ite (SameSupply.supplies (by simp [SameSupply])) (SameSupply.supplies (by simp [SameSupply]))

theorem takeGive_supplies (src : Addr) (g : GiveFields) (s : State) : Supplies s (takeGive src g s) :=
  .ite (.refl s) (.ite (SameSupply.supplies (by simp [SameSupply])) (SameSupply.supplies (by simp [SameSupply])))

theorem tryOver_supplies (l : Flight) (s : State) : Supplies s (tryOver l s) :=
  .ite (SameSupply.supplies (by simp [SameSupply])) (.ite (SameSupply.supplies (by simp [SameSupply]))
    (SameSupply.supplies (by simp [SameSupply])))

end Sys2Proof.Machine
end

section
/-! PROOF. What every command but the resets and the sample keeps of a SUPPLY station's figures. -/

namespace Sys2Proof.Machine

open Sys2Proof.Config

variable {s t u : State}

/-! ## Outcomes -/

/-- Every state that an outcome gives keeps what `Supplies` says of `s`. -/
def OutSupplies (s : State) (o : Out) : Prop := ∀ t, o = .next t → Supplies s t

theorem next_supplies (h : Supplies s t) : OutSupplies s (.next t) := by
  rintro u ⟨⟩
  exact h

theorem outSupplies_refl (s : State) : OutSupplies s (.next s) := next_supplies (.refl s)

theorem outSupplies_ite {c : Prop} [Decidable c] {o p : Out} (ho : OutSupplies s o) (hp : OutSupplies s p) :
    OutSupplies s (if c then o else p) := by
  split
  · exact ho
  · exact hp

theorem stepOf_supplies {act : State → State} (h : Supplies s (act u)) : OutSupplies s (stepOf act u) :=
  next_supplies (h.trans (finish_supplies _ _))

theorem reach_supplies (d : Nat) (s : State) : Supplies s (reach d s) := SameSupply.supplies ⟨rfl, rfl, rfl, rfl, rfl, rfl⟩

theorem expiryStep_supplies {timer : Option Nat} {act : State → State} (hact : ∀ v, Supplies v (act v)) (s : State) :
    OutSupplies s (expiryStep timer act s) := by
  unfold expiryStep
  split
  · exact outSupplies_refl s
  · exact stepOf_supplies ((reach_supplies _ s).trans (hact _))

theorem takeHead_supplies {act : RxFrame → State → State} (hact : ∀ f v, Supplies v (act f v)) (k : Kind) (s : State) :
    OutSupplies s (takeHead k act s) := by
  unfold takeHead
  split
  · exact outSupplies_refl s
  · exact outSupplies_ite (stepOf_supplies ((withLink_supplies _ s).trans (hact _ _))) (outSupplies_refl s)

theorem withHost_supplies (x : HostPort) (s : State) : Supplies s { s with host := x } :=
  SameSupply.supplies ⟨rfl, rfl, rfl, rfl, rfl, rfl⟩

theorem shiftStatus_supplies (s : State) : Supplies s (shiftStatus s) := withHost_supplies _ s

theorem transactWith_supplies {onBad : State → State} {judge : List Byte → State → State}
    (hbad : ∀ v, Supplies v (onBad v)) (hjudge : ∀ p v, Supplies v (judge p v)) (len : Nat) (rest : List Byte)
    (s : State) : OutSupplies s (transactWith onBad len judge rest s) := by
  have hshift := shiftStatus_supplies s
  unfold transactWith
  dsimp only
  refine outSupplies_ite (next_supplies hshift) ?_
  split
  · exact next_supplies hshift
  · have hbusy (tag : Byte) : Supplies s { shiftStatus s with host.slot := .busy tag } :=
      hshift.trans (withHost_supplies _ _)
    exact outSupplies_ite (stepOf_supplies ((hbusy _).trans (hjudge _ _)))
      (next_supplies (((hbusy _).trans (hbad _)).trans (refuse_supplies _ _)))
  · exact next_supplies hshift

theorem transact_supplies {judge : List Byte → State → State} (hjudge : ∀ p v, Supplies v (judge p v)) (len : Nat)
    (rest : List Byte) (s : State) : OutSupplies s (transact len judge rest s) :=
  transactWith_supplies .refl hjudge len rest s

/-! ## Effects that leave the supply monitor, the figures and the station state -/

theorem attemptOver_supplies (l : Link) (s : State) : Supplies s (kick { s with link := l }) :=
  (withLink_supplies l s).trans (kick_supplies _)

theorem faultSet_supplies (s : State) : Supplies s (faultSet s) :=
  SameSupply.supplies (by simp [SameSupply, faultSet])

theorem faultClear_supplies (s : State) : Supplies s (faultClear s) :=
  SameSupply.supplies (by simp [SameSupply, faultClear])

theorem takeAsk_supplies (src : Addr) (a b : Nat) (s : State) : Supplies s (takeAsk src a b s) :=
  SameSupply.supplies (by simp [SameSupply])

theorem takeAck_supplies (src : Addr) (x : Nat) (s : State) : Supplies s (takeAck src x s) :=
  SameSupply.supplies (by simp [SameSupply])

theorem outstandingOver_supplies (s : State) : Supplies s (outstandingOver s) :=
  SameSupply.supplies (by simp [SameSupply, outstandingOver])

theorem withView_supplies (x : View) (s : State) : Supplies s { s with view := x } :=
  SameSupply.supplies ⟨rfl, rfl, rfl, rfl, rfl, rfl⟩

theorem offerRollcall_supplies (f : Roll) (s : State) : Supplies s (offerRollcall f s) :=
  SameSupply.supplies (by simp [SameSupply])

theorem withPort_supplies (x : Ports) (s : State) : Supplies s { s with port := x } :=
  SameSupply.supplies ⟨rfl, rfl, rfl, rfl, rfl, rfl⟩

theorem withRetry_supplies (r : Option Nat) (s : State) : Supplies s { s with budget.retry := r } :=
  SameSupply.supplies ⟨rfl, rfl, rfl, rfl, rfl, rfl⟩

theorem withZone_supplies (x : Zoning) (s : State) : Supplies s { s with zone := x } :=
  SameSupply.supplies ⟨rfl, rfl, rfl, rfl, rfl, rfl⟩

theorem receiveOpen_supplies (src : Addr) (g n c : Nat) (s : State) : Supplies s (receiveOpen src g n c s) :=
  SameSupply.supplies (by simp [SameSupply])

theorem receiveSeg_supplies (src : Addr) (g n : Nat) (l : List ZEntry) (s : State) :
    Supplies s (receiveSeg src g n l s) := SameSupply.supplies (by simp [SameSupply])

theorem takeVote_supplies (src : Addr) (g : Nat) (v : Verdict) (r : Reason) (k : Option Nat) (s : State) :
    Supplies s (takeVote src g v r k s) := SameSupply.supplies (by simp [SameSupply])

theorem receiveCommit_supplies (src : Addr) (g : Nat) (s : State) : Supplies s (receiveCommit src g s) :=
  SameSupply.supplies (by simp [SameSupply])

theorem receiveAbandon_supplies (src : Addr) (g r : Nat) (s : State) : Supplies s (receiveAbandon src g r s) :=
  SameSupply.supplies (by simp [SameSupply])

theorem refuseSet_supplies (r : Reason) (k : Option Nat) (s : State) : Supplies s (refuseSet r k s) :=
  SameSupply.supplies (by simp [SameSupply])

theorem abandon_supplies (r : Reason) (l : List Byte) (s : State) : Supplies s (abandon r l s) :=
  SameSupply.supplies (by simp [SameSupply])

theorem orphaned_supplies (s : State) : Supplies s (orphaned s) :=
  SameSupply.supplies (by simp [SameSupply, orphaned])

theorem pumpZone_supplies (l : List Msg) (s : State) : Supplies s (pumpZone l s) :=
  SameSupply.supplies (by simp [SameSupply])

theorem clearCursor_supplies (s : State) : Supplies s (clearCursor s) := withHost_supplies _ s

/-! ## Commands of several shapes -/

theorem execTxGapComplete_supplies (s : State) : OutSupplies s (execTxGapComplete s) := by
  unfold execTxGapComplete
  split
  · split
    · exact outSupplies_refl s
    · exact next_supplies ((reach_supplies _ s).trans (withLink_supplies _ _))
  all_goals exact outSupplies_refl s

theorem execTxCollision_supplies (s : State) : OutSupplies s (execTxCollision s) := by
  unfold execTxCollision
  split
  · exact outSupplies_ite (next_supplies (SameSupply.supplies (by simp [SameSupply, startJam]))) (outSupplies_refl s)
  all_goals exact outSupplies_refl s

theorem execJamEnd_supplies (s : State) : OutSupplies s (execJamEnd s) := by
  unfold execJamEnd
  split
  · exact stepOf_supplies ((reach_supplies _ s).trans (endJam_supplies _ _))
  all_goals exact outSupplies_refl s

theorem execTxFrameComplete_supplies (s : State) : OutSupplies s (execTxFrameComplete s) := by
  unfold execTxFrameComplete
  split
  · exact stepOf_supplies ((reach_supplies _ s).trans (frameSent_supplies _ _))
  all_goals exact outSupplies_refl s

theorem execLineActivityEnd_supplies (bits : List Bool) (lead : Nat) (s : State) :
    OutSupplies s (execLineActivityEnd bits lead s) := by
  have hidle (d : Nat) : Supplies s (lineIdle (reach d s)) := (reach_supplies d s).trans (withLink_supplies _ _)
  exact outSupplies_ite (outSupplies_ite (next_supplies (hidle _)) (stepOf_supplies ((hidle _).trans
    (receive_supplies _ _)))) (outSupplies_refl s)

theorem execAnswerDelayExpire_supplies (a : Addr) (s : State) : OutSupplies s (execAnswerDelayExpire a s) := by
  unfold execAnswerDelayExpire
  split
  · exact outSupplies_refl s
  · exact stepOf_supplies (SameSupply.supplies (by simp [SameSupply]))

theorem execEscrowTimerExpire_supplies (x : Nat) (s : State) : OutSupplies s (execEscrowTimerExpire x s) := by
  unfold execEscrowTimerExpire
  split
  · exact outSupplies_refl s
  case h_2 e he =>
    refine expiryStep_supplies (fun v => (judgeUnanswered_supplies e.xfer v).trans (SameSupply.supplies ?_)) s
    simp [SameSupply, escrowOver]

theorem execFilterAck_supplies (n : Nat) (s : State) : OutSupplies s (execFilterAck n s) := by
  have hended (l : Flight) : Supplies s (if l.ignored then endIgnored s else endTaken l s) :=
    .ite (SameSupply.supplies (by simp [SameSupply])) (SameSupply.supplies (by simp [SameSupply]))
  have hserve (v : State) : Supplies v (serveFilters v) := SameSupply.supplies (by simp [SameSupply])
  unfold execFilterAck
  split
  · exact outSupplies_refl s
  · exact outSupplies_ite (stepOf_supplies ((hended _).trans (hserve _))) (outSupplies_refl s)

theorem execFilterTryExpire_supplies (s : State) : OutSupplies s (execFilterTryExpire s) := by
  unfold execFilterTryExpire
  split
  · exact outSupplies_refl s
  · exact stepOf_supplies ((reach_supplies _ s).trans (tryOver_supplies _ _))

theorem execStoreWriteComplete_supplies (r : RecordId) (s : State) : OutSupplies s (execStoreWriteComplete r s) := by
  have hwaits (l : List Wait) (v : State) : Supplies v (l.foldl runWait v) :=
    .foldl (fun w x => SameSupply.supplies (by simp [SameSupply])) l v
  have hstore (x : Store) : Supplies s { s with store := x } := SameSupply.supplies ⟨rfl, rfl, rfl, rfl, rfl, rfl⟩
  unfold execStoreWriteComplete
  split
  · exact outSupplies_ite (stepOf_supplies ((hstore _).trans (hwaits _ _))) (outSupplies_refl s)
  · exact outSupplies_ite (stepOf_supplies ((hstore _).trans (hwaits _ _))) (outSupplies_refl s)

theorem execFetch_supplies (n : Nat) (s : State) : OutSupplies s (execFetch n s) := by
  have hshift := shiftStatus_supplies s
  unfold execFetch
  dsimp only
  refine outSupplies_ite (next_supplies hshift) ?_
  split
  · refine next_supplies (hshift.trans ?_)
    split <;> exact withHost_supplies _ _
  all_goals exact next_supplies hshift

theorem execCommandUnknown_supplies (c : Byte) (rest : List Byte) (s : State) :
    OutSupplies s (execCommandUnknown c rest s) := by
  have hshift := shiftStatus_supplies s
  unfold execCommandUnknown
  dsimp only
  refine outSupplies_ite (next_supplies hshift) ?_
  split
  · exact next_supplies hshift
  · exact next_supplies ((hshift.trans (withHost_supplies _ _)).trans (refuse_supplies _ _))
  · exact next_supplies hshift

theorem execGoodRunComplete_supplies (s : State) : OutSupplies s (execGoodRunComplete s) := by
  unfold execGoodRunComplete expiryStep
  split
  · exact outSupplies_refl s
  case h_2 d hend =>
    have hon : (reach d s).sup.goodRun ≠ .off := by
      intro hoff
      rw [show s.sup.goodRun = .off from hoff] at hend
      cases hend
    exact stepOf_supplies ((reach_supplies d s).trans (goodRunOver_supplies hon))

/-! ## Frames taken -/

theorem execRollcallTaken_supplies (s : State) : OutSupplies s (execRollcallTaken s) :=
  takeHead_supplies (fun _ v => takeRollcall_supplies _ _ v) _ s

theorem execSupplyDropTaken_supplies (s : State) : OutSupplies s (execSupplyDropTaken s) :=
  takeHead_supplies (fun _ v => takeDrop_supplies _ v) _ s

theorem execDepartTaken_supplies (s : State) : OutSupplies s (execDepartTaken s) :=
  takeHead_supplies (fun _ v => takeDepart_supplies _ v) _ s

theorem execSeatAskTaken_supplies (s : State) : OutSupplies s (execSeatAskTaken s) := by
  refine takeHead_supplies (fun f v => .ite ?_ (.refl v)) _ s
  split
  · exact .refl v
  · exact takeAsk_supplies _ _ _ v

theorem execSeatGiveTaken_supplies (s : State) : OutSupplies s (execSeatGiveTaken s) := by
  refine takeHead_supplies (fun f v => .ite ?_ (.refl v)) _ s
  split
  · exact .refl v
  · exact takeGive_supplies _ _ v

theorem execSeatAckTaken_supplies (s : State) : OutSupplies s (execSeatAckTaken s) := by
  refine takeHead_supplies (fun f v => .ite ?_ (.refl v)) _ s
  split
  · exact .refl v
  · exact takeAck_supplies _ _ v

theorem execZoneOpenTaken_supplies (s : State) : OutSupplies s (execZoneOpenTaken s) :=
  takeHead_supplies (fun _ v => .ite (receiveOpen_supplies _ _ _ _ v) (.refl v)) _ s

theorem execZoneSegTaken_supplies (s : State) : OutSupplies s (execZoneSegTaken s) :=
  takeHead_supplies (fun _ v => .ite (receiveSeg_supplies _ _ _ _ v) (.refl v)) _ s

theorem execZoneVoteTaken_supplies (s : State) : OutSupplies s (execZoneVoteTaken s) := by
  refine takeHead_supplies (fun f v => .ite ?_ (.refl v)) _ s
  split
  · exact takeVote_supplies _ _ _ _ _ v
  · exact .refl v

theorem execZoneCommitTaken_supplies (s : State) : OutSupplies s (execZoneCommitTaken s) :=
  takeHead_supplies (fun _ v => .ite (receiveCommit_supplies _ _ v) (.refl v)) _ s

theorem execZoneAbandonTaken_supplies (s : State) : OutSupplies s (execZoneAbandonTaken s) :=
  takeHead_supplies (fun _ v => .ite (receiveAbandon_supplies _ _ _ v) (.refl v)) _ s

/-! ## Every command but the resets and the sample -/

theorem exec_supplies {c : Instr} (hassert : ∀ k, c ≠ .resetAssert k) (hrelease : ∀ p, c ≠ .resetRelease p)
    (hsample : ∀ r, c ≠ .sensorSample r) (s : State) : OutSupplies s (exec c s) := by
  cases c with
  | resetAssert k => exact absurd rfl (hassert k)
  | resetRelease p => exact absurd rfl (hrelease p)
  | sensorSample r => exact absurd rfl (hsample r)
  | ejectPinChange b =>
    exact outSupplies_ite (outSupplies_refl s) (next_supplies (SameSupply.supplies ⟨rfl, rfl, rfl, rfl, rfl, rfl⟩))
  | ejectJudgedOpen => exact outSupplies_ite (expiryStep_supplies judgedOpen_supplies s) (outSupplies_refl s)
  | ejectJudgedClosed => exact outSupplies_ite (outSupplies_refl s) (expiryStep_supplies judgedClosed_supplies s)
  | faultLineChange b =>
    exact outSupplies_ite (outSupplies_refl s) (next_supplies (SameSupply.supplies ⟨rfl, rfl, rfl, rfl, rfl, rfl⟩))
  | faultConditionSet =>
    exact outSupplies_ite (expiryStep_supplies faultSet_supplies s) (outSupplies_refl s)
  | faultConditionClear =>
    exact outSupplies_ite (expiryStep_supplies faultClear_supplies s) (outSupplies_refl s)
  | rotorCheck r => exact expiryStep_supplies (checkRotors_supplies r) s
  | inOkChange b => exact outSupplies_ite (stepOf_supplies (inOkChanged_supplies b s)) (outSupplies_refl s)
  | outOkChange b => exact outSupplies_ite (stepOf_supplies (outOkChanged_supplies b s)) (outSupplies_refl s)
  | earlyWarnChange b => exact outSupplies_ite (stepOf_supplies (earlyWarnChanged_supplies b s)) (outSupplies_refl s)
  | outputLostExpire => exact expiryStep_supplies outputLost_supplies s
  | goodRunComplete => exact execGoodRunComplete_supplies s
  | storeWriteComplete r => exact execStoreWriteComplete_supplies r s
  | lineActivityEnd bits lead => exact execLineActivityEnd_supplies bits lead s
  | txGapComplete => exact execTxGapComplete_supplies s
  | txCollision => exact execTxCollision_supplies s
  | jamEnd => exact execJamEnd_supplies s
  | txFrameComplete => exact execTxFrameComplete_supplies s
  | backoffExpire q => exact expiryStep_supplies (fun v => attemptOver_supplies _ v) s
  | holdCounterExpire => exact expiryStep_supplies (fun v => attemptOver_supplies _ v) s
  | holdGuardExpire => exact expiryStep_supplies guardOver_supplies s
  | rollcallTaken => exact execRollcallTaken_supplies s
  | supplyDropTaken => exact execSupplyDropTaken_supplies s
  | departTaken => exact execDepartTaken_supplies s
  | seatAskTaken => exact execSeatAskTaken_supplies s
  | seatGiveTaken => exact execSeatGiveTaken_supplies s
  | seatAckTaken => exact execSeatAckTaken_supplies s
  | zoneOpenTaken => exact execZoneOpenTaken_supplies s
  | zoneSegTaken => exact execZoneSegTaken_supplies s
  | zoneVoteTaken => exact execZoneVoteTaken_supplies s
  | zoneCommitTaken => exact execZoneCommitTaken_supplies s
  | zoneAbandonTaken => exact execZoneAbandonTaken_supplies s
  | rollcallPeriodExpire =>
    exact expiryStep_supplies (fun v => (withView_supplies _ v).trans (offerRollcall_supplies _ _)) s
  | peerAgeExpire p => exact expiryStep_supplies (loseEntry_supplies p) s
  | silenceTimerExpire => exact expiryStep_supplies silenceExpired_supplies s
  | joiningTimerExpire => exact expiryStep_supplies joiningOver_supplies s
  | settleWindowExpire => exact expiryStep_supplies windowOver_supplies s
  | retryTimerExpire =>
    exact expiryStep_supplies (fun v => (withRetry_supplies _ v).trans (examineGates_supplies _)) s
  | fanHoldExpire => exact expiryStep_supplies stepDown_supplies s
  | fanStepExpire => exact expiryStep_supplies stepDown_supplies s
  | askOutstandingExpire => exact expiryStep_supplies outstandingOver_supplies s
  | askSpacingExpire => exact expiryStep_supplies spacingOver_supplies s
  | answerDelayExpire a => exact execAnswerDelayExpire_supplies a s
  | escrowTimerExpire x => exact execEscrowTimerExpire_supplies x s
  | lightingTimerExpire n => exact expiryStep_supplies (becomeLit_supplies n) s
  | dimmingTimerExpire n => exact expiryStep_supplies (dimmingOver_supplies n) s
  | historyBoundary =>
    exact expiryStep_supplies (fun v => (withPort_supplies _ v).trans (examineGates_supplies _)) s
  | segmentTimerExpire => exact expiryStep_supplies (refuseSet_supplies _ _) s
  | voteWindowExpire => exact expiryStep_supplies (fun v => abandon_supplies _ _ v) s
  | orphanTimerExpire => exact expiryStep_supplies orphaned_supplies s
  | zoneResendTimerExpire =>
    exact expiryStep_supplies (fun v => (withZone_supplies _ v).trans (pumpZone_supplies _ _)) s
  | filterAck n => exact execFilterAck_supplies n s
  | filterTryExpire => exact execFilterTryExpire_supplies s
  | departureTimerExpire => exact expiryStep_supplies forceDeparture_supplies s
  | departRetryExpire => exact expiryStep_supplies (fun v => withDep_supplies _ v) s
  | intDeassertIntervalExpire => exact expiryStep_supplies (fun v => withHost_supplies _ v) s
  | fetch n => exact execFetch_supplies n s
  | set l => exact transact_supplies judgeSet_supplies _ l s
  | join l => exact transact_supplies judgeJoin_supplies _ l s
  | depart l => exact transact_supplies judgeDepart_supplies _ l s
  | linkRestart l => exact transact_supplies judgeRestart_supplies _ l s
  | forgetPeer l => exact transact_supplies judgeForget_supplies _ l s
  | forceFans l => exact transact_supplies judgeForce_supplies _ l s
  | portRequest l => exact transact_supplies judgeRequest_supplies _ l s
  | portCancel l => exact transact_supplies judgeCancel_supplies _ l s
  | portRelease l => exact transact_supplies judgeRelease_supplies _ l s
  | portAttach l => exact transact_supplies judgeAttach_supplies _ l s
  | portDetach l => exact transact_supplies judgeDetach_supplies _ l s
  | seatInstall l => exact transact_supplies judgeInstall_supplies _ l s
  | seatWithdraw l => exact transact_supplies judgeWithdraw_supplies _ l s
  | seatReclaim l => exact transact_supplies judgeReclaim_supplies _ l s
  | zoneDraftClear l =>
    exact transact_supplies (fun _ => onDraft_supplies fun v =>
      (withZone_supplies _ v).trans (draftReply_supplies _)) _ l s
  | zoneDraftAdd l => exact transact_supplies (fun _ => onDraft_supplies (addMember_supplies _)) _ l s
  | zoneDraftRemove l => exact transact_supplies (fun _ => onDraft_supplies (removeMember_supplies _)) _ l s
  | zonePublish l => exact transact_supplies judgePublish_supplies _ l s
  | readTable l =>
    exact transactWith_supplies clearCursor_supplies judgeReadTable_supplies _ l s
  | readNext l => exact transact_supplies judgeReadNext_supplies _ l s
  | readNotice l => exact transact_supplies judgeReadNotice_supplies _ l s
  | readCounters l => exact transact_supplies judgeReadCounters_supplies _ l s
  | readStatus l => exact transact_supplies (fun _ v => reply_supplies _ _ v) _ l s
  | commandUnknown c l => exact execCommandUnknown_supplies c l s

end Sys2Proof.Machine
end

section
/-! PROOF. Settles O10: the sample and the resets, which move the figures that every other command keeps. -/

namespace Sys2Proof.Machine

open Sys2Proof.Config

variable {s t u : State}

/-! ## The sample -/

/-- The rules read no reading: they pass to any state with the same straps, state, figures and monitor. -/
theorem SupplyHold.same (h : SupplyHold s) (hstraps : t.st.straps = s.st.straps) (hstate : t.st.state = s.st.state)
    (hfigures : t.budget.offer = s.budget.offer ∧ t.budget.derate = s.budget.derate) (hsup : t.sup = s.sup) :
    SupplyHold t := by
  obtain ⟨hoffer, hderate⟩ := hfigures
  have hrole : role t = role s := by rw [role, hstraps, role]
  refine ⟨?_, ?_, ?_, ?_⟩
  · rw [hrole, hoffer, hderate, hstraps, hsup]
    exact h.offer
  · exact RunHold.same (s := s) h.run (by rw [hsup]) hstraps hstate ⟨by rw [hsup], by rw [hsup], by rw [hsup]⟩
      (by rw [hsup])
  · rw [hrole, hsup]
    exact h.overload
  · rw [hrole, hsup, sending_of_state hstate]
    exact h.enable

theorem sampleJudged_blocks (r : Sensors) (s : State) :
    (sampleJudged r s).budget = s.budget ∧ (sampleJudged r s).sup = s.sup := by
  simp [sampleJudged, updateCounts]

/-- An overload is judged in GOOD alone, and there it may begin, go on or end (R107). -/
theorem judgeOverload_hold (h : SupplyHold s) : SupplyHold (judgeOverload s) := by
  have hsame (x : Option Nat) (b : Bool) (hgood : s.sup.state = .good) :
      SupplyHold { s with sup.overRun := x, sup.overEpisode := b } :=
    ⟨h.offer, fun hr => RunHold.same (s := s) h.run rfl rfl rfl ⟨rfl, rfl, rfl⟩ rfl hr, fun _ hne => absurd hgood hne,
      h.enable⟩
  unfold judgeOverload
  dsimp only
  split
  · exact h
  case isFalse hgood =>
    have hgood : s.sup.state = .good := Decidable.not_not.mp hgood
    split
    · split
      · exact hsame _ _ hgood
      · split
        · exact (raiseOwn_supplies _ _ _).hold (hsame s.sup.overRun true hgood)
        · exact h
    · exact hsame none false hgood

/-- A sample derates the offer afresh and judges the overload (R58, R59, R106, R107). -/
theorem supplySample_hold (code : Nat) (h : SupplyHold s) : SupplyHold (supplySample code s) := by
  have hoffered : SupplyHold (updateOffer { s with budget.derate := derateOf s.cool.hottest, sup.loadCode := code }) :=
    ⟨fun _ => rfl, fun hr => RunHold.same (s := s) h.run rfl rfl rfl ⟨rfl, rfl, rfl⟩ rfl hr, h.overload, h.enable⟩
  unfold supplySample
  split
  · exact judgeOverload_hold hoffered
  · exact h

theorem takeSample_hold (r : Sensors) (h : SupplyHold s) : SupplyHold (takeSample r s) := by
  obtain ⟨hbudget, hsup⟩ := sampleJudged_blocks r s
  have hjudged : SupplyHold (sampleJudged r s) :=
    h.same (by simp) (by simp) ⟨by rw [hbudget], by rw [hbudget]⟩ hsup
  have hentered : Supplies (sampleJudged r s) (sampleEntered r s) := .ite (enterShutdown_supplies _) (.refl _)
  have hsampled := supplySample_hold r.loadCode.toNat (hentered.hold hjudged)
  rw [takeSample_eq]
  split
  · exact (retarget_supplies _).hold hsampled
  · exact hsampled

/-! ## The resets -/

/-- Under reset the measure is off, the enable low and no overload under way. -/
theorem assertReset_hold (k : ResetKind) (s : State) : SupplyHold (assertReset k s) :=
  ⟨fun _ => rfl, fun _ => by simp [assertReset, State.underReset, goodRunHolds, goodRunState], fun _ _ => ⟨rfl, rfl⟩,
    fun _ h => nomatch h⟩

@[simp] theorem storeLoaded_budget (s : State) : (storeLoaded s).budget = s.budget := by
  unfold storeLoaded loadZoning
  split <;> simp [loadSeats]

@[simp] theorem loadStore_budget (s : State) : (loadStore s).budget = s.budget := by
  rw [loadStore_eq]
  unfold seatJudged
  (repeat' split) <;> simp

theorem startSupply_budget (p : ReleasePins) (s : State) : (startSupply p s).budget = s.budget := by
  unfold startSupply
  split <;> rfl

@[simp] theorem offerOf_byInput (rated derate : Nat) (b : Bool) : offerOf rated derate (byInput b) = 0 := by
  cases b <;> rfl

@[simp] theorem offerOf_absent (rated derate : Nat) : offerOf rated derate .absent = 0 := rfl

/-- After release the supply has offered nothing yet, and no good run holds in SETUP (R100, R108). -/
theorem releaseReset_hold (p : ReleasePins) (s : State) : SupplyHold (releaseReset p s) := by
  obtain ⟨-, hst, -, hsup, -⟩ := releaseReset_frame p s
  have hstate : (releaseReset p s).st.state = .setup := by
    rw [hst]
    simp [sampledRelease, startMeasures]
  have hoffer : (releaseReset p s).budget.offer = 0 := by
    simp [releaseReset_eq, sampledRelease, startMeasures, State.underReset, startSupply_budget]
  obtain ⟨hinput, hgood, hrun, hepisode, henable⟩ : ((releaseReset p s).sup.state = byInput p.inOk ∨
      (releaseReset p s).sup.state = .absent) ∧ (releaseReset p s).sup.goodRun = .off ∧
      (releaseReset p s).sup.overRun = none ∧ (releaseReset p s).sup.overEpisode = false ∧
      (releaseReset p s).sup.enable = false := by
    rw [hsup]
    unfold sampledRelease startSupply
    split <;> simp [startMeasures, State.underReset]
  refine ⟨fun _ => ?_, fun _ => ?_, fun _ _ => ⟨hrun, hepisode⟩, fun _ h => ?_⟩
  · rw [hoffer]
    rcases hinput with h | h <;> simp [h]
  · simp [hgood, goodRunHolds, hstate, goodRunState]
  · rw [henable] at h
    cases h

/-- Settles O10: the sample sets the offer by its derate, every other command keeps the four rules, and a reset begins
them anew. -/
theorem supplyHoldKept : Obligations.SupplyHoldKept := by
  unfold Obligations.SupplyHoldKept
  intro s t hs hstep
  refine step_kept (P := SupplyHold) (fun v q h => h.same rfl rfl ⟨rfl, rfl⟩ rfl)
    (fun v h => h.same rfl rfl ⟨rfl, rfl⟩ rfl) (fun k v _ => assertReset_hold k v)
    (fun p v _ => releaseReset_hold p v) (fun c v u hassert hrelease hexec hv => ?_) hs hstep
  by_cases hsample : ∃ r, c = .sensorSample r
  case neg => exact (exec_supplies hassert hrelease (fun r hr => hsample ⟨r, hr⟩) v u hexec).hold hv
  case pos =>
    obtain ⟨r, rfl⟩ := hsample
    change expiryStep _ (takeSample r) v = .next u at hexec
    unfold expiryStep at hexec
    split at hexec
    · obtain rfl := Host.Outcome.next.inj hexec
      exact hv
    · obtain rfl := Host.Outcome.next.inj hexec
      exact (finish_supplies _ _).hold (takeSample_hold r (hv.same rfl rfl ⟨rfl, rfl⟩ rfl))

end Sys2Proof.Machine
end

section
/-! PROOF. Settles O24 and O25: the margined capacity and the steady claims. -/

namespace Sys2Proof.Machine

variable {s t u : State}

/-! ## The margined capacity -/

/-- The margin is rounded up, so the capacity less it is rounded down (R61). -/
theorem marginedOf_eq_floor (u : Nat) : (marginedOf u : Int) = (u : Int) + ⌊-(3 * (u : Rat)) / 100⌋ := by
  have hceil : ((ceilDiv (3 * u) 100 : Nat) : Int) = ⌈(3 * (u : Rat)) / 100⌉ := by
    rw [ceilDiv_eq_ceil _ _ (by decide)]
    push_cast
    rfl
  have hle : ceilDiv (3 * u) 100 ≤ u := by
    unfold ceilDiv
    omega
  rw [neg_div, Int.floor_neg, ← hceil, marginedOf]
  omega

/-- Coverage compares the running sum with the margined capacity (R61, R68). -/
theorem compute_covered_iff (h : role s ≠ .supply) : (compute s).budget.coverage = .covered ↔
    (compute s).budget.runSum ≤ (compute s).budget.margined := by
  rw [compute_coverage, if_neg h]
  split
  case isTrue hle => exact iff_of_true rfl hle
  case isFalse hnot => exact iff_of_false (fun h => nomatch h) hnot

/-- A settle window opens only for a head that passes the first check (R61, R73, R74). -/
theorem examineGates_opens {e : QEntry} {q : List QEntry} (hq : s.port.queue = e :: q)
    (hclosed : s.budget.window = none) (hopen : (examineGates s).budget.window ≠ none) :
    firstTotal (liveView s) (ownAddr s).val (prospective s e.port) ≤ s.budget.margined := by
  unfold examineGates at hopen
  rw [hq] at hopen
  dsimp only at hopen
  split at hopen
  case isTrue h => exact h.2
  case isFalse => exact absurd hclosed hopen

/-- A start is recorded only for a head that passes the re-check (R61, R75). -/
theorem recheck_starts {e : QEntry} {q : List QEntry} (hq : s.port.queue = e :: q)
    (hstart : (recheck s).port.history ≠ s.port.history) :
    recheckTotal (liveView s) (ownAddr s).val (prospective s e.port) ≤ s.budget.margined := by
  unfold recheck at hstart
  rw [hq] at hstart
  dsimp only at hstart
  split at hstart
  case isTrue => exact absurd rfl hstart
  case isFalse h => exact Nat.le_of_not_lt h

/-- Settles O24: rounding, and the three comparisons. -/
theorem marginedCapacity : Obligations.MarginedCapacity := by
  unfold Obligations.MarginedCapacity
  exact ⟨marginedOf_eq_floor, rfl, rfl, rfl, fun s => ⟨rfl, compute_covered_iff⟩,
    fun s e q hq hclosed hopen => examineGates_opens hq hclosed hopen, fun s e q hq hstart => recheck_starts hq hstart⟩

/-! ## The steady claims -/

theorem portTenths_eq_portWeight (s : State) : portTenths s = portWeight s := by
  unfold portTenths portWeight
  congr 1
  refine List.map_congr_left fun p _ => ?_
  unfold Port.weight
  cases p.req <;> cases p.state <;> simp [Nat.mul_comm]

/-- A LINE station's claim is its base draw and its ports' weight in tenths, rounded up (R64). -/
theorem steadyClaim_line (h : role s = .line) :
    (steadyClaim s : Int) = s.st.settings.base + ⌈(portTenths s : Rat) / 10⌉ := by
  rw [steadyClaim, h, portTenths_eq_portWeight]
  dsimp only [lineClaim]
  rw [Nat.cast_add, ceilDiv_eq_ceil _ _ (by decide)]
  rfl

/-- A FAN station's claim is 15 and its running rotors' power at the duty (R65). -/
theorem steadyClaim_fan (h : role s = .fan) : (steadyClaim s : Int) =
    15 + (s.cool.rotors.filter fun r => r.state = .ok).length *
      ⌈((20 * (s.st.straps.cls.val + 1) * s.cool.duty ^ 3 : Nat) : Rat) / 1000000⌉ := by
  rw [steadyClaim, h]
  dsimp only [rotorTerm, ratedPower, okRotors]
  rw [Nat.cast_add, Nat.cast_mul, ceilDiv_eq_ceil _ _ (by decide)]
  rfl

/-- A SUPPLY station has no port, so nothing queues for one (R64). -/
theorem queue_of_supply (h : PortsAgree s) (hr : role s = .supply) : s.port.queue = [] := by
  have hrole : s.st.straps.role = .supply := hr
  have hrecs : s.port.recs = [] := List.eq_nil_of_length_eq_zero (by rw [h.fitted, fittedPorts, hrole])
  refine List.eq_nil_iff_forall_not_mem.mpr fun e he => ?_
  obtain ⟨p, hp, -⟩ := h.entry e he
  simp [portAt, hrecs] at hp

/-- Settles O25: the claim stands as the steady claim of the role, and an increment needs a queued port. -/
theorem steadyClaims : Obligations.SteadyClaims := by
  unfold Obligations.SteadyClaims
  intro s hown hports
  have hclaim := hown.claim
  refine ⟨fun h => ?_, fun h => ⟨?_, ?_⟩, fun h => ?_, fun h => ?_⟩
  · rw [hclaim, steadyClaim, h]
  · rw [hclaim, steadyClaim, h]
  · rw [hown.tent, tentative, queue_of_supply hports h]
    cases s.budget.window <;> rfl
  · rw [hclaim, steadyClaim_line h]
  · rw [hclaim, steadyClaim_fan h]

end Sys2Proof.Machine
end

section
/-! PROOF. Settles O19 and O23: the figures of a sample, and the derate. -/

namespace Sys2Proof.Machine

open Sys2Proof.Config

variable {s t u : State}

/-! ## Readings and the hottest (R80, R81) -/

theorem validReading_eq_some (x : Option Int) (T : Int) :
    validReading x = some T ↔ x = some T ∧ -40 ≤ T ∧ T ≤ 150 := by
  cases x with
  | none => simp [validReading]
  | some y =>
    simp only [validReading]
    split <;> grind

/-- `h` is the highest of the valid readings in `l`. -/
def Hottest (l : List (Option Int)) : Option Int → Prop
  | none => ∀ T, some T ∉ l
  | some T => some T ∈ l ∧ ∀ U, some U ∈ l → U ≤ T

theorem Hottest.single (x : Option Int) : Hottest [x] x := by
  cases x <;> simp [Hottest]

theorem Hottest.append {l m : List (Option Int)} {h k : Option Int} (hl : Hottest l h) (hm : Hottest m k) :
    Hottest (l ++ m) (hotter h k) := by
  cases h with
  | none =>
    cases k with
    | none => exact fun T hT => (List.mem_append.mp hT).elim (hl T) (hm T)
    | some y =>
      exact ⟨List.mem_append_right l hm.1, fun U hU => (List.mem_append.mp hU).elim (fun hin => absurd hin (hl U)) (hm.2 U)⟩
  | some x =>
    cases k with
    | none =>
      exact ⟨List.mem_append_left m hl.1, fun U hU => (List.mem_append.mp hU).elim (hl.2 U) (fun hin => absurd hin (hm U))⟩
    | some y =>
      refine ⟨?_, fun U hU => (List.mem_append.mp hU).elim (fun hin => le_max_of_le_left (hl.2 U hin))
        (fun hin => le_max_of_le_right (hm.2 U hin))⟩
      rcases max_choice x y with hmax | hmax <;> simp only [hmax]
      · exact List.mem_append_left m hl.1
      · exact List.mem_append_right l hm.1

theorem Hottest.eq_some_iff {l : List (Option Int)} {h : Option Int} (hl : Hottest l h) (T : Int) :
    h = some T ↔ some T ∈ l ∧ ∀ U, some U ∈ l → U ≤ T := by
  cases h with
  | none => exact ⟨fun h => (nomatch h), fun h => absurd h.1 (hl T)⟩
  | some x =>
    refine ⟨fun h => ?_, fun h => ?_⟩
    · obtain rfl := Option.some.inj h
      exact hl
    · exact congrArg some (Int.le_antisymm (h.2 x hl.1) (hl.2 T h.1))

theorem hottestReading_hottest (r : Readings) : Hottest [r.s0, r.s1, r.s2, r.s3] (hottestReading r) :=
  ((Hottest.single r.s0).append (.single r.s1)).append ((Hottest.single r.s2).append (.single r.s3))

/-! ## The demand and the counts (R82, R84) -/

theorem demandOf_forced (p : Settings) (h : Option Int) : demandOf p true h = 100 := rfl

theorem demandOf_invalid (p : Settings) : demandOf p false none = 100 := rfl

theorem demandOf_low {p : Settings} {T : Int} (h : T ≤ p.tLow) : demandOf p false (some T) = 30 := by
  simp [demandOf, h]

theorem demandOf_high {p : Settings} {T : Int} (hlow : p.tLow < T) (hhigh : p.tHigh ≤ T) :
    demandOf p false (some T) = 100 := by
  simp [demandOf, Int.not_le.mpr hlow, hhigh]

/-- Between the thresholds the demand rises from 30 to 100 in proportion, rounded up (R82). -/
theorem demandOf_between {p : Settings} {T : Int} (hlow : p.tLow < T) (hhigh : T < p.tHigh) :
    (demandOf p false (some T) : Int) =
      30 + ⌈((70 * (T - p.tLow) : Int) : Rat) / ((p.tHigh - p.tLow : Int) : Rat)⌉ := by
  have hnum : ((70 * (T - p.tLow)).toNat : Int) = 70 * (T - p.tLow) := Int.toNat_of_nonneg (by omega)
  have hden : ((p.tHigh - p.tLow).toNat : Int) = p.tHigh - p.tLow := Int.toNat_of_nonneg (by omega)
  have hceil := ceilDiv_eq_ceil (70 * (T - p.tLow)).toNat (p.tHigh - p.tLow).toNat (by omega)
  rw [← Int.cast_natCast (R := Rat), ← Int.cast_natCast (R := Rat), hnum, hden] at hceil
  simp only [demandOf, Bool.false_eq_true, if_false, Int.not_le.mpr hlow, Int.not_le.mpr hhigh]
  rw [Nat.cast_add, hceil]
  rfl

/-! ## The figures of a sample -/

/-- What a sample sets in the thermal unit (R80 to R82, R84). -/
theorem sampleJudged_figures (r : Sensors) (s : State) :
    (sampleJudged r s).cool.readings = readSensors r ∧
    (sampleJudged r s).cool.hottest = hottestReading (readSensors r) ∧ (sampleJudged r s).cool.sampled = true ∧
    (sampleJudged r s).cool.sampleAt = some (s.now + ms 250) ∧
    (sampleJudged r s).cool.demand = demandOf s.st.settings s.cool.forced (hottestReading (readSensors r)) ∧
    (sampleJudged r s).cool.critCount =
      critCountOf s.st.settings.tCrit (hottestReading (readSensors r)) s.cool.critCount ∧
    (sampleJudged r s).cool.clearCount =
      clearCountOf s.st.settings.tCrit (hottestReading (readSensors r)) s.cool.clearCount ∧
    (sampleJudged r s).cool.shutCount =
      shutCountOf s.st.settings.tShut (hottestReading (readSensors r)) s.cool.shutCount ∧
    (sampleJudged r s).cool.rotors = s.cool.rotors := by
  have hjudge (v : State) : (judgeThermal v).cool = { v.cool with thermal := (judgeThermal v).cool.thermal } := by
    unfold judgeThermal
    (repeat' split) <;> simp
  have hread (v : State) : (takeReadings r v).cool = { v.cool with
      readings := readSensors r, hottest := hottestReading (readSensors r), sampled := true,
      demand := demandOf v.st.settings v.cool.forced (hottestReading (readSensors r)) } := by
    unfold takeReadings
    dsimp only
    (repeat' split) <;> simp [updateDemand]
  unfold sampleJudged
  rw [hjudge]
  simp [updateCounts, hread]

/-- The entry into SHUTDOWN counts and receives no frame. -/
theorem enterShutdown_line (s : State) : (enterShutdown s).link.counters = s.link.counters ∧
    (enterShutdown s).link.rx = s.link.rx := by
  unfold enterShutdown
  dsimp only
  split
  case h_4 => split <;> simp
  all_goals simp [startLink]

@[simp] theorem sampleJudged_blocks_kept (r : Sensors) (s : State) :
    (sampleJudged r s).zone = s.zone ∧ (sampleJudged r s).seat = s.seat ∧
    (sampleJudged r s).host.slot = s.host.slot ∧ (sampleJudged r s).host.cursor = s.host.cursor ∧
    (sampleJudged r s).host.out = s.host.out := by
  simp [sampleJudged, updateCounts]

/-- What the rest of the step leaves of a judged sample: its figures, the module port and the durable items. -/
structure FiguresKept (s t : State) : Prop where
  now : t.now = s.now
  readings : t.cool.readings = s.cool.readings
  hottest : t.cool.hottest = s.cool.hottest
  sampled : t.cool.sampled = s.cool.sampled
  sampleAt : t.cool.sampleAt = s.cool.sampleAt
  demand : t.cool.demand = s.cool.demand
  critCount : t.cool.critCount = s.cool.critCount
  clearCount : t.cool.clearCount = s.cool.clearCount
  shutCount : t.cool.shutCount = s.cool.shutCount
  rotors : t.cool.rotors = s.cool.rotors
  counters : t.link.counters = s.link.counters
  rx : t.link.rx = s.link.rx
  port : PortKept s t
  durable : DurableKept s t

theorem FiguresKept.trans (h : FiguresKept s t) (k : FiguresKept t u) : FiguresKept s u :=
  ⟨k.now.trans h.now, k.readings.trans h.readings, k.hottest.trans h.hottest, k.sampled.trans h.sampled,
    k.sampleAt.trans h.sampleAt, k.demand.trans h.demand, k.critCount.trans h.critCount,
    k.clearCount.trans h.clearCount, k.shutCount.trans h.shutCount, k.rotors.trans h.rotors,
    k.counters.trans h.counters, k.rx.trans h.rx, h.port.trans k.port, h.durable.trans k.durable⟩

theorem FiguresKept.refl (s : State) : FiguresKept s s :=
  ⟨rfl, rfl, rfl, rfl, rfl, rfl, rfl, rfl, rfl, rfl, rfl, rfl, ⟨rfl, rfl, rfl⟩,
    ⟨rfl, rfl, rfl, rfl, rfl, rfl, rfl, rfl⟩⟩

theorem enterShutdown_figures (s : State) : FiguresKept s (enterShutdown s) := by
  obtain ⟨hcounters, hrx⟩ := enterShutdown_line s
  exact ⟨by simp, by simp, by simp, by simp, by simp, by simp, by simp, by simp, by simp, by simp, hcounters, hrx,
    ⟨by simp, by simp, by simp⟩, ⟨by simp, by simp, by simp, by simp, by simp, by simp, by simp, by simp⟩⟩

theorem supplySample_figures (code : Nat) (s : State) : FiguresKept s (supplySample code s) := by
  constructor
  case port => constructor <;> simp
  case durable => constructor <;> simp
  all_goals simp

theorem retarget_figures (s : State) : FiguresKept s (retarget s) := by
  constructor
  case port => constructor <;> simp
  case durable => constructor <;> simp
  all_goals simp

theorem finish_figures (s0 s : State) : FiguresKept s (finish s0 s) := by
  constructor
  case port => constructor <;> simp
  case durable => constructor <;> simp
  all_goals simp

theorem sampleJudged_port (r : Sensors) (s : State) : PortKept s (sampleJudged r s) := by
  constructor <;> simp [sampleJudged, updateCounts]

theorem sampleJudged_durable (r : Sensors) (s : State) : DurableKept s (sampleJudged r s) := by
  constructor <;> simp [sampleJudged, updateCounts]

/-- The entry into SHUTDOWN, the supply's part of the sample and the end of the step keep what the sample judged. -/
theorem sample_finished (r : Sensors) (s : State) :
    FiguresKept (sampleJudged r s) (finish s (takeSample r s)) := by
  have hentered : FiguresKept (sampleJudged r s) (sampleEntered r s) := by
    unfold sampleEntered
    split
    · exact enterShutdown_figures _
    · exact .refl _
  have htaken : FiguresKept (sampleJudged r s) (takeSample r s) := by
    have hsupply := hentered.trans (supplySample_figures r.loadCode.toNat _)
    rw [takeSample_eq]
    split
    · exact hsupply.trans (retarget_figures _)
    · exact hsupply
  exact htaken.trans (finish_figures s _)

/-- A SUPPLY station's derate, load and offer follow the sample (R58, R59, R106). -/
theorem supplySample_sets (code : Nat) (hr : role s = .supply) :
    (supplySample code s).budget.derate = derateOf s.cool.hottest ∧ (supplySample code s).sup.loadCode = code ∧
    OfferHold (supplySample code s) := by
  have hjudge (v : State) : (judgeOverload v).budget = v.budget ∧ (judgeOverload v).sup.loadCode = v.sup.loadCode ∧
      (judgeOverload v).sup.state = v.sup.state := by
    unfold judgeOverload
    dsimp only
    (repeat' split) <;> simp
  unfold supplySample
  rw [if_pos hr]
  simp only [OfferHold, hjudge, judgeOverload_frame]
  exact ⟨rfl, rfl, fun _ => rfl⟩

theorem sample_supply (r : Sensors) (hr : role s = .supply) {t : State} (ht : t = finish s (takeSample r s)) :
    t.budget.derate = derateOf t.cool.hottest ∧ t.sup.loadCode = r.loadCode.toNat ∧
      t.budget.offer = offerOf (ratedOutput s.st.straps) t.budget.derate t.sup.state := by
  have hentered : role (sampleEntered r s) = .supply := by
    unfold sampleEntered
    split <;> simpa [role] using hr
  obtain ⟨hderate, hload, hoffer⟩ := supplySample_sets r.loadCode.toNat hentered
  have htaken : Supplies (supplySample r.loadCode.toNat (sampleEntered r s)) (takeSample r s) := by
    rw [takeSample_eq]
    exact .ite (retarget_supplies _) (.refl _)
  have hkept : Supplies (supplySample r.loadCode.toNat (sampleEntered r s)) t :=
    ht ▸ htaken.trans (finish_supplies s _)
  have hhot : t.cool.hottest = (sampleEntered r s).cool.hottest := hkept.hottest.trans (by simp)
  have hstraps : t.st.straps = s.st.straps := by
    rw [ht, (sample_finished r s).durable.straps, (sampleJudged_frame r s).2.1]
  refine ⟨by rw [hkept.derate, hderate, hhot], hkept.load.trans hload, ?_⟩
  rw [← hstraps]
  exact hkept.offer hoffer (by rw [role, hstraps]; exact hr)

/-- A sample that is due completes: the step ends at its time, with its effect followed (R80). -/
theorem exec_sensorSample (r : Sensors) {d : Nat} (hs : s.st.state ≠ .reset) (hd : s.cool.sampleAt = some d) :
    exec (.sensorSample r) s = .next (finish (reach d s) (takeSample r (reach d s))) := by
  simp [exec, execSensorSample, during, hs, hd, expiryStep, stepOf]

/-- Settles O19: the judgement sets the figures, and nothing after it in the step moves them. -/
theorem sampleSetsFigures : Obligations.SampleSetsFigures := by
  unfold Obligations.SampleSetsFigures
  intro r s d hs hd
  refine ⟨_, exec_sensorSample r hs hd, ?_⟩
  have hsupply := sample_supply r (s := reach d s) (t := finish (reach d s) (takeSample r (reach d s)))
  generalize ht : finish (reach d s) (takeSample r (reach d s)) = t at hsupply ⊢
  have hkept : FiguresKept (sampleJudged r (reach d s)) t := ht ▸ sample_finished r (reach d s)
  obtain ⟨-, -, hport, hdurable⟩ := reach_aside d s
  obtain ⟨jreadings, jhottest, jsampled, jsampleAt, jdemand, jcrit, jclear, jshut, jrotors⟩ :=
    sampleJudged_figures r (reach d s)
  have hnow : t.now = max s.now d := hkept.now.trans (by simp [reach])
  have hreadings := hkept.readings.trans jreadings
  have hhottest : t.cool.hottest = hottestReading t.cool.readings := by rw [hkept.hottest, jhottest, hreadings]
  have hdemand : t.cool.demand = demandOf s.st.settings s.cool.forced t.cool.hottest := by
    rw [hkept.demand, jdemand, hkept.hottest, jhottest]
    rfl
  have hcrit : t.cool.critCount = critCountOf s.st.settings.tCrit t.cool.hottest s.cool.critCount := by
    rw [hkept.critCount, jcrit, hkept.hottest, jhottest]
    rfl
  have hclear : t.cool.clearCount = clearCountOf s.st.settings.tCrit t.cool.hottest s.cool.clearCount := by
    rw [hkept.clearCount, jclear, hkept.hottest, jhottest]
    rfl
  have hshut : t.cool.shutCount = shutCountOf s.st.settings.tShut t.cool.hottest s.cool.shutCount := by
    rw [hkept.shutCount, jshut, hkept.hottest, jhottest]
    rfl
  refine ⟨hnow, ?next, fun T => ?readings, fun l T hl => ?hottest, hkept.sampled.trans jsampled, fun hf => ?forced,
    fun hf hnone => ?invalid, fun hnone => ?none, fun T hT => ?some, hkept.rotors.trans jrotors,
    (hport.trans (sampleJudged_port r _)).trans hkept.port,
    (hdurable.trans (sampleJudged_durable r _)).trans hkept.durable, ?counters, ?rx,
    fun hr => hsupply hr rfl⟩
  case next => rw [hkept.sampleAt, jsampleAt, hkept.now, (sampleJudged_frame r _).1]
  case readings =>
    rw [hreadings]
    exact ⟨validReading_eq_some _ T, validReading_eq_some _ T, validReading_eq_some _ T, validReading_eq_some _ T⟩
  case hottest =>
    rw [hl, hhottest]
    exact (hottestReading_hottest _).eq_some_iff T
  case forced => rw [hdemand, hf, demandOf_forced]
  case invalid => rw [hdemand, hf, hnone, demandOf_invalid]
  case none =>
    rw [hcrit, hclear, hshut, hnone]
    exact ⟨rfl, rfl, rfl⟩
  case some =>
    rw [hdemand, hcrit, hclear, hshut, hT]
    exact ⟨fun hf hlow => by rw [hf, demandOf_low hlow], fun hf hlow hhigh => by rw [hf, demandOf_high hlow hhigh],
      fun hf hlow hhigh => by rw [hf, demandOf_between hlow hhigh], rfl, rfl, rfl⟩
  case counters => exact hkept.counters.trans (by simp)
  case rx => exact hkept.rx.trans (by simp)

/-! ## The derate (R58) -/

theorem derateOf_cool {T : Int} (h : T ≤ 40) : derateOf (some T) = 1000 := by simp [derateOf, h]

theorem derateOf_warm {T : Int} (hlow : 41 ≤ T) (hhigh : T ≤ 60) :
    (derateOf (some T) : Int) = 1000 - 15 * (T - 40) := by
  simp only [derateOf, if_neg (show ¬ T ≤ 40 by omega), if_pos hhigh]
  omega

theorem derateOf_hot {T : Int} (h : 60 < T) : derateOf (some T) = 700 := by
  simp [derateOf, show ¬ T ≤ 40 by omega, show ¬ T ≤ 60 by omega]

theorem releaseReset_hottest (p : ReleasePins) (s : State) : (releaseReset p s).cool.hottest = none := by
  simp [releaseReset_eq, sampledRelease, startMeasures, State.underReset]

/-- Only a sample gives a hottest temperature (R81). -/
theorem exec_hottest_none {c : Instr} (hsample : ∀ r, c ≠ .sensorSample r) (hnone : s.cool.hottest = none)
    (h : exec c s = .next t) : t.cool.hottest = none := by
  by_cases ha : ∃ k, c = .resetAssert k
  case pos =>
    obtain ⟨k, rfl⟩ := ha
    obtain rfl := Host.Outcome.next.inj h
    rfl
  case neg =>
    by_cases hr : ∃ p, c = .resetRelease p
    case pos =>
      obtain ⟨p, rfl⟩ := hr
      change execResetRelease p s = .next t at h
      unfold execResetRelease at h
      split at h
      · obtain rfl := Host.Outcome.next.inj h
        exact releaseReset_hottest p s
      · obtain rfl := Host.Outcome.next.inj h
        exact hnone
    case neg =>
      exact (exec_supplies (fun k hk => ha ⟨k, hk⟩) (fun p hp => hr ⟨p, hp⟩) hsample s t h).hottest.trans hnone

/-- Settles O23: the table, the release and every command but the sample, and the sample. -/
theorem derateByTemperature : Obligations.DerateByTemperature := by
  unfold Obligations.DerateByTemperature
  refine ⟨rfl, fun T => derateOf_cool, fun T => derateOf_warm, fun T => derateOf_hot, fun p s t hs h => ?_,
    fun c s t hsample hnone h => exec_hottest_none hsample hnone h, fun r s t d hs hr hd h => ?_⟩
  · have ht : releaseReset p s = t := by simpa [exec, execResetRelease, hs] using h
    rw [← ht, releaseReset_hottest]
  · rw [exec_sensorSample r hs hd] at h
    have ht := (Host.Outcome.next.inj h).symm
    refine ⟨(sample_supply r (s := reach d s) hr ht).1, fun h0 h1 h2 h3 => ?_⟩
    obtain ⟨-, jhottest, -⟩ := sampleJudged_figures r (reach d s)
    rw [ht, (sample_finished r (reach d s)).hottest, jhottest]
    simp [hottestReading, readSensors, h0, h1, h2, h3, hotter]

end Sys2Proof.Machine
end

section
/-! PROOF. Settles O30: what the supply monitor makes of an event, and the end of the step after it. -/

namespace Sys2Proof.Machine

open Sys2Proof.Config

variable {s t u v : State}

/-! ## The lines read, before the monitor moves (R100) -/

/-- `v` is `s` with the lines, the measures and the time of an event, and nothing else of the monitor moved. -/
structure LinesRead (s v : State) : Prop where
  state : v.sup.state = s.sup.state
  enable : v.sup.enable = s.sup.enable
  thermal : v.cool.thermal = s.cool.thermal
  st : v.st = s.st
  urgent : v.link.urgent = s.link.urgent
  notices : v.host.notices = s.host.notices
  derate : v.budget.derate = s.budget.derate
  aside : Aside s v

/-- IN_OK read at the level `b`. -/
def inRead (b : Bool) (s : State) : State := updateGoodRun { s with sup.inOk := b }

/-- OUT_OK read at the level `b`, with the lost-output measure begun or ended. -/
def outRead (b : Bool) (s : State) : State :=
  updateGoodRun (if b then { s with sup.outOk := true, sup.lostMeasure := none, sup.outputLost := false }
    else { s with sup.outOk := false, sup.lostMeasure := some (s.now + ms 5) })

/-- EARLY_WARN read at the level `b`. -/
def warnRead (b : Bool) (s : State) : State := updateGoodRun { s with sup.earlyWarn := b }

/-- The lost-output measure that ends at `d` taken. -/
def lostRead (d : Nat) (s : State) : State := { reach d s with sup.lostMeasure := none, sup.outputLost := true }

/-- The good run that completes at `d` taken. -/
def runRead (d : Nat) (s : State) : State := { reach d s with sup.goodRun := .complete }

theorem linesRead_judged {x : Supply} (hstate : x.state = s.sup.state) (henable : x.enable = s.sup.enable) :
    LinesRead s (updateGoodRun { s with sup := x }) :=
  ⟨by simp [hstate], by simp [henable], by simp, by simp, by simp, by simp, by simp,
    SameAside.aside (by simp [SameAside])⟩

theorem linesRead_measured (d : Nat) {x : Supply} (hstate : x.state = s.sup.state)
    (henable : x.enable = s.sup.enable) : LinesRead s { reach d s with sup := x } :=
  ⟨hstate, henable, rfl, rfl, rfl, rfl, rfl, SameAside.aside (by simp [SameAside])⟩

theorem inRead_lines (b : Bool) (s : State) : LinesRead s (inRead b s) := linesRead_judged rfl rfl

theorem outRead_lines (b : Bool) (s : State) : LinesRead s (outRead b s) := by
  unfold outRead
  split
  · exact linesRead_judged rfl rfl
  · exact linesRead_judged rfl rfl

theorem warnRead_lines (b : Bool) (s : State) : LinesRead s (warnRead b s) := linesRead_judged rfl rfl

theorem lostRead_lines (d : Nat) (s : State) : LinesRead s (lostRead d s) := linesRead_measured d rfl rfl

theorem runRead_lines (d : Nat) (s : State) : LinesRead s (runRead d s) := linesRead_measured d rfl rfl

@[simp] theorem inRead_lost (b : Bool) (s : State) : (inRead b s).sup.outputLost = s.sup.outputLost := by
  simp [inRead]

theorem LinesRead.regimes (h : LinesRead s v) : fullRegime v = fullRegime s ∧ inputRegime v = inputRegime s := by
  obtain ⟨-, henable, hthermal, -⟩ := h
  exact ⟨by rw [fullRegime, henable, hthermal, fullRegime], by rw [inputRegime, henable, hthermal, inputRegime]⟩

/-! ## The events as steps -/

theorem exec_inOkChange (hr : role s = .supply) (hs : s.st.state ≠ .reset) {b : Bool} (hb : s.sup.inOk ≠ b) :
    exec (.inOkChange b) s =
      .next (finish s (if b then inputRose (inRead b s) else inputFell (inRead b s))) :=
  if_pos ⟨by simp [monitors, hr, hs], hb⟩

theorem exec_earlyWarnChange (hr : role s = .supply) (hs : s.st.state ≠ .reset) {b : Bool}
    (hb : s.sup.earlyWarn ≠ b) :
    exec (.earlyWarnChange b) s = .next (finish s (if b then warned (warnRead b s) else warnRead b s)) :=
  if_pos ⟨by simp [monitors, hr, hs], hb⟩

theorem exec_outputLostExpire {d : Nat} (hd : s.sup.lostMeasure = some d) :
    exec .outputLostExpire s = .next (finish (reach d s) (outputWentLost (lostRead d s))) := by
  simp [exec, execOutputLostExpire, expiryStep, hd, stepOf, lostRead]

theorem exec_goodRunComplete {d : Nat} (hd : s.sup.goodRun = .running d) :
    exec .goodRunComplete s = .next (finish (reach d s) (goodRunDone (runRead d s))) := by
  simp [exec, execGoodRunComplete, expiryStep, goodRunEnd, hd, stepOf, runRead]

/-! ## No move -/

/-- The supply state, the output enable and the urgent queue stand, and the rest is left alone. -/
structure Unmoved (s t : State) : Prop where
  state : t.sup.state = s.sup.state
  enable : t.sup.enable = s.sup.enable
  urgent : t.link.urgent = s.link.urgent
  aside : Aside s t

theorem Unmoved.refl (s : State) : Unmoved s s := ⟨rfl, rfl, rfl, SameAside.aside (by simp [SameAside])⟩

/-- Lines read without a reaction move nothing by the end of the step. -/
theorem LinesRead.unmoved (h : LinesRead s v) (hdep : s.st.state ≠ .departing) (s0 : State) :
    Unmoved s (finish s0 v) := by
  have hsup : (finish s0 v).sup = v.sup := by simp only [finish_frame s0 v (by rwa [h.st])]
  exact ⟨by rw [hsup, h.state], by rw [hsup, h.enable], (finish_follows s0 v).tx.urgent.trans h.urgent,
    h.aside.trans (finish_aside s0 v)⟩

theorem inOkChange_unmoved {b : Bool} (hdep : s.st.state ≠ .departing)
    (hstill : s.sup.inOk ≠ b → (if b then inputRose (inRead b s) else inputFell (inRead b s)) = inRead b s)
    (h : exec (.inOkChange b) s = .next t) : Unmoved s t := by
  change execInOkChange b s = _ at h
  unfold execInOkChange at h
  split at h
  case isTrue hread =>
    obtain rfl := Host.Outcome.next.inj h
    change Unmoved s (finish s (if b then inputRose (inRead b s) else inputFell (inRead b s)))
    rw [hstill hread.2]
    exact (inRead_lines b s).unmoved hdep s
  case isFalse =>
    obtain rfl := Host.Outcome.next.inj h
    exact .refl s

theorem outOkChange_unmoved {b : Bool} (hdep : s.st.state ≠ .departing) (h : exec (.outOkChange b) s = .next t) :
    Unmoved s t := by
  change execOutOkChange b s = _ at h
  unfold execOutOkChange at h
  split at h
  · obtain rfl := Host.Outcome.next.inj h
    exact (outRead_lines b s).unmoved hdep s
  · obtain rfl := Host.Outcome.next.inj h
    exact .refl s

theorem earlyWarnChange_unmoved {b : Bool} (hdep : s.st.state ≠ .departing)
    (hstill : b = true → s.sup.earlyWarn = false → warned (warnRead b s) = warnRead b s)
    (h : exec (.earlyWarnChange b) s = .next t) : Unmoved s t := by
  change execEarlyWarnChange b s = _ at h
  unfold execEarlyWarnChange at h
  split at h
  case isTrue hread =>
    obtain rfl := Host.Outcome.next.inj h
    have hquiet : (if b then warned (warnRead b s) else warnRead b s) = warnRead b s := by
      cases b with
      | false => rfl
      | true => exact hstill rfl (by simpa using hread.2)
    change Unmoved s (finish s (if b then warned (warnRead b s) else warnRead b s))
    rw [hquiet]
    exact (warnRead_lines b s).unmoved hdep s
  case isFalse =>
    obtain rfl := Host.Outcome.next.inj h
    exact .refl s

theorem outputLostExpire_unmoved (hdep : s.st.state ≠ .departing)
    (hstill : ∀ d, outputWentLost (lostRead d s) = lostRead d s) (h : exec .outputLostExpire s = .next t) :
    Unmoved s t := by
  cases hd : s.sup.lostMeasure with
  | none =>
    have : s = t := by simpa [exec, execOutputLostExpire, expiryStep, hd] using h
    exact this ▸ .refl s
  | some d =>
    rw [exec_outputLostExpire hd, hstill] at h
    exact Host.Outcome.next.inj h ▸ (lostRead_lines d s).unmoved hdep _

theorem goodRunComplete_unmoved (hdep : s.st.state ≠ .departing)
    (hstill : ∀ d, goodRunDone (runRead d s) = runRead d s) (h : exec .goodRunComplete s = .next t) :
    Unmoved s t := by
  cases hd : goodRunEnd s.sup.goodRun with
  | none =>
    have : s = t := by simpa [exec, execGoodRunComplete, expiryStep, hd] using h
    exact this ▸ .refl s
  | some d =>
    have hrun : s.sup.goodRun = .running d := by
      cases hg : s.sup.goodRun <;> simp_all [goodRunEnd]
    rw [exec_goodRunComplete hrun, hstill] at h
    exact Host.Outcome.next.inj h ▸ (runRead_lines d s).unmoved hdep _

/-! ## Moves -/

theorem setSupply_sup_state (x : SupplyState) (c : SupplyCause) (v : State) : (setSupply x c v).sup.state = x := by
  unfold setSupply
  dsimp only
  split
  case isTrue h => exact h.symm
  case isFalse => split <;> simp [updateOffer]

theorem setSupply_aside (x : SupplyState) (c : SupplyCause) (v : State) : Aside v (setSupply x c v) :=
  SameAside.aside (by simp [SameAside])

/-- A change of the supply state raises SUPPLY-STATE with both states and the cause (R103). -/
theorem setSupply_notice {x : SupplyState} (c : SupplyCause) (hx : x ≠ v.sup.state)
    (hroom : v.host.notices.length < noticeCap) : ∃ n ∈ (setSupply x c v).host.notices, n.kind = .supplyState ∧
      n.subject = (ownAddr v).val ∧ n.detail = b1 v.sup.state.code ++ b1 x.code ++ b1 c.code := by
  unfold setSupply
  rw [if_neg hx]
  dsimp only
  split
  · exact raise_mem hroom
  · exact raise_mem hroom

/-- After a change the offer is that of the new state at the derate (R59). -/
theorem setSupply_offer {x : SupplyState} (c : SupplyCause) (hx : x ≠ v.sup.state) : OfferHold (setSupply x c v) := by
  intro _
  unfold setSupply
  rw [if_neg hx]
  dsimp only
  split <;> simp [updateOffer]

/-- A SUPPLY-DROP joins the urgent queue where the link is open and has room (R22, R104). -/
theorem sendDrop_urgent (hsend : sending v = true) (hroom : v.link.urgent.length < urgentCap) :
    (sendDrop v).link.urgent = v.link.urgent ++ [.supplyDrop] := by
  simp [sendDrop, offerUrgent, hsend, hroom]

theorem sendDrop_aside (v : State) : Aside v (sendDrop v) := SameAside.aside (by simp [SameAside])

/-- The supply state set, and SUPPLY-DROP sent if `drop`. -/
def moved (x : SupplyState) (c : SupplyCause) (drop : Bool) (v : State) : State :=
  if drop then sendDrop (setSupply x c v) else setSupply x c v

@[simp] theorem moved_frame (x : SupplyState) (c : SupplyCause) (drop : Bool) (v : State) :
    (moved x c drop v).sup = (setSupply x c v).sup ∧ (moved x c drop v).host = (setSupply x c v).host ∧
    (moved x c drop v).st = v.st := by
  unfold moved
  split <;> simp

theorem moved_supplies (x : SupplyState) (c : SupplyCause) (drop : Bool) (v : State) :
    Supplies (setSupply x c v) (moved x c drop v) := .ite (sendDrop_supplies _) (.refl _)

theorem moved_aside (x : SupplyState) (c : SupplyCause) (drop : Bool) (v : State) : Aside v (moved x c drop v) := by
  unfold moved
  split
  · exact (setSupply_aside x c v).trans (sendDrop_aside _)
  · exact setSupply_aside x c v

theorem moved_urgent (x : SupplyState) (c : SupplyCause) {drop : Bool} {v : State}
    (hdrop : drop = true → sending v = true ∧ v.link.urgent.length < urgentCap) :
    (moved x c drop v).link.urgent = v.link.urgent ++ if drop then [.supplyDrop] else [] := by
  cases drop with
  | false => simp [moved]
  | true =>
    obtain ⟨hsend, hroom⟩ := hdrop rfl
    have hsend' : sending (setSupply x c v) = true := by rwa [sending_of_state (s := v) (by simp)]
    simp only [moved, if_true, sendDrop_urgent hsend' (by simpa using hroom), setSupply_frame]

/-- The offer after a move is that of the new state at the derate (R59). -/
theorem LinesRead.offers (h : LinesRead s v) (hdep : s.st.state ≠ .departing) (hr : role s = .supply)
    {x : SupplyState} (hx : x ≠ s.sup.state) (c : SupplyCause) (drop : Bool) (s0 : State) :
    (finish s0 (moved x c drop v)).budget.offer = offerOf (ratedOutput s.st.straps) s.budget.derate x := by
  have hkept : Supplies (setSupply x c v) (finish s0 (moved x c drop v)) :=
    (moved_supplies x c drop v).trans (finish_supplies s0 _)
  have hstraps : (finish s0 (moved x c drop v)).st.straps = s.st.straps := by
    rw [hkept.straps, (setSupply_supplies x c v).straps, h.st]
  have hstate : (finish s0 (moved x c drop v)).sup.state = x := by
    rw [show (finish s0 (moved x c drop v)).sup = (moved x c drop v).sup by
      simp only [finish_frame s0 (moved x c drop v) (by simpa [h.st] using hdep)], (moved_frame x c drop v).1,
      setSupply_sup_state]
  have hoffer := hkept.offer (setSupply_offer c (by rwa [h.state])) (by rwa [role, hstraps])
  rw [hoffer, hstraps, hstate, hkept.derate, (setSupply_supplies x c v).derate, h.derate]

theorem offerOf_of_ne_good {rated derate : Nat} {x : SupplyState} (h : x ≠ .good) : offerOf rated derate x = 0 := by
  cases x with
  | good => exact absurd rfl h
  | absent | starting | warning | failed => rfl

/-- A move of the monitor after its lines are read stands at the end of the step (R59, R103, R104). -/
theorem LinesRead.moves (h : LinesRead s v) (hdep : s.st.state ≠ .departing) (hr : role s = .supply)
    {x : SupplyState} (hx : x ≠ s.sup.state) (c : SupplyCause) (drop : Bool)
    (hdrop : drop = true → sending s = true ∧ s.link.urgent.length < urgentCap) (s0 : State) :
    SupplyMoved s (finish s0 (moved x c drop v)) x c drop where
  state := by
    rw [show (finish s0 (moved x c drop v)).sup = (moved x c drop v).sup by
      simp only [finish_frame s0 (moved x c drop v) (by simpa [h.st] using hdep)], (moved_frame x c drop v).1,
      setSupply_sup_state]
  offer hgood := by
    rw [h.offers hdep hr hx c drop s0]
    exact offerOf_of_ne_good hgood
  urgent := by
    rw [(finish_follows s0 _).tx.urgent, moved_urgent x c, h.urgent]
    rw [sending_of_state (t := v) (s := s) (by rw [h.st]), h.urgent]
    exact hdrop
  notice hroom := by
    obtain ⟨n, hn, hkind, hsubject, hdetail⟩ :=
      setSupply_notice (v := v) (x := x) c (by rwa [h.state]) (by rwa [h.notices])
    refine ⟨n, (finish_keeps (s0 := s0) (.refl (moved x c drop v))).notices.subset ?_, hkind, ?_, ?_⟩
    · rwa [(moved_frame x c drop v).2.1]
    · rw [hsubject, ownAddr, h.st, ownAddr]
    · rw [hdetail, h.state]
  aside := (h.aside.trans (moved_aside x c drop v)).trans (finish_aside s0 _)

end Sys2Proof.Machine
end

section
/-! PROOF. Settles O30: R101's rows, the moves by the input alone, and the latch. -/

namespace Sys2Proof.Machine

open Sys2Proof.Config

variable {s t v : State}

/-! ## The rows of R101 -/

section Full

variable (hfull : fullRegime v = true) (hinput : inputRegime v = false)

include hfull hinput

theorem inputRose_absent (h : v.sup.state = .absent) : inputRose v = moved .starting .inputUp false v := by
  simp [inputRose, moved, hfull, hinput, h]

theorem inputRose_other (h : v.sup.state ≠ .absent) : inputRose v = v := by
  unfold inputRose
  rw [if_neg (by simp [hinput]), if_pos hfull]
  split <;> simp_all

theorem inputFell_good (h : v.sup.state = .good) : inputFell v = moved .warning .inputDown true v := by
  simp [inputFell, moved, hfull, hinput, h]

theorem inputFell_lost (h : v.sup.state = .starting ∨ v.sup.state = .warning ∨ v.sup.state = .failed)
    (hlost : v.sup.outputLost = true) : inputFell v = moved .absent .inputDown false v := by
  rcases h with h | h | h <;> simp [inputFell, moved, hfull, hinput, h, hlost]

theorem inputFell_other (h : v.sup.state ≠ .good) (hlost : v.sup.outputLost = false) : inputFell v = v := by
  unfold inputFell
  rw [if_neg (by simp [hinput]), if_pos hfull]
  split <;> simp_all

theorem inputFell_absent (h : v.sup.state = .absent) : inputFell v = v := by
  simp [inputFell, hfull, hinput, h]

omit hinput

theorem warned_on (h : v.sup.state = .good ∨ v.sup.state = .starting) :
    warned v = moved .warning .earlyWarn true v := by
  rcases h with h | h <;> simp [warned, moved, hfull, h]

theorem warned_other (hgood : v.sup.state ≠ .good) (hstarting : v.sup.state ≠ .starting) : warned v = v := by
  unfold warned
  rw [if_pos hfull]
  split <;> simp_all

theorem outputWentLost_good (h : v.sup.state = .good) : outputWentLost v = moved .failed .outputLost true v := by
  simp [outputWentLost, moved, hfull, h]

theorem outputWentLost_warning (h : v.sup.state = .warning) (hin : v.sup.inOk = true) :
    outputWentLost v = moved .failed .outputLost false v := by
  simp [outputWentLost, moved, hfull, h, hin]

theorem outputWentLost_noInput (h : v.sup.state = .starting ∨ v.sup.state = .warning ∨ v.sup.state = .failed)
    (hin : v.sup.inOk = false) : outputWentLost v = moved .absent .inputDown false v := by
  rcases h with h | h | h <;> simp [outputWentLost, moved, hfull, h, hin]

theorem outputWentLost_absent (h : v.sup.state = .absent) : outputWentLost v = v := by
  simp [outputWentLost, hfull, h]

theorem outputWentLost_other (h : v.sup.state = .starting ∨ v.sup.state = .failed) (hin : v.sup.inOk = true) :
    outputWentLost v = v := by
  rcases h with h | h <;> simp [outputWentLost, hfull, h, hin]

theorem goodRunDone_moves (h : v.sup.state = .starting ∨ v.sup.state = .warning ∨ v.sup.state = .failed) :
    goodRunDone v = moved .good .outputGood false v := by
  rcases h with h | h | h <;> simp [goodRunDone, moved, hfull, h]

theorem goodRunDone_other (h : v.sup.state = .good ∨ v.sup.state = .absent) : goodRunDone v = v := by
  rcases h with h | h <;> simp [goodRunDone, hfull, h]

end Full

/-! ## Outside the full regime -/

/-- With the output enable low the input alone moves the state (R102). -/
theorem inputRose_input (h : inputRegime v = true) : inputRose v = moved .starting .inputUp false v := by
  simp [inputRose, moved, h]

theorem inputFell_input (h : inputRegime v = true) : inputFell v = moved .absent .inputDown false v := by
  simp [inputFell, moved, h]

theorem inputRose_latched (hfull : fullRegime v = false) (hinput : inputRegime v = false) : inputRose v = v := by
  simp [inputRose, hfull, hinput]

theorem inputFell_latched (hfull : fullRegime v = false) (hinput : inputRegime v = false) : inputFell v = v := by
  simp [inputFell, hfull, hinput]

theorem warned_low (h : fullRegime v = false) : warned v = v := by simp [warned, h]

theorem outputWentLost_low (h : fullRegime v = false) : outputWentLost v = v := by simp [outputWentLost, h]

theorem goodRunDone_low (h : fullRegime v = false) : goodRunDone v = v := by simp [goodRunDone, h]

end Sys2Proof.Machine
end

section
/-! PROOF. Settles O30, assembled from the rows, the events that move nothing, and the two other regimes. -/

namespace Sys2Proof.Machine

open Sys2Proof.Config

variable {s t v : State}

/-! ## The full table -/

theorem LinesRead.full (h : LinesRead s v) (henable : s.sup.enable = true) (hth : s.cool.thermal ≠ .shutdown) :
    fullRegime v = true ∧ inputRegime v = false := by
  rw [h.regimes.1, h.regimes.2]
  simp [fullRegime, inputRegime, henable, hth]

/-- The moves of R101's table, each from the event that brings it. -/
theorem fullRegime_rows (hr : role s = .supply) (henable : s.sup.enable = true) (hth : s.cool.thermal ≠ .shutdown)
    (hsend : sending s = true) (hdep : s.st.state ≠ .departing) (hroom : s.link.urgent.length < urgentCap) :
    (s.sup.state = .absent → s.sup.inOk = false →
      ∃ t, exec (.inOkChange true) s = .next t ∧ SupplyMoved s t .starting .inputUp false) ∧
    (s.sup.state = .good ∨ s.sup.state = .starting → s.sup.earlyWarn = false →
      ∃ t, exec (.earlyWarnChange true) s = .next t ∧ SupplyMoved s t .warning .earlyWarn true) ∧
    (s.sup.state = .good → s.sup.inOk = true →
      ∃ t, exec (.inOkChange false) s = .next t ∧ SupplyMoved s t .warning .inputDown true) ∧
    (∀ d, s.sup.state = .good → s.sup.lostMeasure = some d →
      ∃ t, exec .outputLostExpire s = .next t ∧ SupplyMoved s t .failed .outputLost true) ∧
    (∀ d, s.sup.state = .warning → s.sup.inOk = true → s.sup.lostMeasure = some d →
      ∃ t, exec .outputLostExpire s = .next t ∧ SupplyMoved s t .failed .outputLost false) ∧
    (s.sup.state = .starting ∨ s.sup.state = .warning ∨ s.sup.state = .failed →
      (s.sup.inOk = true → s.sup.outputLost = true →
        ∃ t, exec (.inOkChange false) s = .next t ∧ SupplyMoved s t .absent .inputDown false) ∧
      (∀ d, s.sup.inOk = false → s.sup.lostMeasure = some d →
        ∃ t, exec .outputLostExpire s = .next t ∧ SupplyMoved s t .absent .inputDown false) ∧
      (∀ d, s.sup.goodRun = .running d → ∃ t, exec .goodRunComplete s = .next t ∧
        SupplyMoved s t .good .outputGood false ∧
        t.budget.offer = ratedOutput s.st.straps * s.budget.derate / 1000)) := by
  have hs : s.st.state ≠ .reset := fun h => by simp [sending, h] at hsend
  have hdrop (b : Bool) : b = true → sending s = true ∧ s.link.urgent.length < urgentCap := fun _ => ⟨hsend, hroom⟩
  have hin (b : Bool) := inRead_lines b s
  have hwarn := warnRead_lines true s
  have hlost (d : Nat) := lostRead_lines d s
  have hrun (d : Nat) := runRead_lines d s
  have hfull {v : State} (h : LinesRead s v) := h.full henable hth
  refine ⟨fun hst hi => ?_, fun hst hw => ?_, fun hst hi => ?_, fun d hst hd => ?_, fun d hst hi hd => ?_,
    fun hst => ⟨fun hi ho => ?_, fun d hi hd => ?_, fun d hd => ?_⟩⟩
  · refine ⟨_, exec_inOkChange hr hs (b := true) (by simp [hi]), ?_⟩
    rw [if_pos rfl, inputRose_absent (hfull (hin _)).1 (hfull (hin _)).2 ((hin _).state.trans hst)]
    exact (hin _).moves hdep hr (by simp [hst]) _ _ (hdrop _) _
  · refine ⟨_, exec_earlyWarnChange hr hs (b := true) (by simp [hw]), ?_⟩
    rw [if_pos rfl, warned_on (hfull hwarn).1 (by rwa [hwarn.state])]
    exact hwarn.moves hdep hr (by rcases hst with h | h <;> simp [h]) _ _ (hdrop _) _
  · refine ⟨_, exec_inOkChange hr hs (b := false) (by simp [hi]), ?_⟩
    rw [if_neg (by simp), inputFell_good (hfull (hin _)).1 (hfull (hin _)).2 ((hin _).state.trans hst)]
    exact (hin _).moves hdep hr (by simp [hst]) _ _ (hdrop _) _
  · refine ⟨_, exec_outputLostExpire hd, ?_⟩
    rw [outputWentLost_good (hfull (hlost d)).1 ((hlost d).state.trans hst)]
    exact (hlost d).moves hdep hr (by simp [hst]) _ _ (hdrop _) _
  · refine ⟨_, exec_outputLostExpire hd, ?_⟩
    rw [outputWentLost_warning (hfull (hlost d)).1 ((hlost d).state.trans hst) hi]
    exact (hlost d).moves hdep hr (by simp [hst]) _ _ (hdrop _) _
  · refine ⟨_, exec_inOkChange hr hs (b := false) (by simp [hi]), ?_⟩
    rw [if_neg (by simp), inputFell_lost (hfull (hin _)).1 (hfull (hin _)).2 (by rwa [(hin _).state]) (by simpa using ho)]
    exact (hin _).moves hdep hr (by rcases hst with h | h | h <;> simp [h]) _ _ (hdrop _) _
  · refine ⟨_, exec_outputLostExpire hd, ?_⟩
    rw [outputWentLost_noInput (hfull (hlost d)).1 (by rwa [(hlost d).state]) hi]
    exact (hlost d).moves hdep hr (by rcases hst with h | h | h <;> simp [h]) _ _ (hdrop _) _
  · have hx : SupplyState.good ≠ s.sup.state := by rcases hst with h | h | h <;> simp [h]
    refine ⟨_, exec_goodRunComplete hd, ?_⟩
    rw [goodRunDone_moves (hfull (hrun d)).1 (by rwa [(hrun d).state])]
    exact ⟨(hrun d).moves hdep hr hx _ _ (hdrop _) _, (hrun d).offers hdep hr hx _ _ _⟩

/-- An event that R101 does not list for the state moves nothing. -/
theorem fullRegime_unlisted (henable : s.sup.enable = true) (hth : s.cool.thermal ≠ .shutdown)
    (hdep : s.st.state ≠ .departing) {c : Instr}
    (hc : (c = .inOkChange true ∧ s.sup.state ≠ .absent) ∨ (c = .inOkChange false ∧ s.sup.state = .absent) ∨
        (c = .inOkChange false ∧ s.sup.state ≠ .good ∧ s.sup.outputLost = false) ∨
        (c = .earlyWarnChange true ∧ s.sup.state ≠ .good ∧ s.sup.state ≠ .starting) ∨ c = .earlyWarnChange false ∨
        (∃ b, c = .outOkChange b) ∨ (c = .outputLostExpire ∧ s.sup.state = .absent) ∨
        (c = .outputLostExpire ∧ s.sup.inOk = true ∧ (s.sup.state = .starting ∨ s.sup.state = .failed)) ∨
        (c = .goodRunComplete ∧ (s.sup.state = .good ∨ s.sup.state = .absent)))
    (h : exec c s = .next t) : Unmoved s t := by
  have hin (b : Bool) := inRead_lines b s
  have hlost (d : Nat) := lostRead_lines d s
  have hfull {v : State} (h : LinesRead s v) := h.full henable hth
  rcases hc with ⟨rfl, hst⟩ | ⟨rfl, hst⟩ | ⟨rfl, hst, ho⟩ | ⟨rfl, hg, hst⟩ | rfl | ⟨b, rfl⟩ | ⟨rfl, hst⟩ |
    ⟨rfl, hi, hst⟩ | ⟨rfl, hst⟩
  · exact inOkChange_unmoved (b := true) hdep (fun _ =>
      inputRose_other (hfull (hin true)).1 (hfull (hin true)).2 (by rwa [(hin true).state])) h
  · exact inOkChange_unmoved (b := false) hdep (fun _ =>
      inputFell_absent (hfull (hin false)).1 (hfull (hin false)).2 (by rwa [(hin false).state])) h
  · exact inOkChange_unmoved (b := false) hdep (fun _ =>
      inputFell_other (hfull (hin false)).1 (hfull (hin false)).2 (by rwa [(hin false).state]) (by simpa using ho)) h
  · exact earlyWarnChange_unmoved hdep (fun _ _ => warned_other (hfull (warnRead_lines _ s)).1
      (by rwa [(warnRead_lines _ s).state]) (by rwa [(warnRead_lines _ s).state])) h
  · exact earlyWarnChange_unmoved (b := false) hdep (fun hb => absurd hb (by simp)) h
  · exact outOkChange_unmoved hdep h
  · exact outputLostExpire_unmoved hdep (fun d =>
      outputWentLost_absent (hfull (hlost d)).1 ((hlost d).state.trans hst)) h
  · exact outputLostExpire_unmoved hdep (fun d =>
      outputWentLost_other (hfull (hlost d)).1 (by rwa [(hlost d).state]) hi) h
  · exact goodRunComplete_unmoved hdep (fun d =>
      goodRunDone_other (hfull (runRead_lines d s)).1 (by rwa [(runRead_lines d s).state])) h

/-! ## Outside the full regime -/

/-- Outside the full regime only a change of IN_OK can move the state (R102). -/
theorem lowRegime_unmoved (hfull : fullRegime s = false) (hdep : s.st.state ≠ .departing) {c : Instr}
    (hc : supplyEvent c = true) (hin : ∀ b, c ≠ .inOkChange b) (h : exec c s = .next t) : Unmoved s t := by
  have hlow {v : State} (hv : LinesRead s v) : fullRegime v = false := hv.regimes.1.trans hfull
  cases c with
  | inOkChange b => exact absurd rfl (hin b)
  | outOkChange b => exact outOkChange_unmoved hdep h
  | earlyWarnChange b => exact earlyWarnChange_unmoved hdep (fun _ _ => warned_low (hlow (warnRead_lines b s))) h
  | outputLostExpire =>
    exact outputLostExpire_unmoved hdep (fun d => outputWentLost_low (hlow (lostRead_lines d s))) h
  | goodRunComplete => exact goodRunComplete_unmoved hdep (fun d => goodRunDone_low (hlow (runRead_lines d s))) h
  | _ => exact absurd hc (by simp [supplyEvent])

/-- A move of the monitor without SUPPLY-DROP, whatever the state before it. -/
theorem LinesRead.settles (h : LinesRead s v) (hdep : s.st.state ≠ .departing) (x : SupplyState) (c : SupplyCause)
    (s0 : State) : (finish s0 (moved x c false v)).sup.state = x ∧
      (finish s0 (moved x c false v)).link.urgent = s.link.urgent ∧ Aside s (finish s0 (moved x c false v)) := by
  have hsup : (finish s0 (moved x c false v)).sup = (moved x c false v).sup := by
    simp only [finish_frame s0 (moved x c false v) (by simpa [h.st] using hdep)]
  refine ⟨by rw [hsup, (moved_frame x c false v).1, setSupply_sup_state], ?_,
    (h.aside.trans (moved_aside x c false v)).trans (finish_aside s0 _)⟩
  rw [(finish_follows s0 _).tx.urgent, moved_urgent x c (drop := false) (fun hb => absurd hb (by simp)), h.urgent]
  simp

/-- With the output enable low the state follows IN_OK alone (R102). -/
theorem inputRegime_follows (hr : role s = .supply) (hs : s.st.state ≠ .reset) (hdep : s.st.state ≠ .departing)
    (hth : s.cool.thermal ≠ .shutdown) (henable : s.sup.enable = false) {c : Instr} (hc : supplyEvent c = true)
    (h : exec c s = .next t) :
    t.sup.state = (if c = .inOkChange true ∧ s.sup.inOk = false then .starting
        else if c = .inOkChange false ∧ s.sup.inOk = true then .absent else s.sup.state) ∧
      t.link.urgent = s.link.urgent ∧ Aside s t := by
  have hinput (b : Bool) : inputRegime (inRead b s) = true := by
    rw [(inRead_lines b s).regimes.2]
    simp [inputRegime, henable, hth]
  by_cases hin : ∃ b, c = .inOkChange b
  case neg =>
    have hne (b : Bool) : c ≠ .inOkChange b := fun hb => hin ⟨b, hb⟩
    have hkept := lowRegime_unmoved (by simp [fullRegime, henable]) hdep hc hne h
    rw [if_neg fun hb => hne _ hb.1, if_neg fun hb => hne _ hb.1]
    exact ⟨hkept.state, hkept.urgent, hkept.aside⟩
  case pos =>
    obtain ⟨b, rfl⟩ := hin
    by_cases hb : s.sup.inOk = b
    · have hkept := inOkChange_unmoved hdep (fun hne => absurd hb hne) h
      refine ⟨?_, hkept.urgent, hkept.aside⟩
      rw [hkept.state]
      cases b <;> simp [hb]
    · rw [exec_inOkChange hr hs hb] at h
      obtain rfl := Host.Outcome.next.inj h
      cases b with
      | true =>
        rw [if_pos rfl, inputRose_input (hinput _), if_pos ⟨rfl, by simpa using hb⟩]
        exact (inRead_lines _ s).settles hdep _ _ s
      | false =>
        rw [if_neg (by simp), inputFell_input (hinput _), if_neg (by simp), if_pos ⟨rfl, by simpa using hb⟩]
        exact (inRead_lines _ s).settles hdep _ _ s

/-- With the SHUTDOWN latch set no event moves the state (R102). -/
theorem latched_unmoved (hth : s.cool.thermal = .shutdown) (hdep : s.st.state ≠ .departing) {c : Instr}
    (hc : supplyEvent c = true) (h : exec c s = .next t) : Unmoved s t := by
  have hregimes {v : State} (hv : LinesRead s v) : fullRegime v = false ∧ inputRegime v = false := by
    rw [hv.regimes.1, hv.regimes.2]
    simp [fullRegime, inputRegime, hth]
  by_cases hin : ∃ b, c = .inOkChange b
  case neg => exact lowRegime_unmoved (by simp [fullRegime, hth]) hdep hc (fun b hb => hin ⟨b, hb⟩) h
  case pos =>
    obtain ⟨b, rfl⟩ := hin
    obtain ⟨hfull, hinput⟩ := hregimes (inRead_lines b s)
    refine inOkChange_unmoved hdep (fun _ => ?_) h
    rw [inputRose_latched hfull hinput, inputFell_latched hfull hinput, ite_self]

/-- Settles O30: the three regimes of the monitor. -/
theorem supplyStateMoves : Obligations.SupplyStateMoves := by
  unfold Obligations.SupplyStateMoves
  refine ⟨fun s hr henable hth hsend hdep hroom => ?_, fun s t c hr hs hdep hth henable hc h =>
    inputRegime_follows hr hs hdep hth henable hc h, fun s t c _ hdep hth hc h => ?_⟩
  · obtain ⟨rose, warn, fell, lost, failed, rest⟩ := fullRegime_rows hr henable hth hsend hdep hroom
    refine ⟨rose, warn, fell, lost, failed, rest, fun c t hc h => ?_⟩
    have hkept := fullRegime_unlisted henable hth hdep hc h
    exact ⟨hkept.state, hkept.urgent, hkept.aside⟩
  · have hkept := latched_unmoved hth hdep hc h
    exact ⟨hkept.state, hkept.enable, hkept.urgent, hkept.aside⟩

end Sys2Proof.Machine
end

section
/-! PROOF. What the coverage of a LINE station rests on: the peers' entries, the presence of its own and its steady
claim (R57, R60, R61, R68). -/

namespace Sys2Proof.Machine

open Sys2Proof.Config

variable {s t u v : State}

/-! ## The view but for the own entry -/

theorem liveView_length (s : State) : (liveView s).length = 32 := by simp [liveView]

theorem liveView_sighted (h : Sighted s v) :
    liveView v = (liveView s).set (ownAddr s).val (entryAt v (ownAddr s)).eff := by
  refine List.ext_getElem (by simp [liveView_length]) fun i hi _ => ?_
  have hi : i < 32 := by rwa [liveView_length] at hi
  have hat (w : State) : (w.view.entries[i]'hi) = entryAt w ⟨i, hi⟩ := rfl
  rw [List.getElem_set]
  split
  case isTrue hown =>
    have hown : (⟨i, hi⟩ : Addr) = ownAddr s := Fin.ext hown.symm
    simp [liveView, hat, hown]
  case isFalse hne =>
    have hne : (⟨i, hi⟩ : Addr) ≠ ownAddr s := fun he => hne (congrArg Fin.val he).symm
    simp [liveView, hat, h.peers _ hne]

/-- The view of the power budget is that of `s` with the own entry replaced. -/
theorem budgetView_sighted (h : Sighted s v) (hheld : v.budget.heldView = s.budget.heldView) :
    budgetView v = (budgetView s).set (ownAddr s).val (entryAt v (ownAddr s)).eff := by
  unfold budgetView
  rw [hheld, sighted_ownAddr h]
  cases s.budget.heldView with
  | none => exact liveView_sighted h
  | some l => simp

/-- An entry that brings no offer is as good as another (R60). -/
theorem countedOffers_set (i : Nat) (l : List (Option Eff)) {e e' : Option Eff} (h : suppliedBy e = 0)
    (h' : suppliedBy e' = 0) : countedOffers (l.set i e) = countedOffers (l.set i e') := by
  rw [countedOffers_eq, countedOffers_eq, List.map_set, List.map_set, h, h']

/-- The running sum reads the own entry by what it adds alone (R68). -/
theorem runningSum_set {r : Role} (hr : r ≠ .supply) (own : Nat) (l : List (Option Eff)) {e e' : Option Eff}
    (h : claimUpTo r own e own = claimUpTo r own e' own) :
    runningSum (l.set own e) r own = runningSum (l.set own e') r own := by
  rw [runningSum_eq hr, runningSum_eq hr, sum_zipIdx, sum_zipIdx, List.length_set, List.length_set]
  refine Finset.sum_congr rfl fun i hi => ?_
  have hi : i < l.length := Finset.mem_range.mp hi
  by_cases hown : own = i
  · subst hown
    simpa [hi] using h
  · simp [hown]

/-! ## The own entry of a LINE station -/

/-- What an entry of presence `p` adds to its own running sum. -/
def claimAs (claim : Nat) : Option Presence → Nat
  | none => 0
  | some .present => claim
  | some .lost => claim
  | some .gone => 0

/-- A refreshed own entry carries the steady claim, and a LINE station's brings no offer (R44, R63). -/
theorem refresh_own (h : role s = .line) : suppliedBy (entryAt (refresh s) (ownAddr s)).eff = 0 ∧
    claimUpTo .line (ownAddr s).val (entryAt (refresh s) (ownAddr s)).eff (ownAddr s).val =
      claimAs (steadyClaim s) (entryAt s (ownAddr s)).presence? := by
  have hclaim : (ownRoll (refresh s)).claim = steadyClaim s := by
    change (refresh s).budget.claim = _
    rw [refresh_claim]
    simp [steadyClaim, role, portWeight, okRotors]
  have hrole : (ownRoll (refresh s)).role = .line := by
    change role (refresh s) = _
    simpa [role] using h
  have hsame := (refresh_sighted (.refl s)).own
  have hcarries := refresh_carries s
  unfold OwnCarried at hcarries
  rw [sighted_ownAddr (refresh_sighted (.refl s))] at hcarries
  cases he : entryAt (refresh s) (ownAddr s) with
  | empty =>
    rw [he] at hsame
    rw [← hsame]
    exact ⟨rfl, rfl⟩
  | known p heard f =>
    obtain rfl := hcarries p heard f he
    rw [he] at hsame
    rw [← hsame]
    cases p <;> simp [Entry.eff, suppliedBy, claimUpTo, claimAs, Entry.presence?, hclaim, hrole]

/-! ## The coverage -/

/-- Refreshed, `t` has the view of `s` with its own entry refreshed. -/
theorem budgetView_refresh (h : Sighted s t) (hheld : t.budget.heldView = s.budget.heldView) :
    budgetView (refresh t) = (budgetView s).set (ownAddr s).val (entryAt (refresh t) (ownAddr s)).eff :=
  budgetView_sighted (refresh_sighted h) (by simpa using hheld)

/-- The margined capacity of a LINE station is the peers' (R60, R61). -/
theorem compute_margined_sighted (hr : role s = .line) (h : Sighted s t)
    (hheld : t.budget.heldView = s.budget.heldView) :
    (compute (refresh t)).budget.margined = (compute (refresh s)).budget.margined := by
  have hown : ownAddr t = ownAddr s := sighted_ownAddr h
  have hs := (refresh_own hr).1
  have ht := (refresh_own (s := t) (by rwa [role, h.straps])).1
  rw [hown] at ht
  have hcounted : countedOffers (budgetView (refresh t)) = countedOffers (budgetView (refresh s)) := by
    rw [budgetView_refresh h hheld, budgetView_refresh (.refl s) rfl]
    exact countedOffers_set _ _ ht hs
  have hstraps : (refresh t).st.straps = (refresh s).st.straps := by simpa using h.straps
  simp only [compute, hcounted, hstraps]

/-- What the coverage of a LINE station rests on is the same in `t` as in `s`. -/
structure SameCover (s t : State) : Prop where
  sighted : Sighted s t
  held : t.budget.heldView = s.budget.heldView
  claim : steadyClaim t = steadyClaim s

theorem SameCover.runSum (hr : role s = .line) (h : SameCover s t) :
    (compute (refresh t)).budget.runSum = (compute (refresh s)).budget.runSum := by
  have hrt : role t = .line := by rwa [role, h.sighted.straps]
  have hown : ownAddr t = ownAddr s := sighted_ownAddr h.sighted
  have hs := (refresh_own hr).2
  have ht := (refresh_own hrt).2
  rw [hown, h.claim, h.sighted.own, ← hs] at ht
  have hrole (v : State) (hv : role v = .line) : role (refresh v) = .line := by simpa [role] using hv
  have haddr (v : State) : ownAddr (refresh v) = ownAddr v := by simp [ownAddr]
  change runningSum (budgetView (refresh t)) (role (refresh t)) (ownAddr (refresh t)).val =
    runningSum (budgetView (refresh s)) (role (refresh s)) (ownAddr (refresh s)).val
  rw [hrole t hrt, hrole s hr, haddr, haddr, hown, budgetView_refresh h.sighted h.held, budgetView_refresh (.refl s) rfl]
  exact runningSum_set (by decide) _ _ ht

theorem SameCover.coverage (hr : role s = .line) (h : SameCover s t) :
    (compute (refresh t)).budget.coverage = (compute (refresh s)).budget.coverage := by
  have hrole : role (refresh t) = role (refresh s) := by simp [role, h.sighted.straps]
  rw [compute_coverage, compute_coverage, hrole, h.runSum hr, compute_margined_sighted hr h.sighted h.held]

end Sys2Proof.Machine
end

section
/-! PROOF. While the gates are shut and no LINE port is to be shed, what follows an effect leaves the ports, the settle
window and the retry timer (R70, R74, R76). -/

namespace Sys2Proof.Machine

open Sys2Proof.Config

variable {s t u v : State}

/-! ## The settle window and the retry timer in the reports -/

@[simp] theorem refresh_window (s : State) : (refresh s).budget.window = s.budget.window := by
  unfold refresh
  dsimp only
  (repeat' split) <;> simp

@[simp] theorem reportRedundancy_admission (s : State) :
    (reportRedundancy s).budget.window = s.budget.window ∧ (reportRedundancy s).budget.retry = s.budget.retry ∧
    (reportRedundancy s).budget.heldView = s.budget.heldView := by
  unfold reportRedundancy
  split <;> simp

@[simp] theorem reportCoverage_admission (s : State) :
    (reportCoverage s).budget.window = s.budget.window ∧ (reportCoverage s).budget.retry = s.budget.retry ∧
    (reportCoverage s).budget.heldView = s.budget.heldView := by
  unfold reportCoverage
  (repeat' split) <;> simp

@[simp] theorem raiseExhausted_admission (s : State) :
    (raiseExhausted s).budget.window = s.budget.window ∧ (raiseExhausted s).budget.retry = s.budget.retry ∧
    (raiseExhausted s).budget.heldView = s.budget.heldView := by
  unfold raiseExhausted
  split <;> simp

@[simp] theorem compute_admission (s : State) :
    (compute s).budget.window = s.budget.window ∧ (compute s).budget.retry = s.budget.retry ∧
    (compute s).budget.heldView = s.budget.heldView := ⟨rfl, rfl, rfl⟩

/-! ## Calm -/

/-- What the gates of the queue's head are examined by, and what coverage rests on, are the same in `t` as in `s`. -/
structure Calm (s t : State) : Prop where
  sighted : Sighted s t
  held : t.budget.heldView = s.budget.heldView
  now : t.now = s.now
  st : t.st = s.st
  lock : t.zone.lock = s.zone.lock
  free : t.seat.free = s.seat.free
  port : t.port = s.port
  window : t.budget.window = s.budget.window
  retry : t.budget.retry = s.budget.retry

theorem Calm.refl (s : State) : Calm s s := ⟨.refl s, rfl, rfl, rfl, rfl, rfl, rfl, rfl, rfl⟩

theorem Calm.trans (h : Calm s u) (k : Calm u t) : Calm s t :=
  ⟨h.sighted.trans k.sighted, k.held.trans h.held, k.now.trans h.now, k.st.trans h.st, k.lock.trans h.lock,
    k.free.trans h.free, k.port.trans h.port, k.window.trans h.window, k.retry.trans h.retry⟩

theorem Calm.ite {c : Prop} [Decidable c] (ht : Calm s t) (hu : Calm s u) : Calm s (if c then t else u) := by
  split
  · exact ht
  · exact hu

theorem Calm.role (h : Calm s t) : role t = role s := by rw [Machine.role, h.st, Machine.role]

theorem Calm.cover (hr : Machine.role s = .line) (h : Calm s t) : SameCover s t where
  sighted := h.sighted
  held := h.held
  claim := by
    have hrt : Machine.role t = .line := h.role.trans hr
    rw [steadyClaim, steadyClaim, hr, hrt]
    simp only [h.st, portWeight, h.port]

theorem refresh_calm (s : State) : Calm s (refresh s) := by
  refine ⟨refresh_sighted (.refl s), ?_, ?_, ?_, ?_, ?_, ?_, ?_, ?_⟩ <;> simp

theorem compute_calm (s : State) : Calm s (compute s) := ⟨compute_sighted (.refl s), rfl, rfl, rfl, rfl, rfl, rfl, rfl, rfl⟩

theorem reportRedundancy_calm (s : State) : Calm s (reportRedundancy s) := by
  refine ⟨(Sighted.refl s).same (by simp [SameSight]), ?_, ?_, ?_, ?_, ?_, ?_, ?_, ?_⟩ <;> simp

theorem reportCoverage_calm (s : State) : Calm s (reportCoverage s) := by
  refine ⟨(Sighted.refl s).same (by simp [SameSight]), ?_, ?_, ?_, ?_, ?_, ?_, ?_, ?_⟩ <;> simp

theorem raiseExhausted_calm (s : State) : Calm s (raiseExhausted s) := by
  refine ⟨(Sighted.refl s).same (by simp [SameSight]), ?_, ?_, ?_, ?_, ?_, ?_, ?_, ?_⟩ <;> simp

theorem retarget_calm (s : State) : Calm s (retarget s) := by
  refine ⟨retarget_sighted (.refl s), ?_, ?_, ?_, ?_, ?_, ?_, ?_, ?_⟩ <;> simp

theorem judgeAsk_calm (s : State) : Calm s (judgeAsk s) := by
  refine ⟨(Sighted.refl s).same (by simp [SameSight]), ?_, ?_, ?_, ?_, ?_, ?_, ?_, ?_⟩ <;> simp

/-! ## Gates shut -/

/-- The gates of the head, if there is one, are not all open (R74). -/
def GatesShut (s : State) : Prop := ∀ e q, s.port.queue = e :: q → gatesOpen e s = false

theorem GatesShut.calm (h : GatesShut s) (k : Calm s t) : GatesShut t := fun e q hq => by
  rw [gatesOpen, k.st, k.lock, k.window, k.retry, k.free, k.now, k.port]
  exact h e q (by rwa [← k.port])

theorem examineGates_shut (h : GatesShut s) : examineGates s = s := by
  unfold examineGates
  split
  · rfl
  case h_2 e q hq => rw [if_neg fun hopen => by simp [h e q hq] at hopen]

/-- With a window open no other opens (R74). -/
theorem gatesShut_of_window (h : s.budget.window ≠ none) : GatesShut s := fun e q _ => by
  obtain ⟨d, hd⟩ := Option.ne_none_iff_exists'.mp h
  simp [gatesOpen, hd]

theorem gatesShut_of_retry (h : s.budget.retry ≠ none) : GatesShut s := fun e q _ => by
  obtain ⟨d, hd⟩ := Option.ne_none_iff_exists'.mp h
  simp [gatesOpen, hd]

/-! ## What follows an effect -/

/-- No LINE port is to be shed: the coverage as it will be computed is not lost (R68, R70). -/
def NotShedding (s : State) : Prop :=
  role s = .line → s.st.state = .active → (compute (refresh s)).budget.coverage ≠ .uncovered

theorem NotShedding.calm (h : NotShedding s) (k : Calm s t) : NotShedding t := fun hr ha => by
  have hrs : role s = .line := k.role.symm.trans hr
  rw [(k.cover hrs).coverage hrs]
  exact h hrs (by rwa [← k.st])

/-- Only an ACTIVE LINE station sheds for lost coverage; any other reports it (R69, R70). -/
theorem actUncovered_calm (h : ¬ (role s = .line ∧ s.st.state = .active)) : Calm s (actUncovered s) := by
  unfold actUncovered
  split
  case h_1 hr =>
    rw [if_neg fun ha => h ⟨hr, ha⟩]
    exact .refl s
  · exact raiseExhausted_calm s
  · exact raiseExhausted_calm s
  · exact .refl s

theorem reevaluate_calm (hshut : GatesShut s) (hkept : NotShedding s) : Calm s (reevaluate s) := by
  have hcomputed : Calm s (compute (refresh s)) := (refresh_calm s).trans (compute_calm _)
  have hcalm : Calm s (if comparing (compute (refresh s)) then
      reportCoverage (reportRedundancy (compute (refresh s))) else compute (refresh s)) :=
    .ite ((hcomputed.trans (reportRedundancy_calm _)).trans (reportCoverage_calm _)) hcomputed
  have hcoverage : (if comparing (compute (refresh s)) then
      reportCoverage (reportRedundancy (compute (refresh s))) else compute (refresh s)).budget.coverage =
      (compute (refresh s)).budget.coverage := by
    split
    · rw [reportCoverage_coverage, reportRedundancy_coverage]
    · rfl
  unfold reevaluate
  split
  case isFalse => exact .refl s
  case isTrue =>
    dsimp only
    generalize (if comparing (compute (refresh s)) then
      reportCoverage (reportRedundancy (compute (refresh s))) else compute (refresh s)) = x at hcalm hcoverage ⊢
    split
    case isFalse =>
      rwa [examineGates_shut (hshut.calm hcalm)]
    case isTrue hlost =>
      have hact : Calm s (actUncovered x) := by
        refine hcalm.trans (actUncovered_calm fun hline => ?_)
        exact hkept (hcalm.role.symm.trans hline.1) (by rw [← hcalm.st]; exact hline.2)
          (hcoverage.symm.trans hlost.2)
      rwa [examineGates_shut (hshut.calm hact)]

theorem propagate_calm (fuel : Nat) (hshut : GatesShut s) (hkept : NotShedding s) : Calm s (propagate fuel s) := by
  induction fuel generalizing s with
  | zero => exact refresh_calm s
  | succ fuel ih =>
    unfold propagate
    dsimp only
    split
    · exact refresh_calm s
    · have htarget : Calm s (retarget (refresh s)) := (refresh_calm s).trans (retarget_calm _)
      have hround : Calm s (reevaluate (retarget (refresh s))) :=
        htarget.trans (reevaluate_calm (hshut.calm htarget) (hkept.calm htarget))
      exact hround.trans (ih (hshut.calm hround) (hkept.calm hround))

theorem handOn_calm (hshut : GatesShut s) (hkept : NotShedding s) : Calm s (handOn s) := by
  have hstart : Calm s (if s.announce then retarget s else s) := .ite (retarget_calm s) (.refl s)
  exact hstart.trans (propagate_calm _ (hshut.calm hstart) (hkept.calm hstart))

/-- The end of a step leaves the ports, the settle window and the retry timer (R74, R76). -/
theorem finish_calm (s0 : State) (hdep : s.st.state ≠ .departing) (hshut : GatesShut s) (hkept : NotShedding s) :
    (finish s0 s).port = s.port ∧ (finish s0 s).budget.window = s.budget.window ∧
      (finish s0 s).budget.retry = s.budget.retry := by
  have hasked : Calm s (asked s0 s) := .ite (judgeAsk_calm s) (.refl s)
  have hhanded : Calm s (handed s0 s) := by
    unfold handed
    rw [departProgress_of_ne _ _ (by rwa [hasked.st])]
    exact hasked.trans (handOn_calm (hshut.calm hasked) (hkept.calm hasked))
  have hsettled : Calm s (settled s0 s) := by
    unfold settled
    rw [examineGates_shut (hshut.calm hhanded)]
    exact .ite (hhanded.trans (handOn_calm (hshut.calm hhanded) (hkept.calm hhanded))) hhanded
  rw [finish_settled]
  simp [hsettled.port, hsettled.window, hsettled.retry]

end Sys2Proof.Machine
end

section
/-! PROOF. The totals of the two checks as sums over the addresses, and the coverage that a check which passed has shown
(R68, R73, R75). -/

namespace Sys2Proof.Machine

open Sys2Proof.Config

variable {s t u : State}

/-! ## The totals (R73, R75) -/

/-- What a value read at `i` adds to the first check of the station at `own`. -/
def addedAtFirst (own : Nat) (e : Option Eff) (i : Nat) : Nat :=
  match e with
  | none => 0
  | some x => if i = own ∨ x.role = .supply then 0 else x.claim + x.tent

/-- What a value read at `i` adds to the re-check of the station at `own`. -/
def addedAtRecheck (own : Nat) (e : Option Eff) (i : Nat) : Nat :=
  match e with
  | none => 0
  | some x => if i = own then 0 else x.claim + if x.role = .line ∧ i < own then x.tent else 0

theorem firstTotal_eq (l : List (Option Eff)) (own d : Nat) :
    firstTotal l own d = (l.zipIdx.map fun x => addedAtFirst own x.1 x.2).sum + d := rfl

theorem recheckTotal_eq (l : List (Option Eff)) (own d : Nat) :
    recheckTotal l own d = (l.zipIdx.map fun x => addedAtRecheck own x.1 x.2).sum + d := rfl

theorem claimAtFirst_eq (s : State) (a : Addr) :
    claimAtFirst s a = addedAtFirst (ownAddr s).val (effAt s a) a.val := by
  unfold claimAtFirst addedAtFirst
  cases effAt s a <;> simp [Fin.ext_iff]

theorem claimAtRecheck_eq (s : State) (a : Addr) :
    claimAtRecheck s a = addedAtRecheck (ownAddr s).val (effAt s a) a.val := by
  unfold claimAtRecheck addedAtRecheck
  cases effAt s a <;> simp [Fin.ext_iff]

theorem budgetView_live (h : s.budget.heldView = none) : budgetView s = liveView s := by rw [budgetView, h]

theorem budgetView_length (h : s.budget.heldView = none) : (budgetView s).length ≤ 32 := by
  rw [budgetView_live h, liveView_length]

theorem firstTotal_addresses (h : s.budget.heldView = none) (d : Nat) :
    firstTotal (liveView s) (ownAddr s).val d = d + ∑ a, claimAtFirst s a := by
  rw [firstTotal_eq, ← budgetView_live h, sum_addresses _ (fun _ => rfl) (budgetView_length h), Nat.add_comm]
  exact congrArg _ (Finset.sum_congr rfl fun a _ => (claimAtFirst_eq s a).symm)

theorem recheckTotal_addresses (h : s.budget.heldView = none) (d : Nat) :
    recheckTotal (liveView s) (ownAddr s).val d = d + ∑ a, claimAtRecheck s a := by
  rw [recheckTotal_eq, ← budgetView_live h, sum_addresses _ (fun _ => rfl) (budgetView_length h), Nat.add_comm]
  exact congrArg _ (Finset.sum_congr rfl fun a _ => (claimAtRecheck_eq s a).symm)

/-- A LINE station's claim with the head's port counted at 3 × its draw (R73). -/
theorem prospective_eq {n : Nat} {p : Port} {r : PortReq} (hp : portAt s n = some p)
    (hstate : p.state = .queued ∨ p.state = .shed) (hr : p.req = some r) :
    (prospective s n : Int) = s.st.settings.base + ⌈((portTenths s + 3 * r.draw : Nat) : Rat) / 10⌉ := by
  have hweight : p.weight = 0 := by rcases hstate with h | h <;> simp [Port.weight, h]
  rw [prospective, hp, portTenths_eq_portWeight]
  dsimp only [lineClaim]
  rw [hr, hweight, Nat.sub_zero, Nat.cast_add, ceilDiv_eq_ceil _ _ (by decide)]
  rfl

/-! ## A check that passed shows coverage -/

theorem ceilDiv_mono {a b : Nat} (h : a ≤ b) (c : Nat) : ceilDiv a c ≤ ceilDiv b c :=
  Nat.div_le_div_right (by omega)

theorem weight_le (p : Port) : p.weight ≤ 3 * (p.req.map (·.draw)).getD 0 := by
  unfold Port.weight
  cases p.req <;> cases p.state <;> simp [Nat.le_mul_of_pos_left]

/-- A start does not lower a LINE station's claim (R73). -/
theorem steadyClaim_le_prospective (hr : role s = .line) (n : Nat) : steadyClaim s ≤ prospective s n := by
  unfold prospective
  split
  · exact le_rfl
  case h_2 p _ =>
    rw [steadyClaim, hr]
    have hweight := weight_le p
    refine Nat.add_le_add_left (ceilDiv_mono ?_ 10) _
    cases hreq : p.req with
    | none =>
      simp only [hreq, Option.map_none, Option.getD_none] at hweight
      omega
    | some r =>
      simp only [hreq, Option.map_some, Option.getD_some] at hweight
      dsimp only
      omega

/-- The running sum is within the own claim and what the check counts of the peers. -/
theorem runSum_le (hr : role s = .line) (h : Sighted s t) (hs : s.budget.heldView = none)
    (ht : t.budget.heldView = none) {d : Nat} (hd : steadyClaim t ≤ d) {f : Addr → Nat}
    (hf : ∀ a, a ≠ ownAddr s → claimUpTo .line (ownAddr s).val (effAt s a) a.val ≤ f a) :
    (compute (refresh t)).budget.runSum ≤ d + ∑ a, f a := by
  have hheld : (refresh t).budget.heldView = none := by simpa using ht
  have hrt : role t = .line := by rwa [role, h.straps]
  have hown : ownAddr t = ownAddr s := sighted_ownAddr h
  have hrole : role (refresh t) = .line := by simpa [role] using hrt
  have haddr : ownAddr (refresh t) = ownAddr s := by rw [← hown]; simp [ownAddr]
  have hterm (a : Addr) : claimUpTo .line (ownAddr s).val (effAt (refresh t) a) a.val ≤
      (if a = ownAddr s then d else 0) + f a := by
    by_cases ha : a = ownAddr s
    · subst ha
      have hclaim := (refresh_own hrt).2
      rw [hown] at hclaim
      rw [if_pos rfl, effAt_live hheld, hclaim]
      unfold claimAs
      split <;> omega
    · have heff : effAt (refresh t) a = effAt s a := by
        rw [effAt_live hheld, effAt_live hs, (refresh_sighted h).peers a ha]
      rw [heff, if_neg ha, Nat.zero_add]
      exact hf a ha
  have hsum : (compute (refresh t)).budget.runSum =
      ∑ a, claimUpTo .line (ownAddr s).val (effAt (refresh t) a) a.val := by
    change runningSum (budgetView (refresh t)) (role (refresh t)) (ownAddr (refresh t)).val = _
    rw [hrole, haddr, runningSum_eq (by decide), sum_addresses _ (fun _ => rfl) (budgetView_length hheld)]
  calc (compute (refresh t)).budget.runSum
      = ∑ a, claimUpTo .line (ownAddr s).val (effAt (refresh t) a) a.val := hsum
    _ ≤ ∑ a, ((if a = ownAddr s then d else 0) + f a) := Finset.sum_le_sum fun a _ => hterm a
    _ = d + ∑ a, f a := by rw [Finset.sum_add_distrib, Finset.sum_ite_eq' Finset.univ, if_pos (Finset.mem_univ _)]

theorem claimUpTo_le_first {own i : Nat} (hi : i ≠ own) (e : Option Eff) :
    claimUpTo .line own e i ≤ addedAtFirst own e i := by
  unfold claimUpTo addedAtFirst
  split
  · exact le_rfl
  · split <;> simp_all

theorem claimUpTo_le_recheck {own i : Nat} (hi : i ≠ own) (e : Option Eff) :
    claimUpTo .line own e i ≤ addedAtRecheck own e i := by
  unfold claimUpTo addedAtRecheck
  split
  · exact le_rfl
  · split <;> simp_all

theorem notShedding_of_runSum (h : (compute (refresh s)).budget.runSum ≤ (compute (refresh s)).budget.margined) :
    NotShedding s := fun hr _ => by
  have hrole : role (refresh s) ≠ .supply := by
    rw [show role (refresh s) = .line by simpa [role] using hr]
    decide
  rw [(compute_covered_iff hrole).mpr h]
  decide

end Sys2Proof.Machine
end

section
/-! PROOF. Settles O28: the gates of the head examined, and the window that opens. -/

namespace Sys2Proof.Machine

open Sys2Proof.Config

variable {s t u : State}

/-! ## No retry timer starts at a step's end (R76) -/

@[simp] theorem shedPort_retry (n : Nat) (s : State) : (shedPort n s).budget.retry = s.budget.retry := by
  unfold shedPort
  (repeat' split) <;> simp

@[simp] theorem shedAll_retry (fuel : Nat) (s : State) : (shedAll fuel s).budget.retry = s.budget.retry := by
  induction fuel generalizing s with
  | zero => rfl
  | succ fuel ih =>
    unfold shedAll
    (repeat' split) <;> simp [ih]

@[simp] theorem actUncovered_retry (s : State) : (actUncovered s).budget.retry = s.budget.retry := by
  unfold actUncovered
  dsimp only
  (repeat' split) <;> simp

@[simp] theorem reevaluate_retry (s : State) : (reevaluate s).budget.retry = s.budget.retry := by
  unfold reevaluate
  dsimp only
  (repeat' split) <;> simp

@[simp] theorem propagate_retry (fuel : Nat) (s : State) : (propagate fuel s).budget.retry = s.budget.retry := by
  induction fuel generalizing s with
  | zero => simp [propagate]
  | succ fuel ih =>
    unfold propagate
    dsimp only
    split <;> simp [ih]

@[simp] theorem handOn_retry (s : State) : (handOn s).budget.retry = s.budget.retry := by
  unfold handOn
  split <;> simp

@[simp] theorem changeState_retry (x : StationState) (c : Cause) (s : State) (h : s.budget.retry = none) :
    (changeState x c s).budget.retry = none := by
  unfold changeState
  dsimp only
  split <;> simp [h]

@[simp] theorem disableOutput_retry (s : State) : (disableOutput s).budget.retry = s.budget.retry := by
  have hset (x : SupplyState) (c : SupplyCause) (v : State) : (setSupply x c v).budget.retry = v.budget.retry := by
    unfold setSupply
    dsimp only
    (repeat' split) <;> simp [updateOffer]
  unfold disableOutput
  split
  · dsimp only
    split <;> simp [hset]
  · rfl

theorem enterDeparted_retry (h : s.budget.retry = none) : (enterDeparted s).budget.retry = none := by
  simp [enterDeparted, stopEscrow, h]

theorem offerDepart_retry (h : s.budget.retry = none) : (offerDepart s).budget.retry = none := by
  have hoffer : (offerNormal .depart (offerChanged (handOn s))).1.budget.retry = none := by simp [h]
  unfold offerDepart
  split
  · split <;> (rename_i heq; obtain rfl := offerNormal_of heq)
    · exact enterDeparted_retry hoffer
    · exact hoffer
    · exact hoffer
  · exact h

theorem departProgress_retry (s0 : State) (h : s.budget.retry = none) : (departProgress s0 s).budget.retry = none := by
  unfold departProgress
  split
  · split
    · exact h
    · split
      · exact h
      · exact offerDepart_retry (by simp [h])
    · refine offerDepart_retry ?_
      split <;> simp [h]
    · exact offerDepart_retry (by simp [h])
    · exact offerDepart_retry h
  · exact h

theorem finish_retry (s0 : State) (h : s.budget.retry = none) : (finish s0 s).budget.retry = none := by
  have hasked : (asked s0 s).budget.retry = none := by
    unfold asked
    split <;> simp [h]
  have hhanded : (handed s0 s).budget.retry = none := by simp [handed, departProgress_retry s0 hasked]
  rw [finish_settled]
  unfold settled
  split <;> simp [hhanded]

/-! ## The gates examined -/

theorem exec_retryTimerExpire {d : Nat} (hd : s.budget.retry = some d) : exec .retryTimerExpire s =
    .next (finish (reach d s) (examineGates { reach d s with budget.retry := none })) := by
  simp [exec, execRetryTimerExpire, expiryStep, hd, stepOf]

theorem exec_historyBoundary {d : Nat} (hd : s.port.boundary = some d) : exec .historyBoundary s =
    .next (finish (reach d s) (examineGates { reach d s with port.boundary := none })) := by
  simp [exec, execHistoryBoundary, expiryStep, hd, stepOf]

/-- A head whose gates are open and whose first check passes opens the settle window (R73, R74). -/
theorem examineGates_open {e : QEntry} {q : List QEntry} (hq : s.port.queue = e :: q) (hopen : gatesOpen e s = true)
    (htotal : firstTotal (liveView s) (ownAddr s).val (prospective s e.port) ≤ s.budget.margined) :
    examineGates s = { s with budget.window := some (s.now + ms 40) } := by
  unfold examineGates
  rw [hq]
  exact if_pos ⟨hopen, htotal⟩

/-- The coverage of a LINE station whose head passed the first check (R61, R68, R73). -/
theorem notShedding_of_first {e : QEntry} (hr : role s = .line) (hheld : s.budget.heldView = none)
    (hown : suppliedBy (entryAt s (ownAddr s)).eff = 0)
    (hmargined : s.budget.margined = marginedOf (usableOf s.st.straps.redund (countedOffers (liveView s))).1)
    (htotal : firstTotal (liveView s) (ownAddr s).val (prospective s e.port) ≤ s.budget.margined)
    (h : Sighted s t) (hclaim : steadyClaim t = steadyClaim s) (ht : t.budget.heldView = none) : NotShedding t := by
  have hrt : role t = .line := by rwa [role, h.straps]
  have hcounted : countedOffers (budgetView (refresh t)) = countedOffers (liveView s) := by
    have hlive := liveView_sighted (.refl s)
    have hsup := (refresh_own hrt).1
    rw [sighted_ownAddr h] at hsup
    rw [budgetView_refresh h (ht.trans hheld.symm), budgetView_live hheld]
    conv_rhs => rw [hlive]
    exact countedOffers_set _ _ hsup hown
  have hstraps : (refresh t).st.straps = s.st.straps := by simpa using h.straps
  have hsame : (compute (refresh t)).budget.margined = s.budget.margined := by
    simp only [compute, hcounted, hstraps, hmargined]
  have hsum := runSum_le hr h hheld ht (hclaim ▸ steadyClaim_le_prospective hr e.port)
    (f := claimAtFirst s) fun a ha => by
      rw [claimAtFirst_eq]
      exact claimUpTo_le_first (fun hval => ha (Fin.ext hval)) _
  rw [firstTotal_addresses hheld] at htotal
  exact notShedding_of_runSum (by omega)

/-- The own entry of a LINE station brings no offer (R44). -/
theorem OwnEntry.supplied (h : OwnEntry s) (hr : role s = .line) : suppliedBy (entryAt s (ownAddr s)).eff = 0 := by
  cases he : entryAt s (ownAddr s) with
  | empty => rfl
  | known p heard f =>
    have hf : f.role = .line := by
      rw [h.entry f (by simp [ownRecorded, he, Entry.fields?])]
      exact hr
    cases p <;> simp [Entry.eff, suppliedBy, hf]

/-- The settle window that the examination opens stands at the end of the step. -/
theorem window_opens {e : QEntry} {q : List QEntry} (hq : s.port.queue = e :: q) (hentry : OwnEntry s)
    (hr : role s = .line) (hheld : s.budget.heldView = none)
    (hmargined : s.budget.margined = marginedOf (usableOf s.st.straps.redund (countedOffers (liveView s))).1)
    (htotal : firstTotal (liveView s) (ownAddr s).val (prospective s e.port) ≤ s.budget.margined)
    (hu : SameCover s u) (hqueue : u.port.queue = s.port.queue) (hopen : gatesOpen e u = true)
    (hpass : firstTotal (liveView u) (ownAddr u).val (prospective u e.port) ≤ u.budget.margined) (s0 : State) :
    (finish s0 (examineGates u)).budget.window = some (u.now + ms 40) ∧
      (finish s0 (examineGates u)).port.queue = s.port.queue := by
  have hactive : u.st.state = .active := by
    simp only [gatesOpen, Bool.and_eq_true, decide_eq_true_eq] at hopen
    exact hopen.1.1.1.1.1
  have hwindow : Sighted s { u with budget.window := some (u.now + ms 40) } :=
    hu.sighted.same ⟨rfl, rfl, rfl, rfl, rfl, id⟩
  have hkept := notShedding_of_first hr hheld (hentry.supplied hr) hmargined htotal hwindow hu.claim
    (hu.held.trans hheld)
  obtain ⟨hport, hopened, -⟩ := finish_calm s0 (s := { u with budget.window := some (u.now + ms 40) })
    (by simp [hactive]) (gatesShut_of_window (by simp)) hkept
  rw [examineGates_open (hqueue.trans hq) hopen hpass]
  exact ⟨hopened, by rw [hport]; exact hqueue⟩

/-- What an event leaves before the gates are examined for it: the queue, the view and what the first check reads. -/
structure Examined (s u : State) (d : Nat) : Prop where
  now : u.now = max s.now d
  aside : Aside s u
  cover : SameCover s u
  queue : u.port.queue = s.port.queue
  live : liveView u = liveView s
  prospective : ∀ n, prospective u n = prospective s n
  margined : u.budget.margined = s.budget.margined

theorem retry_examined (d : Nat) (s : State) : Examined s { reach d s with budget.retry := none } d :=
  ⟨rfl, SameAside.aside (by simp [SameAside]), ⟨(Sighted.refl s).same ⟨rfl, rfl, rfl, rfl, rfl, id⟩, rfl, rfl⟩, rfl, rfl,
    fun _ => rfl, rfl⟩

theorem boundary_examined (d : Nat) (s : State) : Examined s { reach d s with port.boundary := none } d :=
  ⟨rfl, SameAside.aside (by simp [SameAside]), ⟨(Sighted.refl s).same ⟨rfl, rfl, rfl, rfl, rfl, id⟩, rfl, rfl⟩, rfl, rfl,
    fun _ => rfl, rfl⟩

theorem Examined.finished {d : Nat} (h : Examined s u d) (s0 : State) :
    (finish s0 (examineGates u)).now = max s.now d ∧ Aside s (finish s0 (examineGates u)) := by
  refine ⟨by simp [h.now], (h.aside.trans (SameAside.aside ?_)).trans (finish_aside _ _)⟩
  simp [SameAside]

theorem Examined.opens {d : Nat} (h : Examined s u d) {e : QEntry} {q : List QEntry} (hq : s.port.queue = e :: q)
    (hentry : OwnEntry s) (hr : role s = .line) (hheld : s.budget.heldView = none)
    (hmargined : s.budget.margined = marginedOf (usableOf s.st.straps.redund (countedOffers (liveView s))).1)
    (hopen : gatesOpen e u = true)
    (htotal : firstTotal (liveView s) (ownAddr s).val (Machine.prospective s e.port) ≤ s.budget.margined) (s0 : State) :
    (finish s0 (examineGates u)).budget.window = some ((finish s0 (examineGates u)).now + ms 40) ∧
      (finish s0 (examineGates u)).port.queue = s.port.queue := by
  rw [(h.finished s0).1, ← h.now]
  refine window_opens hq hentry hr hheld hmargined htotal h.cover h.queue hopen ?_ s0
  rwa [h.live, h.prospective, h.margined, sighted_ownAddr h.cover.sighted]

/-- Settles O28: the same examination for both events, and the end of the step. -/
theorem gatesExamined : Obligations.GatesExamined := by
  unfold Obligations.GatesExamined
  intro s d c hc
  rcases hc with ⟨rfl, hd⟩ | ⟨rfl, hd⟩
  · have hread := retry_examined d s
    refine ⟨_, exec_retryTimerExpire hd, (hread.finished _).1, (hread.finished _).2,
      fun _ => finish_retry _ (by simp), fun h => absurd h (by simp),
      fun u e q hu hq hentry _ hr hheld hmargined hopen htotal => ?_⟩
    rw [hu, if_pos rfl] at hopen
    exact hread.opens hq hentry hr hheld hmargined hopen htotal _
  · have hread := boundary_examined d s
    refine ⟨_, exec_historyBoundary hd, (hread.finished _).1, (hread.finished _).2, fun h => absurd h (by simp),
      fun _ => by simp only [finish_always, examineGates_frame],
      fun u e q hu hq hentry _ hr hheld hmargined hopen htotal => ?_⟩
    rw [hu, if_neg (by simp)] at hopen
    exact hread.opens hq hentry hr hheld hmargined hopen htotal _

end Sys2Proof.Machine
end

section
/-! PROOF. Settles O27: the end of a settle window. -/

namespace Sys2Proof.Machine

open Sys2Proof.Config

variable {s t u v : State}

/-! ## A settle window that has ended stays so (R74) -/

/-- The settle window of `t` is that of `s`, closed, or opened at the present instant. -/
structure Windowed (s t : State) : Prop where
  now : t.now = s.now
  window : t.budget.window = s.budget.window ∨ t.budget.window = none ∨ t.budget.window = some (s.now + ms 40)

theorem Windowed.refl (s : State) : Windowed s s := ⟨rfl, .inl rfl⟩

theorem Windowed.same (hnow : t.now = s.now) (h : t.budget.window = s.budget.window) : Windowed s t := ⟨hnow, .inl h⟩

theorem Windowed.closed (hnow : t.now = s.now) (h : t.budget.window = none) : Windowed s t := ⟨hnow, .inr (.inl h)⟩

theorem Windowed.trans (h : Windowed s u) (k : Windowed u t) : Windowed s t := by
  refine ⟨k.now.trans h.now, ?_⟩
  rcases k.window with hk | hk | hk
  · rw [hk]
    exact h.window
  · exact .inr (.inl hk)
  · exact .inr (.inr (by rw [hk, h.now]))

theorem Windowed.ite {c : Prop} [Decidable c] (ht : Windowed s t) (hu : Windowed s u) :
    Windowed s (if c then t else u) := by
  split
  · exact ht
  · exact hu

/-- A window that is not the one that ends now is none of those that end later. -/
theorem Windowed.over (h : Windowed s t) {d : Nat} (hd : d ≤ s.now) (hs : s.budget.window ≠ some d) :
    t.budget.window ≠ some d := by
  rcases h.window with hw | hw | hw
  · rwa [hw]
  · simp [hw]
  · rw [hw]
    intro he
    have hlater : s.now + ms 40 = d := Option.some.inj he
    have hpos : 0 < ms 40 := by decide
    omega

theorem examineGates_windowed (s : State) : Windowed s (examineGates s) := by
  unfold examineGates
  split
  · exact .refl s
  · split
    · exact ⟨rfl, .inr (.inr rfl)⟩
    · exact .refl s

@[simp] theorem shedPort_window (n : Nat) (s : State) : (shedPort n s).budget.window = s.budget.window := by
  unfold shedPort
  (repeat' split) <;> simp

theorem shedAll_window (fuel : Nat) (s : State) : (shedAll fuel s).budget.window = s.budget.window := by
  induction fuel generalizing s with
  | zero => rfl
  | succ fuel ih =>
    unfold shedAll
    (repeat' split) <;> simp [ih]

theorem actUncovered_windowed (s : State) : Windowed s (actUncovered s) := by
  have hshed (k : Nat) : (shedAll k (refresh (closeWindow s))).budget.window = none := by simp [shedAll_window]
  unfold actUncovered
  dsimp only
  split
  · split
    · split
      · exact .closed (by simp) (by simp [hshed])
      · exact .closed (by simp) (by simp [hshed])
    · exact .refl s
  · exact .same (by simp) (by simp)
  · exact .same (by simp) (by simp)
  · exact .refl s

theorem reevaluate_windowed (s : State) : Windowed s (reevaluate s) := by
  have hcomputed : Windowed s (compute (refresh s)) := .same (by simp) (by simp)
  have hreported : Windowed s (if comparing (compute (refresh s)) then
      reportCoverage (reportRedundancy (compute (refresh s))) else compute (refresh s)) :=
    .ite (hcomputed.trans (.same (by simp) (by simp))) hcomputed
  unfold reevaluate
  refine .ite ?_ (.refl s)
  exact Windowed.trans (.ite (hreported.trans (actUncovered_windowed _)) hreported) (examineGates_windowed _)

theorem propagate_windowed (fuel : Nat) (s : State) : Windowed s (propagate fuel s) := by
  have hrefresh : Windowed s (refresh s) := .same (by simp) (by simp)
  induction fuel generalizing s with
  | zero => exact hrefresh
  | succ fuel ih =>
    have hround : Windowed s (reevaluate (retarget (refresh s))) :=
      Windowed.trans (.same (by simp) (by simp)) (reevaluate_windowed _)
    exact .ite hrefresh (hround.trans (ih _ (.same (by simp) (by simp))))

theorem handOn_windowed (s : State) : Windowed s (handOn s) := by
  have hstart : Windowed s (if s.announce then retarget s else s) := .ite (.same (by simp) (by simp)) (.refl s)
  exact hstart.trans (propagate_windowed _ _)

/-- Outside DEPARTING the end of a step opens no window but one that it begins itself. -/
theorem finish_windowed (s0 : State) (hdep : s.st.state ≠ .departing) : Windowed s (finish s0 s) := by
  have hasked : Windowed s (asked s0 s) := .ite (.same (by simp) (by simp)) (.refl s)
  have hhanded : Windowed s (handed s0 s) := by
    unfold handed
    rw [departProgress_of_ne _ _ (by simpa using hdep)]
    exact hasked.trans (handOn_windowed _)
  have hsettled : Windowed s (settled s0 s) :=
    .ite ((hhanded.trans (examineGates_windowed _)).trans (handOn_windowed _)) hhanded
  rw [finish_settled]
  exact hsettled.trans (.same (by simp) (by simp))

theorem recheck_window (s : State) : (recheck s).budget.window = none := by
  unfold recheck
  split
  · rfl
  · (repeat' split) <;> rfl

/-- The window that ends is closed by the re-check, unless the re-evaluation before it has closed it (R75). -/
theorem windowOver_over {d : Nat} (hs : s.budget.window = some d) :
    (windowOver s).budget.window ≠ some d := by
  unfold windowOver
  dsimp only
  split
  · simp [recheck_window]
  case isFalse hclosed => rwa [hs] at hclosed

end Sys2Proof.Machine
end

section
/-! PROOF. Settles O27: the start of the head, and the coverage it leaves (R75, R133, R135). -/

namespace Sys2Proof.Machine

open Sys2Proof.Config

variable {s t u v : State}

/-! ## The start of the head (R111, R133, R135) -/

/-- A port that starts. -/
def started (now : Nat) (fresh : Bool) (p : Port) : Port :=
  { p with state := .lighting, seat := true, startAt := some now, timer := some (now + ms 100), restored := !fresh }

theorem startHead_eq {e : QEntry} {q : List QEntry} (hq : s.port.queue = e :: q) : startHead s =
    recordStart (mapPort e.port (started s.now e.fresh)
      { (if e.fresh then bindSeat s else s) with port.queue := q }) := by
  have hnow : (if e.fresh then bindSeat s else s).now = s.now := by split <;> simp
  unfold startHead
  rw [hq]
  dsimp only
  rw [hnow]
  rfl

/-- The start is recorded last (R133). -/
theorem startHead_history {e : QEntry} {q : List QEntry} (hq : s.port.queue = e :: q) :
    (startHead s).port.history.getLast? = some s.now := by
  rw [startHead_eq hq]
  unfold recordStart
  dsimp only
  have hnow : (mapPort e.port (started s.now e.fresh)
      { (if e.fresh then bindSeat s else s) with port.queue := q }).now = s.now := by
    split <;> simp
  rw [hnow, List.getLast?_drop, if_neg (by simp)]
  simp

theorem startHead_seat {e : QEntry} {q : List QEntry} (hq : s.port.queue = e :: q) :
    (startHead s).seat = (if e.fresh then bindSeat s else s).seat := by
  rw [startHead_eq hq]
  simp

/-- A fresh head's seat is bound; a shed one's was never freed (R111). -/
theorem bindSeat_seat (h : 0 < s.seat.free) : (bindSeat s).seat.free + 1 = s.seat.free ∧
    (bindSeat s).seat.bound = s.seat.bound + 1 := by
  unfold bindSeat
  rw [if_neg (by omega)]
  exact ⟨Nat.sub_add_cancel h, rfl⟩

/-- The head leaves the queue and its port is LIGHTING (R133, R135). -/
theorem startHead_port {e : QEntry} {q : List QEntry} {p : Port} (hq : s.port.queue = e :: q)
    (hp : portAt s e.port = some p) : (startHead s).port.queue = q ∧
      (startHead s).port.recs = s.port.recs.set e.port (started s.now e.fresh p) := by
  have hat : portAt { (if e.fresh then bindSeat s else s) with port.queue := q } e.port = some p := by
    split <;> simpa [portAt] using hp
  rw [startHead_eq hq, mapPort_of_some hat]
  split <;> simp [recordStart, setPort]

theorem sum_set_add {l : List Nat} {n a : Nat} (h : l[n]? = some a) (b : Nat) : (l.set n b).sum + a = l.sum + b := by
  induction l generalizing n with
  | nil => simp at h
  | cons x l ih =>
    cases n with
    | zero =>
      obtain rfl : x = a := by simpa using h
      simp only [List.set_cons_zero, List.sum_cons]
      omega
    | succ n =>
      have hrest := ih (n := n) (by simpa using h)
      simp only [List.set_cons_succ, List.sum_cons]
      omega

/-- The claim of a LINE station whose head has started is the prospective claim that was checked (R73). -/
theorem steadyClaim_started {e : QEntry} {p : Port} (hr : role s = .line) (hp : portAt s e.port = some p)
    (hst : t.st = s.st) (hrecs : t.port.recs = s.port.recs.set e.port (started s.now e.fresh p)) :
    steadyClaim t = prospective s e.port := by
  have hrt : role t = .line := by rwa [role, hst]
  have hweight : portWeight t = portWeight s - p.weight + (started s.now e.fresh p).weight := by
    have hsum := sum_set_add (l := s.port.recs.map Port.weight) (n := e.port) (a := p.weight)
      (by rw [List.getElem?_map]; exact congrArg _ hp) (started s.now e.fresh p).weight
    rw [portWeight, hrecs, List.map_set]
    unfold portWeight
    have hle : p.weight ≤ (s.port.recs.map Port.weight).sum :=
      List.le_sum_of_mem (List.mem_map_of_mem (List.mem_of_getElem? hp))
    omega
  rw [steadyClaim, hrt, prospective, hp]
  dsimp only
  rw [hweight, hst]
  rfl

/-! ## The re-check's outcomes (R75, R76) -/

/-- The head as the re-check judges it: its total and gates 2 and 4. -/
structure Passes (e : QEntry) (s : State) : Prop where
  total : recheckTotal (liveView s) (ownAddr s).val (prospective s e.port) ≤ s.budget.margined
  lock : s.zone.lock ≠ .applying
  seat : e.fresh = true → 0 < s.seat.free

theorem recheck_passes {e : QEntry} {q : List QEntry} (hq : s.port.queue = e :: q) (h : Passes e s) :
    recheck s = closeWindow (startHead s) := by
  unfold recheck
  rw [hq]
  dsimp only
  rw [if_neg (Nat.not_lt.mpr h.total), if_neg]
  rintro (hlock | ⟨hfresh, hfree⟩)
  · exact h.lock hlock
  · have := h.seat hfresh
    omega

theorem recheck_too_large {e : QEntry} {q : List QEntry} (hq : s.port.queue = e :: q)
    (h : s.budget.margined < recheckTotal (liveView s) (ownAddr s).val (prospective s e.port)) :
    recheck s = { closeWindow s with budget.retry := some (s.now + ms 100) } := by
  unfold recheck
  rw [hq]
  exact if_pos h

theorem recheck_gates_shut {e : QEntry} {q : List QEntry} (hq : s.port.queue = e :: q)
    (htotal : recheckTotal (liveView s) (ownAddr s).val (prospective s e.port) ≤ s.budget.margined)
    (h : s.zone.lock = .applying ∨ (e.fresh = true ∧ s.seat.free = 0)) : recheck s = closeWindow s := by
  unfold recheck
  rw [hq]
  dsimp only
  rw [if_neg (Nat.not_lt.mpr htotal), if_pos h]

theorem recheck_kept (s : State) : (recheck s).now = s.now ∧ (recheck s).st = s.st ∧ (recheck s).zone = s.zone ∧
    (recheck s).budget.heldView = s.budget.heldView := by
  unfold recheck
  split
  · simp
  · (repeat' split) <;> simp

theorem recheck_aside (s : State) : Aside s (recheck s) := by
  have hseat (v : State) : (startHead v).seat.receipts = v.seat.receipts ∧
      (startHead v).seat.serial = v.seat.serial := by
    unfold startHead bindSeat
    split
    · exact ⟨rfl, rfl⟩
    · (repeat' split) <;> simp
  refine SameAside.aside ?_
  unfold recheck
  split
  · simp [SameAside]
  · (repeat' split) <;> simp [SameAside, hseat]

end Sys2Proof.Machine
end

section
/-! PROOF. Settles O27: the re-evaluation that leaves the window, and what each outcome of the re-check leaves. -/

namespace Sys2Proof.Machine

open Sys2Proof.Config

variable {s t u : State} {d : Nat}

/-! ## A re-evaluation that leaves the window open (R70, R76) -/

theorem reevaluate_active (ha : s.st.state = .active) : reevaluate s = examineGates
    (if (compute (refresh s)).budget.coverage = .uncovered then actUncovered (reported s) else reported s) := by
  have hcomparing (v : State) (h : v.st = s.st) : comparing v = true := by simp [comparing, h, ha]
  have hgates : reevaluate s = examineGates (if comparing (reported s) ∧ (reported s).budget.coverage = .uncovered then
      actUncovered (reported s) else reported s) := by
    simp only [reevaluate, evaluating, ha, hcomparing (compute (refresh s)) (by simp), if_true, reported]
    rfl
  obtain ⟨-, hst, hcoverage⟩ := reported_kept s
  simp only [hgates, hcomparing (reported s) hst, hcoverage, true_and]

/-- Lost coverage closes the window (R76). -/
theorem notShedding_of_window (hd : d ≤ s.now) (h : (reevaluate s).budget.window = some d) : NotShedding s := by
  intro hr ha hlost
  obtain ⟨-, hst, -⟩ := reported_kept s
  have hrole : role (reported s) = .line := by rwa [role, hst]
  have hclosed : (actUncovered (reported s)).budget.window = none := by
    unfold actUncovered
    rw [hrole]
    dsimp only
    rw [if_pos (by rw [hst, ha])]
    split <;> simp [shedAll_window]
  rw [reevaluate_active ha, if_pos hlost] at h
  exact (examineGates_windowed _).over (d := d) (by simpa [reported] using hd) (by simp [hclosed]) h

theorem reevaluate_leaves (hd : d ≤ s.now) (hs : s.budget.window = some d) (h : (reevaluate s).budget.window = some d) :
    Calm s (reevaluate s) :=
  reevaluate_calm (gatesShut_of_window (by simp [hs])) (notShedding_of_window hd h)

/-- The margined capacity of such a re-evaluation is the one it computed (R61). -/
theorem reevaluate_margined (hr : role s = .line) (ha : s.st.state = .active) (h : NotShedding s) :
    (reevaluate s).budget.margined = (compute (refresh s)).budget.margined := by
  have hgates (v : State) : (examineGates v).budget.margined = v.budget.margined := by
    unfold examineGates
    (repeat' split) <;> rfl
  have hredundancy (v : State) : (reportRedundancy v).budget.margined = v.budget.margined := by
    unfold reportRedundancy
    split <;> simp
  have hcoverage (v : State) : (reportCoverage v).budget.margined = v.budget.margined := by
    unfold reportCoverage
    (repeat' split) <;> simp
  rw [reevaluate_active ha, if_neg (h hr ha), hgates, reported, hcoverage, hredundancy]

/-! ## After the re-check -/

/-- A start at this instant shuts gate 5 (R74, R133). -/
theorem gatesShut_of_start (h : s.port.history.getLast? = some s.now) : GatesShut s := fun e q _ => by
  simp [gatesOpen, historyAllows, h]

theorem startHead_sighted (s : State) : Sighted s (startHead s) := by
  have hbind : (bindSeat s).announce = s.announce := by
    unfold bindSeat
    split <;> rfl
  have hmap (n : Nat) (f : Port → Port) (v : State) : (mapPort n f v).announce = v.announce := by
    unfold mapPort
    split <;> rfl
  have hannounce : (startHead s).announce = s.announce := by
    cases hq : s.port.queue with
    | nil => simp [startHead, hq]
    | cons e q =>
      rw [startHead_eq hq]
      unfold recordStart
      dsimp only
      rw [hmap]
      split <;> simp [hbind]
  exact (Sighted.refl s).same (by simp [SameSight, hannounce])

/-- A head that passed the re-check leaves its LINE station covered once it has started (R61, R68, R75). -/
theorem notShedding_started {e : QEntry} {q : List QEntry} {p : Port} (hr : role s = .line) (ha : s.st.state = .active)
    (hheld : s.budget.heldView = none) (hd : d ≤ s.now) (hs : s.budget.window = some d)
    (hu : (reevaluate s).budget.window = some d) (hq : (reevaluate s).port.queue = e :: q)
    (hp : portAt (reevaluate s) e.port = some p)
    (htotal : recheckTotal (liveView (reevaluate s)) (ownAddr (reevaluate s)).val (prospective (reevaluate s) e.port) ≤
      (reevaluate s).budget.margined) : NotShedding (closeWindow (startHead (reevaluate s))) := by
  have hcalm := reevaluate_leaves hd hs hu
  have hheldu : (reevaluate s).budget.heldView = none := hcalm.held.trans hheld
  have hru : role (reevaluate s) = .line := hcalm.role.trans hr
  have hsight : Sighted (reevaluate s) (closeWindow (startHead (reevaluate s))) :=
    closeWindow_sighted (startHead_sighted _)
  have hclaim : steadyClaim (closeWindow (startHead (reevaluate s))) = prospective (reevaluate s) e.port :=
    steadyClaim_started hru hp (by simp) (by simpa using (startHead_port hq hp).2)
  have hsum := runSum_le hru hsight hheldu (by simpa using hheldu) hclaim.le
    (f := claimAtRecheck (reevaluate s)) fun a ha => by
      rw [claimAtRecheck_eq]
      exact claimUpTo_le_recheck (fun hval => ha (Fin.ext hval)) _
  have hmargined := compute_margined_sighted hr (hcalm.sighted.trans hsight)
    (t := closeWindow (startHead (reevaluate s))) (by simpa using hcalm.held)
  rw [← recheckTotal_addresses hheldu] at hsum
  refine notShedding_of_runSum (hsum.trans ?_)
  rwa [hmargined, ← reevaluate_margined hr ha (notShedding_of_window hd hu)]

/-- A re-check that starts nothing leaves the coverage as the re-evaluation found it. -/
theorem NotShedding.closed (h : NotShedding s) (k : Calm s u) (hsight : Sighted u t) (hst : t.st = u.st)
    (hport : t.port = u.port) (hheld : t.budget.heldView = u.budget.heldView) : NotShedding t := fun hr ha => by
  have hru : role u = .line := by rwa [role, ← hst]
  have hrs : role s = .line := k.role.symm.trans hru
  have hclaim : steadyClaim t = steadyClaim s := by
    rw [← (k.cover hrs).claim, steadyClaim, steadyClaim, hr, hru]
    simp only [hst, portWeight, hport]
  have hcover : SameCover s t := ⟨k.sighted.trans hsight, hheld.trans k.held, hclaim⟩
  rw [hcover.coverage hrs]
  exact h hrs (by rw [← k.st, ← hst]; exact ha)

/-! ## The end of the window -/

theorem exec_settleWindowExpire (ha : s.st.state = .active) (hs : s.budget.window = some d) :
    exec .settleWindowExpire s = .next (finish (reach d s) (windowOver (reach d s))) := by
  simp [exec, execSettleWindowExpire, during, expiryStep, ha, hs, stepOf]

theorem windowOver_rechecks (h : (reevaluate s).budget.window = s.budget.window) :
    windowOver s = recheck (reevaluate s) := if_pos h

theorem windowOver_kept (s : State) : (windowOver s).now = s.now ∧ (windowOver s).st = s.st ∧
    (windowOver s).zone = s.zone ∧ Aside s (windowOver s) := by
  obtain ⟨hnow, hst, hzone, -⟩ := recheck_kept (reevaluate s)
  have hevaluated : Aside s (reevaluate s) := SameAside.aside (by simp [SameAside])
  unfold windowOver
  dsimp only
  split
  · exact ⟨by simp [hnow], by simp [hst], by simp [hzone], hevaluated.trans (recheck_aside _)⟩
  · exact ⟨by simp, by simp, by simp, hevaluated⟩

end Sys2Proof.Machine
end

section
/-! PROOF. Settles O27, assembled: the totals, the start, and the two failures. -/

namespace Sys2Proof.Machine

open Sys2Proof.Config

variable {s t u : State} {d : Nat}

/-- Without a window there is no increment at the end of a step (R74). -/
theorem finish_tent (s0 : State) (h : (finish s0 s).budget.window = none) : (finish s0 s).budget.tent = 0 := by
  rw [(finish_blocks s0 s).1, tentative, h]

/-- The head that passed is started by the end of the step: its start is recorded last, its seat bound if it is fresh
(R111, R133). -/
theorem finish_started {e : QEntry} {q : List QEntry} (ha : s.st.state = .active) (hq : s.port.queue = e :: q)
    (h : Passes e s) (s0 : State) : (finish s0 (recheck s)).port.history.getLast? = some s.now ∧
      (finish s0 (recheck s)).seat.free = (if e.fresh then bindSeat s else s).seat.free ∧
      (finish s0 (recheck s)).seat.bound = (if e.fresh then bindSeat s else s).seat.bound := by
  have hdep : (closeWindow (startHead s)).st.state ≠ .departing := by simp [ha]
  rw [recheck_passes hq h]
  simp only [finish_frame s0 _ hdep, closeWindow_frame, startHead_history hq, startHead_seat hq, and_self]

/-- Its port is LIGHTING for 100 ms, and its LINE station, covered by the check, holds no increment (R75, R135). -/
theorem finish_lights {e : QEntry} {q : List QEntry} {p : Port} (hr : role s = .line) (ha : s.st.state = .active)
    (hheld : s.budget.heldView = none) (hd : d ≤ s.now) (hs : s.budget.window = some d)
    (hu : (reevaluate s).budget.window = some d) (hq : (reevaluate s).port.queue = e :: q)
    (hp : portAt (reevaluate s) e.port = some p) (h : Passes e (reevaluate s)) (s0 : State) :
    (finish s0 (recheck (reevaluate s))).budget.window = none ∧ (finish s0 (recheck (reevaluate s))).port.queue = q ∧
      portAt (finish s0 (recheck (reevaluate s))) e.port = some (started s.now e.fresh p) := by
  have hstart : (startHead (reevaluate s)).port.history.getLast? = some (startHead (reevaluate s)).now := by
    rw [startHead_history hq, (startHead_frame _).1]
  have hshut : GatesShut (closeWindow (startHead (reevaluate s))) := gatesShut_of_start (by simpa using hstart)
  obtain ⟨hport, hwindow, -⟩ := finish_calm s0 (by simp [ha]) hshut
    (notShedding_started hr ha hheld hd hs hu hq hp h.total)
  obtain ⟨hqueue, hrecs⟩ := startHead_port hq hp
  have hlt : e.port < (reevaluate s).port.recs.length := (List.getElem?_eq_some_iff.mp hp).1
  rw [recheck_passes hq h]
  refine ⟨hwindow, by rw [hport]; simpa using hqueue, ?_⟩
  rw [portAt, hport]
  simp [hrecs, hlt]

/-- Gate 2 or gate 4 stays shut when the window closes (R74). -/
theorem gatesShut_closed {e : QEntry} {q : List QEntry} (hq : s.port.queue = e :: q)
    (h : s.zone.lock = .applying ∨ (e.fresh = true ∧ s.seat.free = 0)) : GatesShut (closeWindow s) := by
  intro e' q' hq'
  obtain ⟨rfl, -⟩ : e = e' ∧ q = q' := by simpa [hq] using hq'
  rcases h with hlock | ⟨hfresh, hfree⟩
  · simp [gatesOpen, hlock]
  · simp [gatesOpen, hfresh, hfree]

/-- A re-check that starts nothing withdraws the increment and leaves the queue, the starts and the retry timer as it
gives them (R76). -/
theorem finish_withdrawn {e : QEntry} {q : List QEntry} (ha : s.st.state = .active) (hd : d ≤ s.now)
    (hs : s.budget.window = some d) (hu : (reevaluate s).budget.window = some d)
    (hq : (reevaluate s).port.queue = e :: q) {x : Option Nat}
    (hshut : GatesShut { closeWindow (reevaluate s) with budget.retry := x }) (s0 : State) :
    (finish s0 { closeWindow (reevaluate s) with budget.retry := x }).budget.window = none ∧
      (finish s0 { closeWindow (reevaluate s) with budget.retry := x }).budget.tent = 0 ∧
      (finish s0 { closeWindow (reevaluate s) with budget.retry := x }).budget.retry = x ∧
      (finish s0 { closeWindow (reevaluate s) with budget.retry := x }).port.queue = e :: q ∧
      (finish s0 { closeWindow (reevaluate s) with budget.retry := x }).port.history = s.port.history := by
  have hsight : Sighted (reevaluate s) { closeWindow (reevaluate s) with budget.retry := x } :=
    (closeWindow_sighted (.refl _)).same ⟨rfl, rfl, rfl, rfl, rfl, id⟩
  have hkept := (notShedding_of_window hd hu).closed (reevaluate_leaves hd hs hu) hsight rfl rfl rfl
  obtain ⟨hport, hwindow, hretry⟩ := finish_calm s0 (by simp [ha]) hshut hkept
  refine ⟨hwindow, finish_tent s0 hwindow, hretry, ?_, ?_⟩
  · rw [hport]
    exact hq
  · rw [hport]
    simp

/-- Settles O27: the totals as sums over the addresses, then the re-check's outcomes at the end of the step. -/
theorem settleWindowEnds : Obligations.SettleWindowEnds := by
  unfold Obligations.SettleWindowEnds
  refine ⟨fun s n p r _ hp hstate hreq => prospective_eq hp hstate hreq,
    fun s d h => ⟨firstTotal_addresses h d, recheckTotal_addresses h d⟩, fun s d ha hs => ?_⟩
  have hd : d ≤ (reach d s).now := Nat.le_max_right _ _
  have hsr : (reach d s).budget.window = some d := hs
  obtain ⟨hnow, hst, hzone, haside⟩ := windowOver_kept (reach d s)
  have hdep : (windowOver (reach d s)).st.state ≠ .departing := by simp [hst, ha]
  obtain ⟨hlink, hsense, hport, -⟩ :=
    ((reach_aside d s).trans haside).trans (finish_aside (reach d s) (windowOver (reach d s)))
  have hrechecks (h : (reevaluate (reach d s)).budget.window = some d) :
      windowOver (reach d s) = recheck (reevaluate (reach d s)) := windowOver_rechecks (h.trans hs.symm)
  have htnow : (finish (reach d s) (windowOver (reach d s))).now = (reach d s).now := by simp [hnow]
  have hunow : (reevaluate (reach d s)).now = (reach d s).now := by simp
  have hulock : (reevaluate (reach d s)).zone.lock = s.zone.lock := by simp
  refine ⟨_, exec_settleWindowExpire ha hs, htnow, (finish_windowed _ hdep).over (hd.trans hnow.ge)
    (windowOver_over hsr), ?_, ?_, hlink, hsense, hport, ?_, ?_, ?_⟩
  · simp only [finish_frame _ _ hdep, hst, reach_frame]
  · simp only [finish_frame _ _ hdep, hzone, reach_frame]
  · rintro u e q rfl hu hq hlock htotal
    have hstarted (hseat : e.fresh = true → 0 < (reevaluate (reach d s)).seat.free) :=
      finish_started (by simp [ha]) hq ⟨htotal, by rwa [hulock], hseat⟩ (reach d s)
    rw [htnow, hrechecks hu]
    constructor
    · intro hfresh hfree
      obtain ⟨hhistory, kfree, kbound⟩ := hstarted fun _ => hfree
      rw [if_pos hfresh] at kfree kbound
      obtain ⟨bfree, bbound⟩ := bindSeat_seat hfree
      exact ⟨hhistory.trans (congrArg _ hunow), by rw [kfree, bfree], by rw [kbound, bbound]⟩
    · intro hfresh
      obtain ⟨hhistory, kfree, kbound⟩ := hstarted fun h => absurd h (by simp [hfresh])
      rw [if_neg (by simp [hfresh])] at kfree kbound
      exact ⟨hhistory.trans (congrArg _ hunow), kfree, kbound⟩
  · rintro u e q p rfl hu hq hlock hr hheld hseat hp htotal
    rw [htnow, hrechecks hu]
    obtain ⟨hwindow, hqueue, hlit⟩ := finish_lights (s := reach d s) hr ha hheld hd hsr hu hq hp
      ⟨htotal, by rwa [hulock], hseat⟩ (reach d s)
    exact ⟨hwindow, finish_tent _ hwindow, hqueue, _, hlit, rfl, rfl, rfl, rfl, rfl⟩
  · rintro u e q rfl hu hq
    rw [htnow, hrechecks hu]
    constructor
    · intro hlarge
      rw [recheck_too_large hq hlarge, hunow]
      exact finish_withdrawn (s := reach d s) (x := some ((reach d s).now + ms 100)) ha hd hsr hu hq
        (gatesShut_of_retry (by simp)) (reach d s)
    · intro htotal hgates
      rw [recheck_gates_shut hq htotal (by rwa [hulock])]
      have hshut : GatesShut (closeWindow (reevaluate (reach d s))) := gatesShut_closed hq (by rwa [hulock])
      obtain ⟨hwindow, htent, hretry, hqueue, hhistory⟩ := finish_withdrawn (s := reach d s)
        (x := (reevaluate (reach d s)).budget.retry) ha hd hsr hu hq hshut (reach d s)
      exact ⟨hwindow, htent, hretry.trans (by simp), hqueue, hhistory⟩

end Sys2Proof.Machine
end
